-- ==== Sys2Proof/Word.lean ====
section
/-! DEFINITION. The ring word: 16 bits (spec/00_scope.md §5.4, spec/13 opening). -/

namespace Sys2Proof

/-- A ring word, a table word, a configuration memory word: 16 bits, bit 15 the most significant. -/
abbrev Word := BitVec 16

/-- The word that reports a faulty sample and reads as "none" in a whole word (R27, §13.7). -/
abbrev Word.ffff : Word := 0xFFFF#16

end Sys2Proof
end

