-- ==== Sys2Proof/Config.lean ====
section
/-! DEFINITION. What the spec fixes for the device (capacities, addresses, page map) and the values it
leaves open (free values, without a body). -/

namespace Sys2Proof.Config

/-- Broadcast ring address (§5.3). -/
abbrev broadcast : Nat := 31
/-- Setup address, the answering address while SETUP is high (§5.3, R8). -/
abbrev setupAddress : Nat := 30
/-- Capacity of the Forward Queue (R10). -/
abbrev forwardCapacity : Nat := 16
/-- Places of the Origin Queue, frames and reservations together (R11, R12). -/
abbrev originCapacity : Nat := 24
/-- Capacity of the Management Request Queue (R6). -/
abbrev requestCapacity : Nat := 8
/-- The grant distance while no bank is live (R14). -/
abbrev defaultGrantDistance : Nat := 4
/-- Pages of a bank and words of a page (§10.1). -/
abbrev pages : Nat := 79
abbrev pageWords : Nat := 64
/-- Parameter page numbers (§10.1). -/
abbrev nodeMapPage : Nat := 64
abbrev scalePage : Nat := 65
abbrev setpointPage : Nat := 69
abbrev allocationPage : Nat := 73
abbrev plantPage : Nat := 74
abbrev tankPage : Nat := 75
abbrev filterPage : Nat := 76
abbrev cyclePage : Nat := 77
abbrev controlPage : Nat := 78
/-- The signature and the format version of the configuration memory (§13.5). -/
abbrev signature : Word := 0x2808#16
abbrev formatVersion : Word := 1#16

/-- FREE VALUE (log 14). R159: while a page is being written "its words may be partly old and partly new".
`tornNew n o` is whether, at the n-th tear, the word at offset o already held its new content when the write
was cut off. Nothing constrains it. -/
opaque tornNew : Nat → Nat → Bool

end Sys2Proof.Config
end

