-- ==== Sys2Proof/Syntax.lean ====
section
/-! DEFINITION. The commands of the block: one constructor of `Instr` per row of spec/opcode_table.json, with the
operands its event carries, and the types of those operands. -/

namespace Sys2Proof

/-- The fields of a zone's readings (§3.1). -/
inductive ZoneField where
  | pmFine | pmCoarse | rh | temp | voc | occupancy
  deriving DecidableEq, Repr

/-- The quality of a stored reading (§3.1). -/
inductive Quality where
  | none | good | clamped | fault
  deriving DecidableEq, Repr

/-- The run level (§12.3). -/
inductive RunLevel where
  | unconfigured | active | watch | halt
  deriving DecidableEq, Repr

/-- The outputs whose changes are posted (R88). -/
inductive Output where
  | compressor | heater | pump
  deriving DecidableEq, Repr

/-- The members of the inhibit set (R80). -/
inductive Inhibit where
  | door | tank | airflow | run | halt | pump
  deriving DecidableEq, Repr

/-- The cycle kinds (chapter 8). -/
inductive CycleKind where
  | defrost | pumpOut | regen | profile
  deriving DecidableEq, Repr

/-- The reasons of FAILED (R124). -/
inductive FailReason where
  | noFlow | airflow | noData
  deriving DecidableEq, Repr

/-- The reasons of ABORTED (R124). -/
inductive AbortReason where
  | host | door | runLevel | reset | suspendLimit | held | noTank
  deriving DecidableEq, Repr

/-- The outcome of a cycle (R124). -/
inductive CycleOutcome where
  | none | done | doneTimed
  | failed (r : FailReason)
  | aborted (r : AbortReason)
  | cancelled
  deriving DecidableEq, Repr

/-- The filter stages (chapter 9). -/
inductive Stage where
  | pre | fine | sorb
  deriving DecidableEq, Repr

/-- The tank states (R114). -/
inductive TankState where
  | drain | unknown | normal | near | full | out
  deriving DecidableEq, Repr

/-- The sticky flags of the flag record (R176). -/
inductive StickyFlag where
  | ringCrc | ringOvf | frameErr | unmappedSrc | storeFail | cycleFail | wake
  deriving DecidableEq, Repr

/-- The conditions of the flag record (R176). -/
inductive Condition where
  | tankNear | tankFull | tankOut | filterWorn | filterSpent | doorOpen | dryHeld | blowerFault | pumpFault
  | unconfigured
  deriving DecidableEq, Repr

/-- A pressure-drop curve: points (blower step, pascal) in step order (§9.1). -/
abbrev Curve := List (Nat × Nat)

/-- The level of the straps at the end of a reset (R7, R180). -/
structure Straps where
  addr   : BitVec 5
  autold : Bool
  deriving DecidableEq, Repr

/-- The Allocation record (R68). Per-zone lists are in zone order. -/
structure AllocRecord where
  sweep     : Nat
  idle      : Bool
  step      : Nat
  airflow   : Nat
  applied   : Bool
  effective : List Nat
  request   : List Nat
  assigned  : List Nat
  position  : List (Option Nat)
  deriving DecidableEq, Repr

/-- A damper request of the allocator's event (R70): DAMPER node address, port, position. -/
structure DamperRequest where
  node     : Nat
  port     : Nat
  position : Nat
  deriving DecidableEq, Repr

/-- The output a plan claims (R78): a damper names its zone, node and port. -/
inductive Target where
  | blower
  | damper (zone node port : Nat)
  | compressor
  | heater
  | pump
  deriving DecidableEq, Repr

/-- One claim of a cycle plan (R78). -/
structure Claim where
  target : Target
  value  : Nat
  deriving DecidableEq, Repr

/-- The tank report of R117. -/
structure TankReport where
  state    : TankState
  estimate : Nat
  known    : Bool
  certain  : Bool
  probe    : Option Nat
  empty    : Bool
  deriving DecidableEq, Repr

/-- The commands, in the order of the table. A plant sample carries its value and its quality, GOOD or CLAMPED, and is none for
a fault report, whose quality is FAULT (R27, R29). `sent` is how many words of the frame on the port were out as RST_N went low
(log 11); `arriving` says that a run is being received as SOFT RESET is taken (R19), `between` that a page completion was taken
with it and the next page had not begun (R170, log 46). Where they are not written, nothing was sent and neither holds. -/
inductive Instr where
  | powerOn (straps : Straps)
  | rstNLow (sent : Nat := 0)
  | rstNRelease (straps : Straps)
  | setupLineChange (high : Bool)
  | doorLineChange (isOpen : Bool)
  | floatLineChange (raised : Bool)
  | rxFrame (words : List Word)
  | transmitGrant
  | dirtyRowOffer
  | noteOwedOffer
  | sweepTimerExpiry
  | ringRunLevelChange (level : RunLevel)
  | ringSwapTaken
  | softResetTaken (arriving between : Bool := false)
  | defrostRegimeSet
  | defrostRegimeClear
  | translatorOutputChanged (output : Output) (value : Nat)
  | regenActive
  | regenInactive
  | zoneStore (zone : Fin 8) (field : ZoneField) (value : Int) (quality : Quality)
  | zoneFaultReport (zone : Fin 8) (field : ZoneField)
  | boostToggle (zone : Fin 8)
  | windowOpen (zone : Fin 8)
  | windowShut (zone : Fin 8)
  | regimeChanged
  | sweepClose (n : Nat) (complete : Bool)
  | boostTimerExpiry (zone : Fin 8)
  | windowTimerExpiry (zone : Fin 8)
  | zoneSwapTaken
  | zoneReview (n : Nat)
  | normalRequests (step : Nat) (dampers : List DamperRequest)
  | runRequest (output : Output) (value : Nat)
  | stopRequest (output : Output)
  | cyclePlan (kind : CycleKind) (claims : List Claim)
  | planRelease
  | inhibitClaim (member : Inhibit)
  | inhibitRelease (member : Inhibit)
  | blowerFbSample (sample : Option (Nat × Quality))
  | minOnExpiry
  | minOffExpiry
  | settleTimerExpiry
  | interlockSweepBegin (n : Nat)
  | interlockSwapTaken
  | dryingAllocation (record : AllocRecord)
  | dryingOutputOn (output : Output)
  | dryingOutputOff (output : Output)
  | dryingCoilTemp (sample : Option (Int × Quality))
  | dryingCycleOutcome (kind : CycleKind) (outcome : CycleOutcome)
  | deposit (value : Nat) (saturated : Bool)
  | removal (value : Nat) (saturated : Bool)
  | uncertain
  | tankLevel (sample : Option (Fin 16 × Quality))
  | tankOut
  | tankIn
  | pumpOutOutcome (outcome : CycleOutcome)
  | waterSwapTaken
  | cycleRequest (kind : CycleKind)
  | cycleCoilTemp (sample : Option (Int × Quality))
  | dpSample (stage : Stage) (sample : Option (Nat × Quality))
  | pumpFlow (sample : Option (Nat × Quality))
  | tankReport (report : TankReport)
  | cycleOutputChanged (output : Output) (value : Nat)
  | airflowLost
  | cycleRunLevelChange (level : RunLevel)
  | stepTimerExpiry
  | cycleTimerExpiry
  | filterAllocation (record : AllocRecord)
  | profileOutcome (outcome : CycleOutcome) (result : List (Option Curve))
  | filterSwapTaken
  | banksSweepBegin (n : Nat)
  | sweepsDisabled
  | validationComplete
  | commitComplete
  | copyPageComplete
  | erasePageComplete
  | loaderReadComplete (words : List Word)
  | loaderWriteComplete
  | flagSetClaim (flag : StickyFlag)
  | conditionPost (condition : Condition) (truth : Bool)
  | muRunLevelChange (level : RunLevel)
  | wakeEvent (field : ZoneField) (value : Int)
  | rcSwapTaken
  | readStatus
  | ackFlags
  | setNoteMask
  | clearFault
  | readZone
  | readFilter
  | setFilterCharge
  | filterReset
  | readTank
  | readCycle
  | requestCycle
  | abortCycle
  | setRegime
  | setRunLevel
  | loadStaging
  | clearStaging
  | commitPage (calEn : Bool)
  | copyLive
  | eraseShadow (calEn : Bool)
  | swapBanks
  | readTable
  | setAddress
  | softReset
  | unassignedRequest
  deriving DecidableEq, Repr

end Sys2Proof
end

