-- ==== Sys2Proof/WellFormed.lean ====
section
/-! DEFINITION. Which commands carry operands in the ranges their rules give. -/

namespace Sys2Proof

/-- The unit range of a zone field (§2.6): low and high. -/
def ZoneField.unitRange : ZoneField → Int × Int
  | .pmFine => (0, 1000)
  | .pmCoarse => (0, 1000)
  | .rh => (0, 1000)
  | .temp => (-400, 850)
  | .voc => (0, 500)
  | .occupancy => (0, 1)

/-- A value within a zone field's unit range (§2.6). -/
def ZoneField.inRange (f : ZoneField) (v : Int) : Bool :=
  decide (f.unitRange.1 ≤ v) && decide (v ≤ f.unitRange.2)

/-- R27, R29: a sample is sent GOOD or CLAMPED. -/
def Quality.ofSample (q : Quality) : Bool := decide (q = .good) || decide (q = .clamped)

/-- A sample that is a fault report or lies within 0 and a bound (§2.6). -/
def sampleUpTo (bound : Nat) : Option (Nat × Quality) → Bool
  | none => true
  | some x => decide (x.1 ≤ bound) && x.2.ofSample

/-- A coil temperature sample: a fault report or −400 to +850 (§2.6). -/
def coilTempOk : Option (Int × Quality) → Bool
  | none => true
  | some x => decide (-400 ≤ x.1) && decide (x.1 ≤ 850) && x.2.ofSample

/-- A claim's value lies in its row's value range (§5.1). -/
def Claim.wf (c : Claim) : Bool :=
  match c.target with
  | .blower => decide (c.value ≤ 7)
  | .damper z n p => decide (z < 8) && decide (n < 32) && decide (p < 4) && decide (c.value ≤ 100)
  | .compressor => decide (c.value ≤ 1)
  | .heater => decide (c.value ≤ 100)
  | .pump => decide (c.value ≤ 1)

/-- A damper request names a ring address, a port 0–3 and a position 0–100 (R70). -/
def DamperRequest.wf (d : DamperRequest) : Bool :=
  decide (d.node < 32) && decide (d.port < 4) && decide (d.position ≤ 100)

/-- An Allocation record's fields lie in the ranges of R68. -/
def AllocRecord.wf (r : AllocRecord) : Bool :=
  decide (r.sweep < 256) && decide (r.step ≤ 7) && decide (r.airflow ≤ 2000) &&
  decide (r.effective.length = 8) && decide (r.request.length = 8) &&
  decide (r.assigned.length = 8) && decide (r.position.length = 8) &&
  r.effective.all (fun e => decide (e ≤ 100)) && r.request.all (fun q => decide (q ≤ 2000)) &&
  r.assigned.all (fun a => decide (a ≤ 2000)) &&
  r.position.all (fun p => match p with | none => true | some v => decide (v ≤ 100))

/-- An output value lies in its row's range (§5.1). -/
def Output.valueOk (o : Output) (v : Nat) : Bool :=
  match o with
  | .compressor => decide (v ≤ 1)
  | .heater => decide (v ≤ 100)
  | .pump => decide (v ≤ 1)

/-- A run request carries 1 for the compressor and 1–100 for the heater; the pump has none (R77, R98). -/
def Output.runOk (o : Output) (v : Nat) : Bool :=
  match o with
  | .compressor => decide (v = 1)
  | .heater => decide (1 ≤ v) && decide (v ≤ 100)
  | .pump => false

/-- A curve holds steps 1–7 in rising order with 0–2000 pascal (§9.1). -/
def Curve.wf (c : Curve) : Bool :=
  c.all (fun p => decide (1 ≤ p.1) && decide (p.1 ≤ 7) && decide (p.2 ≤ 2000)) &&
  decide ((c.map Prod.fst).Pairwise (· < ·))

/-- The well-formed commands: operands in the ranges of the rules that give them. -/
def Instr.wf : Instr → Bool
  | .rxFrame ws => decide (ws ≠ [])
  | .zoneStore _ f v q => f.inRange v && q.ofSample
  | .translatorOutputChanged o v => o.valueOk v
  | .cycleOutputChanged o v => o.valueOk v
  | .sweepClose n _ => decide (n < 256)
  | .zoneReview n => decide (n < 256)
  | .interlockSweepBegin n => decide (n < 256)
  | .banksSweepBegin n => decide (n < 256)
  | .normalRequests s ds => decide (s ≤ 7) && ds.all DamperRequest.wf
  | .runRequest o v => o.runOk v
  | .stopRequest o => decide (o ≠ .pump)
  | .cyclePlan _ cs => cs.all Claim.wf
  | .inhibitClaim m => decide (m ≠ .door)
  | .inhibitRelease m => decide (m ≠ .door)
  | .blowerFbSample v => sampleUpTo 7 v
  | .dryingAllocation r => r.wf
  | .filterAllocation r => r.wf
  | .dryingCoilTemp v => coilTempOk v
  | .cycleCoilTemp v => coilTempOk v
  | .dryingCycleOutcome k _ => decide (k = .defrost) || decide (k = .regen)
  | .deposit v _ => decide (v ≤ 65535)
  | .removal v _ => decide (v ≤ 65535)
  | .tankLevel v => v.all fun x => x.2.ofSample
  | .dpSample _ v => sampleUpTo 2000 v
  | .pumpFlow v => sampleUpTo 5000 v
  | .tankReport r => match r.probe with | none => true | some l => decide (l ≤ 15)
  | .profileOutcome _ rs => rs.all (fun c => match c with | none => true | some c => c.wf)
  | .loaderReadComplete ws => decide (ws.length = 3) || decide (ws.length = 64)
  | .wakeEvent f v => f.inRange v && (decide (f = .pmFine) || decide (f = .rh) || decide (f = .voc))
  | .powerOn _ | .rstNLow _ | .rstNRelease _ | .setupLineChange _ | .doorLineChange _ | .floatLineChange _
  | .transmitGrant | .dirtyRowOffer | .noteOwedOffer | .sweepTimerExpiry | .ringRunLevelChange _
  | .ringSwapTaken | .softResetTaken _ _ | .defrostRegimeSet | .defrostRegimeClear | .regenActive | .regenInactive
  | .zoneFaultReport _ _ | .boostToggle _ | .windowOpen _ | .windowShut _ | .regimeChanged
  | .boostTimerExpiry _ | .windowTimerExpiry _ | .zoneSwapTaken | .planRelease | .minOnExpiry | .minOffExpiry
  | .settleTimerExpiry | .interlockSwapTaken | .dryingOutputOn _ | .dryingOutputOff _ | .uncertain | .tankOut
  | .tankIn | .pumpOutOutcome _ | .waterSwapTaken | .cycleRequest _ | .airflowLost | .cycleRunLevelChange _
  | .stepTimerExpiry | .cycleTimerExpiry | .filterSwapTaken | .sweepsDisabled | .validationComplete
  | .commitComplete | .copyPageComplete | .erasePageComplete | .loaderWriteComplete | .flagSetClaim _
  | .conditionPost _ _ | .muRunLevelChange _ | .rcSwapTaken | .readStatus | .ackFlags | .setNoteMask
  | .clearFault | .readZone | .readFilter | .setFilterCharge | .filterReset | .readTank | .readCycle
  | .requestCycle | .abortCycle | .setRegime | .setRunLevel | .loadStaging | .clearStaging | .commitPage _
  | .copyLive | .eraseShadow _ | .swapBanks | .readTable | .setAddress | .softReset | .unassignedRequest => true

end Sys2Proof
end

