-- ==== Sys2Proof/Decode.lean ====
section
/-! DEFINITION. The decoder over the table's bits. Every row of spec/opcode_table.json has an empty "fields" list
and no "fixed" bits (spec/98_reader.md: n_rows_with_fixed 0): commands reach this block as frames, line changes and
posted events, not as words. So no word spells a command. -/

namespace Sys2Proof

/-- The command a word of the table spells: none, for no row gives bits. -/
def decodeTableWord (_nbits _w : Nat) : Option Instr := none

end Sys2Proof
end

