-- ==== Sys2Proof/Machine/State.lean ====
section
/-! DEFINITION. The state of the device: every register, queue, record, timer, mark and line the spec gives it, as
plain data, and its value right after reset. -/

namespace Sys2Proof.Machine

/-- The spec names no event that stops the device, so no command raises a fault: the type is empty. -/
inductive Fault where
  deriving DecidableEq, Repr

/-- Why a command has no meaning. -/
inductive Refusal where
  /-- Raised by a command that has no meaning yet: safe, for the model says nothing about it. -/
  | notModelled (mnemonic : String)
  deriving DecidableEq, Repr

/-- A word-addressed memory: (address, word) pairs, addresses rising, no entry 0; an unlisted address reads 0
(R168, R169). The canonical form is `Memory.wf` in Machine/Ops.lean. -/
abbrev Memory := List (Nat × Word)

/-- The lines of §4. `tx` is the run of words the device last put on TX; `txOpen`: RST_N cut its frame off, and bypassed
words follow it without idle (R9). -/
structure Lines where
  setup  : Bool
  calEn  : Bool
  door   : Bool
  float  : Bool
  addr   : BitVec 5
  autold : Bool
  tx     : List Word
  txOpen : Bool
  deriving DecidableEq, Repr

/-- A frame of the Origin Queue (R11). `soft` marks the answer to SOFT RESET (R178). -/
inductive OriginFrame where
  | act (dst src function port value : Nat)
  | mrsp (dst src : Nat) (payload : List Word) (soft : Bool)
  | note (dst src : Nat) (flags conditions : Word) (level : RunLevel)
  deriving DecidableEq, Repr

/-- The POLL of the POLL slot (R13). -/
structure Poll where
  src    : Nat
  number : Nat
  watch  : Bool
  deriving DecidableEq, Repr

/-- The frame the transmit port is sending (R14). -/
structure Sending where
  words : List Word
  soft  : Bool
  deriving DecidableEq, Repr

/-- Ring Interface (chapter 1). `level` is the run level as last posted to it (log 16), `lastBegin` the number of
the last sweep begin posted since the reset (log 17), `discard` that the run being received at a SOFT RESET will be
discarded (R19). -/
structure Ring where
  own         : Nat
  forward     : List (List Word)
  origin      : List OriginFrame
  reserved    : Bool
  slot        : Option Poll
  headWait    : Option Nat
  port        : Option Sending
  nextNumber  : Nat
  outstanding : Option Nat
  late        : Nat
  timer       : Option Nat
  enabled     : Bool
  level       : RunLevel
  lastBegin   : Option Nat
  discard     : Bool
  deriving DecidableEq, Repr

/-- The gate conditions (§2.8). -/
inductive Gate where
  | compressor | heater | pump | regen
  deriving DecidableEq, Repr

/-- The definition of an accumulator (§2.8): its gate, and whether it posts removals. -/
structure AccDef where
  gate    : Gate
  removal : Bool
  deriving DecidableEq, Repr

/-- An accumulator (§2.8): OPEN while it holds a definition. -/
structure Acc where
  held      : Option AccDef
  sum       : Nat
  saturated : Bool
  deriving DecidableEq, Repr

/-- The gate record (R31). -/
structure Gates where
  compressor : Bool
  heater     : Bool
  pump       : Bool
  regen      : Bool
  deriving DecidableEq, Repr

/-- Sample Translator (chapter 2): 32 pending-page marks, the regime record, the gate record, four accumulators. -/
structure Translator where
  marks   : List Bool
  night   : Bool
  defrost : Bool
  gates   : Gates
  accs    : List Acc
  deriving DecidableEq, Repr

/-- The state of a zone (§3.1). -/
inductive ZoneState where
  | absent | waiting | live | stale
  deriving DecidableEq, Repr

/-- One reading (§3.1). -/
structure Reading where
  value   : Int
  quality : Quality
  deriving DecidableEq, Repr

/-- The six readings of a zone (§3.1). -/
structure Readings where
  pmFine    : Reading
  pmCoarse  : Reading
  rh        : Reading
  temp      : Reading
  voc       : Reading
  occupancy : Reading
  deriving DecidableEq, Repr

/-- A Zone Record (§3.1). A hold is on while its timer, in seconds, is present (R50). -/
structure Zone where
  state     : ZoneState
  head      : Option Nat
  readings  : Readings
  stored    : Bool
  lastSweep : Option Nat
  missed    : Nat
  boost     : Option Nat
  window    : Option Nat
  cleanMark : Bool
  dryMark   : Bool
  clean     : Nat
  dry       : Nat
  deriving DecidableEq, Repr

/-- Airflow Allocator (chapter 4). -/
structure Allocator where
  record : Option AllocRecord
  order  : List Nat
  ages   : List Nat
  door   : Bool
  deriving DecidableEq, Repr

/-- Which output a row of the Actuator Command Table drives (§5.1). -/
inductive RowKind where
  | blower
  | damper (zone : Nat)
  | compressor
  | heater
  | pump
  deriving DecidableEq, Repr

/-- A row of the Actuator Command Table (§5.1). -/
structure Row where
  kind      : RowKind
  dst       : Nat
  port      : Nat
  normal    : Option Nat
  cycle     : Option Nat
  resolved  : Nat
  commanded : Nat
  lastSent  : Option Nat
  dirty     : Bool
  deriving DecidableEq, Repr

/-- The inhibit set (R80). -/
structure Inhibits where
  door    : Bool
  tank    : Bool
  airflow : Bool
  run     : Bool
  halt    : Bool
  pump    : Bool
  deriving DecidableEq, Repr

/-- The compressor's on-time or off-time (R81). -/
inductive CompClock where
  | on (seconds : Nat)
  | off (seconds : Nat)
  deriving DecidableEq, Repr

/-- Plant Interlock (chapter 5). `settle`: none is stopped, some 0 is expired (R84). -/
structure Interlock where
  rows       : List Row
  leaving    : List Row
  heldBlower : Option Nat
  heldComp   : Option Nat
  heldHeater : Option Nat
  inhibits   : Inhibits
  proof      : Bool
  mismatch   : Nat
  settle     : Option Nat
  fault      : Bool
  clock      : CompClock
  deriving DecidableEq, Repr

/-- A drying method (§6.1); NONE is the absence of one. -/
inductive Method where
  | compressor | desiccant
  deriving DecidableEq, Repr

/-- The state of the Drying Controller, HELD with its reason (R92). -/
inductive DryState where
  | off | starting | running | stopping | heldNoMethod | heldForced
  deriving DecidableEq, Repr

/-- Drying Controller (chapter 6). -/
structure Drying where
  state      : DryState
  want       : Bool
  method     : Option Method
  next       : Option Method
  compOn     : Bool
  heaterOn   : Bool
  frost      : Nat
  saturation : Nat
  deriving DecidableEq, Repr

/-- The tank's kind (§7.1). -/
inductive TankKind where
  | tank | drain
  deriving DecidableEq, Repr

/-- Water Monitor (chapter 7). `fitted` is the pump-fitted field as last taken (log 18). -/
structure Water where
  kind      : Option TankKind
  state     : TankState
  estimate  : Nat
  known     : Bool
  certain   : Bool
  probe     : Option Nat
  float     : Bool
  removed   : Bool
  pumpFault : Bool
  fitted    : Bool
  deriving DecidableEq, Repr

/-- The step of a cycle (R124). -/
inductive CycleStep where
  | melt | prime | drain | heat | purge
  | settle (k : Nat)
  | measure (k : Nat)
  deriving DecidableEq, Repr

/-- A PROFILE's own data (R133): per stage in the order PRE, FINE, SORB. `waiting`: MEASURE waits. -/
structure ProfileData where
  top     : Nat
  fitted  : List Bool
  points  : List Curve
  sums    : List (Nat × Nat)
  waiting : Bool
  deriving DecidableEq, Repr

/-- The record of one cycle present (R124); its place is where it stands. `active`: it was posted REGEN active. `plan`,
`endTemp` and `flowTime` are the plan, the defrost end temperature and the pump flow timeout read as the step under way
started (R128). -/
structure Cycle where
  kind       : CycleKind
  held       : Bool
  step       : CycleStep
  stepTimer  : Option Nat
  cycleTimer : Option Nat
  completed  : Nat
  suspends   : Nat
  active     : Bool
  plan       : List Claim
  endTemp    : Int
  flowTime   : Nat
  profile    : ProfileData
  deriving DecidableEq, Repr

/-- The outcome record of a kind (R124). -/
structure OutcomeRecord where
  outcome   : CycleOutcome
  endSweep  : Option Nat
  completed : Nat
  deriving DecidableEq, Repr

/-- Cycle Engine (chapter 8). -/
structure CycleEngine where
  queue     : List Cycle
  running   : Option Cycle
  suspended : Option Cycle
  defrost   : OutcomeRecord
  pumpOut   : OutcomeRecord
  regen     : OutcomeRecord
  profile   : OutcomeRecord
  door      : Bool
  level     : RunLevel
  tankHold  : Bool
  deriving DecidableEq, Repr

/-- The state of a filter stage (§9.1). -/
inductive StageState where
  | fresh | inService | worn | spent
  deriving DecidableEq, Repr

/-- The profile verdict (§9.1). -/
inductive Verdict where
  | none | worn | spent
  deriving DecidableEq, Repr

/-- A Filter Stage Record (§9.1). -/
structure StageRecord where
  fitted     : Bool
  state      : StageState
  charge     : Nat
  verdict    : Verdict
  baseline   : Option Curve
  last       : Option Curve
  doorOpened : Bool
  runSweeps  : Nat
  deriving DecidableEq, Repr

/-- Filter Monitor (chapter 9). -/
structure Filters where
  pre         : StageRecord
  fine        : StageRecord
  sorb        : StageRecord
  door        : Bool
  derate      : Nat
  baselineReq : Bool
  deriving DecidableEq, Repr

/-- The two banks (§10.1). -/
inductive BankId where
  | a | b
  deriving DecidableEq, Repr

/-- The status of a page (§10.1). -/
inductive PageStatus where
  | empty | written | torn
  deriving DecidableEq, Repr

/-- One bank: its words at page × 64 + offset, its page statuses and its generation stamp (§10.1). -/
structure Bank where
  mem    : Memory
  status : List PageStatus
  stamp  : Option Nat
  deriving DecidableEq, Repr

/-- The store engine (R159). A commit is validating or writing its page; `keepCal`: CAL_EN was sampled low (R164). -/
inductive Engine where
  | idle
  | committing (page : Nat) (writing : Bool)
  | copying
  | erasing (keepCal : Bool)
  deriving DecidableEq, Repr

/-- The operations of the store record (R159). -/
inductive StoreOp where
  | commit | copy | erase | load
  deriving DecidableEq, Repr

/-- The outcomes of the store record (R159). -/
inductive StoreOutcome where
  | done
  | failed (offset : Nat)
  | torn
  deriving DecidableEq, Repr

/-- The store record (R159). -/
structure StoreRecord where
  op      : StoreOp
  page    : Option Nat
  outcome : StoreOutcome
  deriving DecidableEq, Repr

/-- Table Banks (chapter 10). -/
structure Banks where
  a           : Bank
  b           : Bank
  live        : Option BankId
  generation  : Nat
  staging     : Memory
  marks       : List Bool
  engine      : Engine
  progress    : Nat
  swapPending : Bool
  record      : Option StoreRecord
  deriving DecidableEq, Repr

/-- A request of the Management Request Queue: the SRC of its MREQ and the payload words (R6, §13.2). -/
structure Request where
  src     : Nat
  payload : List Word
  deriving DecidableEq, Repr

/-- Management Unit (chapter 11). The flag record and the mask stand in the places of NOTE words 0 and 1 (§13.2).
`softWait`: a SOFT RESET was executed and no further request starts (R178). -/
structure Management where
  queue          : List Request
  flags          : Word
  conditions     : Word
  level          : RunLevel
  maskFlags      : Word
  maskConditions : Word
  owed           : Bool
  softWait       : Bool
  deriving DecidableEq, Repr

/-- Why the loader failed (R181). -/
inductive LoadFailure where
  | noMemory | badSignature | badPage | validate | chainLimit | incomplete | swapCheck
  deriving DecidableEq, Repr

/-- What the walk of the configuration memory awaits (R181). -/
inductive Walk where
  | header
  | descriptor (index : Nat) (address : Word)
  | image (index page : Nat) (address next : Word)
  | write (index page : Nat) (words : List Word) (next : Word)
  deriving DecidableEq, Repr

/-- The loader state (chapter 12). -/
inductive Loader where
  | notRun
  | loading (walk : Walk)
  | loaded
  | failed (reason : LoadFailure) (index : Nat)
  deriving DecidableEq, Repr

/-- Run Control (chapter 12). -/
structure RunControl where
  level  : RunLevel
  wake   : Bool
  autold : Bool
  loader : Loader
  deriving DecidableEq, Repr

/-- The device. `held`: RST_N is low (R9). `posts`: the events posted between blocks and not yet taken (log 2).
`free` indexes the free values (log 14), `subTick` counts the 50 ms units of the running second (log 4, log 58), `pending`
is the queue of waiting commands. -/
@[ext]
structure State where
  lines   : Lines
  held    : Bool
  ring    : Ring
  trans   : Translator
  zones   : List Zone
  alloc   : Allocator
  inter   : Interlock
  dry     : Drying
  water   : Water
  cycles  : CycleEngine
  filters : Filters
  banks   : Banks
  mu      : Management
  rc      : RunControl
  posts   : List Instr
  free    : Nat
  subTick : Nat
  pending : List Instr
  deriving DecidableEq, Repr

/-! Updates of one block each; Laws/State.lean has one lemma per field per update. -/

def State.setLines (s : State) (x : Lines) : State := { s with lines := x }
def State.setHeld (s : State) (x : Bool) : State := { s with held := x }
def State.setRing (s : State) (x : Ring) : State := { s with ring := x }
def State.setTrans (s : State) (x : Translator) : State := { s with trans := x }
def State.setZones (s : State) (x : List Zone) : State := { s with zones := x }
def State.setAlloc (s : State) (x : Allocator) : State := { s with alloc := x }
def State.setInter (s : State) (x : Interlock) : State := { s with inter := x }
def State.setDry (s : State) (x : Drying) : State := { s with dry := x }
def State.setWater (s : State) (x : Water) : State := { s with water := x }
def State.setCycles (s : State) (x : CycleEngine) : State := { s with cycles := x }
def State.setFilters (s : State) (x : Filters) : State := { s with filters := x }
def State.setBanks (s : State) (x : Banks) : State := { s with banks := x }
def State.setMu (s : State) (x : Management) : State := { s with mu := x }
def State.setRc (s : State) (x : RunControl) : State := { s with rc := x }
def State.setPosts (s : State) (x : List Instr) : State := { s with posts := x }
def State.setFree (s : State) (x : Nat) : State := { s with free := x }
def State.setSubTick (s : State) (x : Nat) : State := { s with subTick := x }
def State.setPending (s : State) (x : List Instr) : State := { s with pending := x }

/-- R7, R18: the Ring Interface after power-on or RST_N; straps of 30 and 31 are taken as 29. -/
def Ring.atReset (addr : BitVec 5) : Ring where
  own := min addr.toNat 29
  forward := []
  origin := []
  reserved := false
  slot := none
  headWait := none
  port := none
  nextNumber := 0
  outstanding := none
  late := 0
  timer := none
  enabled := false
  level := .unconfigured
  lastBegin := none
  discard := false

/-- A CLOSED accumulator (R31). -/
def Acc.closed : Acc := { held := none, sum := 0, saturated := false }

/-- R41. -/
def Translator.atReset : Translator where
  marks := List.replicate 32 false
  night := false
  defrost := false
  gates := { compressor := false, heater := false, pump := false, regen := false }
  accs := List.replicate 4 Acc.closed

/-- A reading of a fresh record (§3.1). -/
def Reading.fresh : Reading := { value := 0, quality := .none }

/-- A fresh Zone Record in the given state with the given HEAD address (§3.1). -/
def Zone.fresh (state : ZoneState) (head : Option Nat) : Zone where
  state := state
  head := head
  readings := { pmFine := .fresh, pmCoarse := .fresh, rh := .fresh, temp := .fresh, voc := .fresh, occupancy := .fresh }
  stored := false
  lastSweep := none
  missed := 0
  boost := none
  window := none
  cleanMark := false
  dryMark := false
  clean := 0
  dry := 0

/-- An ABSENT zone. -/
def Zone.absentZone : Zone := Zone.fresh .absent none

/-- R75. -/
def Allocator.atReset (door : Bool) : Allocator where
  record := none
  order := []
  ages := List.replicate 8 0
  door := door

/-- R90. -/
def Interlock.atReset (door : Bool) : Interlock where
  rows := []
  leaving := []
  heldBlower := none
  heldComp := none
  heldHeater := none
  inhibits := { door := door, tank := false, airflow := false, run := false, halt := false, pump := false }
  proof := false
  mismatch := 0
  settle := none
  fault := false
  clock := .off 0

/-- R107. -/
def Drying.atReset : Drying where
  state := .off
  want := false
  method := none
  next := none
  compOn := false
  heaterOn := false
  frost := 0
  saturation := 0

/-- R122. -/
def Water.atReset (float : Bool) : Water where
  kind := none
  state := if float then .full else .unknown
  estimate := 0
  known := false
  certain := false
  probe := none
  float := float
  removed := false
  pumpFault := false
  fitted := false

/-- An outcome record with nothing to report (R140). -/
def OutcomeRecord.atReset : OutcomeRecord := { outcome := .none, endSweep := none, completed := 0 }

/-- R140. -/
def CycleEngine.atReset (door : Bool) : CycleEngine where
  queue := []
  running := none
  suspended := none
  defrost := .atReset
  pumpOut := .atReset
  regen := .atReset
  profile := .atReset
  door := door
  level := .unconfigured
  tankHold := true

/-- A fresh stage (§9.1), not fitted (R155). -/
def StageRecord.atReset : StageRecord where
  fitted := false
  state := .fresh
  charge := 0
  verdict := .none
  baseline := none
  last := none
  doorOpened := false
  runSweeps := 0

/-- R155. -/
def Filters.atReset (door : Bool) : Filters where
  pre := .atReset
  fine := .atReset
  sorb := .atReset
  door := door
  derate := 100
  baselineReq := true

/-- A BLANK bank without a stamp (R169). -/
def Bank.blank : Bank := { mem := [], status := List.replicate 79 .empty, stamp := none }

/-- R169. -/
def Banks.atReset : Banks where
  a := .blank
  b := .blank
  live := none
  generation := 0
  staging := []
  marks := List.replicate 64 false
  engine := .idle
  progress := 0
  swapPending := false
  record := none

/-- Every position of the note mask on (R177, §13.2): the sticky flags with bit 15, and the conditions. -/
abbrev fullMaskFlags : Word := 0x807F#16
abbrev fullMaskConditions : Word := 0x03FF#16

/-- R179. -/
def Management.atReset : Management where
  queue := []
  flags := 0#16
  conditions := 0#16
  level := .unconfigured
  maskFlags := fullMaskFlags
  maskConditions := fullMaskConditions
  owed := false
  softWait := false

/-- R180. -/
def RunControl.atReset (autold : Bool) : RunControl where
  level := .unconfigured
  wake := false
  autold := autold
  loader := if autold then .loading .header else .notRun

/-- The posts the blocks make as a full reset completes: DOOR-OPEN with the truth of the line (R90), TANK claimed
and TANK-FULL true when FULL (R122), the run level and UNCONFIGURED true (R180). -/
def resetPosts (door float : Bool) : List Instr :=
  [.conditionPost .doorOpen door, .inhibitClaim .tank] ++
  (if float then [.conditionPost .tankFull true] else []) ++
  [.muRunLevelChange .unconfigured, .conditionPost .unconfigured true]

/-- Every block in its full reset state (R18, R41, R56, R75, R90, R107, R122, R140, R155, R169, R179, R180), with the
lines as given. -/
def State.atReset (lines : Lines) (free : Nat) (pending : List Instr) : State where
  lines := lines
  held := false
  ring := .atReset lines.addr
  trans := .atReset
  zones := List.replicate 8 .absentZone
  alloc := .atReset lines.door
  inter := .atReset lines.door
  dry := .atReset
  water := .atReset lines.float
  cycles := .atReset lines.door
  filters := .atReset lines.door
  banks := .atReset
  mu := .atReset
  rc := .atReset lines.autold
  posts := resetPosts lines.door lines.float
  free := free
  subTick := 0
  pending := pending

/-- The lines of `State.reset`: inputs whose level the spec does not give. DESIGN CHOICE (log 9): SETUP and CAL_EN
low, door closed, float down, straps 0, nothing on TX yet. -/
def Lines.quiet : Lines where
  setup := false
  calEn := false
  door := false
  float := false
  addr := 0#5
  autold := false
  tx := []
  txOpen := false

/-- The device right after reset. -/
def State.reset : State := State.atReset Lines.quiet 0 []

end Sys2Proof.Machine
end

