-- ==== Sys2Proof/Machine/Operands.lean ====
section
/-! DEFINITION. Reading and building words: bit fields, frames and their CHECK, action entries, Node Map entries and
the codes of chapter 13. -/

namespace Sys2Proof.Machine

/-- The unsigned number in bits lo+n−1 … lo of a word (chapter 13, opening). -/
def bits (w : Word) (lo n : Nat) : Nat := (w.toNat / 2 ^ lo) % 2 ^ n

/-- One bit of a word. -/
def bit (w : Word) (i : Nat) : Bool := w.getLsbD i

/-- A number as a word. -/
def word (n : Nat) : Word := BitVec.ofNat 16 n

/-- A signed number as a word, two's complement (chapter 13, opening). -/
def wordOfInt (i : Int) : Word := BitVec.ofInt 16 i

/-- A yes/no field as a number (§13.7). -/
def flag (b : Bool) : Nat := if b then 1 else 0

/-- A value that may be none, in a whole word: none is FFFFh (§13.7). -/
def wordOrNone : Option Nat → Word
  | none => .ffff
  | some n => word n

/-! ### CHECK (R2) -/

/-- One bit of the CRC-16 with generator x^16 + x^12 + x^5 + 1 (R2). -/
def crcBit (reg : Word) (b : Bool) : Word :=
  if reg.msb != b then (reg <<< 1) ^^^ 0x1021#16 else reg <<< 1

/-- The low n bits of a word into the CRC, most significant first (R2). -/
def crcBits (w : Word) : Nat → Word → Word
  | 0, reg => reg
  | n + 1, reg => crcBits w n (crcBit reg (w.getLsbD n))

/-- The CHECK over words in ring order: the register starts at FFFFh and is not inverted (R2). -/
def check (ws : List Word) : Word := ws.foldl (fun reg w => crcBits w 16 reg) 0xFFFF#16

/-! ### Frames (§13.1, §13.2) -/

/-- KIND codes (§13.1). -/
abbrev kindPoll : Nat := 1
abbrev kindSample : Nat := 2
abbrev kindAct : Nat := 3
abbrev kindMreq : Nat := 4
abbrev kindMrsp : Nat := 5
abbrev kindNote : Nat := 6

/-- The words of a frame the device originates: header, payload, CHECK (R2, R3, §13.1). -/
def frameWords (dst src kind : Nat) (payload : List Word) : List Word :=
  let body := word (dst * 256 + src) :: word (kind * 256 + payload.length) :: payload
  body ++ [check body]

/-- A received frame's fields at their positions; the bits marked 0 are not tested (R187). -/
structure Frame where
  dst     : Nat
  src     : Nat
  kind    : Nat
  payload : List Word
  deriving DecidableEq, Repr

/-- R1: the run is well-formed when it holds 3 to 11 words, LEN is 8 or less and the number of words is LEN plus 3. -/
def wellFormedRun (ws : List Word) : Bool :=
  match ws with
  | _ :: h1 :: _ =>
    decide (3 ≤ ws.length) && decide (ws.length ≤ 11) && decide (bits h1 0 4 ≤ 8) &&
      decide (ws.length = bits h1 0 4 + 3)
  | _ => false

/-- R2: the CHECK word is the CRC over the words before it. -/
def checkOk (ws : List Word) : Bool := ws.getLast? == some (check ws.dropLast)

/-- The fields of a well-formed run (§13.1, §13.2). -/
def parseFrame (ws : List Word) : Frame :=
  let h0 := ws.getD 0 0#16
  let h1 := ws.getD 1 0#16
  { dst := bits h0 8 5, src := bits h0 0 5, kind := bits h1 8 4, payload := (ws.drop 2).dropLast }

/-- The pairs of a SAMPLE payload: channel word, value word (§13.2). -/
def samplePairs : List Word → List (Word × Word)
  | c :: v :: rest => (c, v) :: samplePairs rest
  | _ => []

/-- The run level's code (§13.2). -/
def levelCode : RunLevel → Nat
  | .unconfigured => 0
  | .active => 1
  | .watch => 2
  | .halt => 3

/-- The run level of a code (§13.2). -/
def levelOfCode : Nat → Option RunLevel
  | 0 => some .unconfigured
  | 1 => some .active
  | 2 => some .watch
  | 3 => some .halt
  | _ => none

/-- The words of the POLL in the slot (R3, §13.2). -/
def Poll.words (p : Poll) : List Word :=
  frameWords Config.broadcast p.src kindPoll [word (flag p.watch * 32768 + p.number)]

/-- The words of a frame of the Origin Queue (R3, §13.2). -/
def OriginFrame.words : OriginFrame → List Word
  | .act dst src fn port value => frameWords dst src kindAct [word (fn * 256 + port), word value]
  | .mrsp dst src payload _ => frameWords dst src kindMrsp payload
  | .note dst src flags conditions level =>
    frameWords dst src kindNote [flags, conditions, word (levelCode level)]

/-- The frame is the answer to SOFT RESET (R178). -/
def OriginFrame.isSoft : OriginFrame → Bool
  | .mrsp _ _ _ soft => soft
  | .act .. => false
  | .note .. => false

/-- The frame is a NOTE. -/
def OriginFrame.isNote : OriginFrame → Bool
  | .note .. => true
  | .act .. => false
  | .mrsp .. => false

/-! ### Action entries (§2.5, §13.4) -/

/-- Where a STORE goes (§2.6). -/
inductive StoreTarget where
  | zone (f : ZoneField)
  | coilTemp
  | blowerFb
  | dp (stage : Stage)
  | tankLevel
  | pumpFlow
  deriving DecidableEq, Repr

/-- Target codes (§13.4). -/
def targetOfCode : Nat → Option StoreTarget
  | 0 => some (.zone .pmFine)
  | 1 => some (.zone .pmCoarse)
  | 2 => some (.zone .rh)
  | 3 => some (.zone .temp)
  | 4 => some (.zone .voc)
  | 5 => some (.zone .occupancy)
  | 6 => some .coilTemp
  | 7 => some .blowerFb
  | 8 => some (.dp .pre)
  | 9 => some (.dp .fine)
  | 10 => some (.dp .sorb)
  | 11 => some .tankLevel
  | 12 => some .pumpFlow
  | _ => none

/-- The unit range of a STORE target (§2.6). -/
def StoreTarget.unitRange : StoreTarget → Int × Int
  | .zone .pmFine => (0, 1000)
  | .zone .pmCoarse => (0, 1000)
  | .zone .rh => (0, 1000)
  | .zone .temp => (-400, 850)
  | .zone .voc => (0, 500)
  | .zone .occupancy => (0, 1)
  | .coilTemp => (-400, 850)
  | .blowerFb => (0, 7)
  | .dp _ => (0, 2000)
  | .tankLevel => (0, 15)
  | .pumpFlow => (0, 5000)

/-- Special codes (§13.4). -/
inductive Special where
  | pageNext | boostToggle | windowOpen | windowShut | tankOut | tankIn
  | void (k : Nat)
  deriving DecidableEq, Repr

/-- Special codes (§13.4). -/
def specialOfCode : Nat → Option Special
  | 0 => some .pageNext
  | 1 => some .boostToggle
  | 2 => some .windowOpen
  | 3 => some .windowShut
  | 4 => some .tankOut
  | 5 => some .tankIn
  | 8 => some (.void 0)
  | 9 => some (.void 1)
  | 10 => some (.void 2)
  | 11 => some (.void 3)
  | _ => none

/-- What an action entry does (R25). -/
inductive Action where
  | ignore
  | store (target : StoreTarget) (scale : Nat) (wake : Bool)
  | accumulate (k scale : Nat)
  | special (code : Special)
  deriving DecidableEq, Repr

/-- R25, §13.4: the action of an entry, none for an unassigned code. The top bit makes it IGNORE. DESIGN CHOICE: an entry of
kind IGNORE without the top bit has no unassigned code, whatever its bits 10–6 (log 62). -/
def entryAction? (w : Word) : Option Action :=
  if bit w 15 then some .ignore
  else match bits w 13 2 with
    | 0 => some .ignore
    | 1 => (targetOfCode (bits w 6 5)).map fun t => .store t (bits w 0 6) (bit w 11)
    | 2 => if bits w 6 5 ≤ 3 then some (.accumulate (bits w 6 5) (bits w 0 6)) else none
    | _ => (specialOfCode (bits w 6 5)).map .special

/-- The action the translator carries out; an unassigned code, which validation refuses, does nothing (log 26). -/
def entryAction (w : Word) : Action := (entryAction? w).getD .ignore

/-- The entry carries the ABSORB mark; one with its top bit set carries none (R25). -/
def entryAbsorbs (w : Word) : Bool := !bit w 15 && bit w 12

/-! ### Node Map entries (§13.4) -/

/-- Node classes (§2.1). -/
abbrev classHead : Nat := 2
abbrev classBlower : Nat := 3
abbrev classDamper : Nat := 4
abbrev classComp : Nat := 5
abbrev classTank : Nat := 6
abbrev classHeater : Nat := 7

/-- The Node Map entry of a ring address (§10.1). -/
structure NodeEntry where
  mapped : Bool
  cls    : Nat
  zone   : Option Nat
  ports  : List (Option Nat)
  deriving DecidableEq, Repr

/-- A zone field: 0–7, or none (§13.4). -/
def zoneField (n : Nat) : Option Nat := if n ≤ 7 then some n else none

/-- The Node Map entry in words 2a and 2a + 1 (§13.4). -/
def nodeEntry (w0 w1 : Word) : NodeEntry where
  mapped := bit w0 15
  cls := bits w0 8 4
  zone := zoneField (bits w0 0 4)
  ports := [zoneField (bits w1 0 4), zoneField (bits w1 4 4), zoneField (bits w1 8 4), zoneField (bits w1 12 4)]

/-! ### Codes of requests and answers (§13.3, §13.7) -/

/-- The request code of a request, none for an MREQ with LEN 0 (§13.2, R187). -/
def Request.code (r : Request) : Option Nat := r.payload.head?.map fun w => bits w 8 8

/-- The argument words of a request (§13.2). -/
def Request.args (r : Request) : List Word := r.payload.tail

/-- Argument word i as a number. -/
def Request.arg (r : Request) (i : Nat) : Nat := (r.args.getD i 0#16).toNat

/-- Reasons of REFUSED with their codes (§13.3). -/
inductive Reason where
  | source | address | locked | validate | notComplete | swapCheck | notServiced | notPresent | fault | condition
  | badArg
  deriving DecidableEq, Repr

def Reason.code : Reason → Nat
  | .source => 1
  | .address => 2
  | .locked => 3
  | .validate => 4
  | .notComplete => 5
  | .swapCheck => 6
  | .notServiced => 7
  | .notPresent => 8
  | .fault => 9
  | .condition => 10
  | .badArg => 11

/-- Results (R173). -/
inductive Result where
  | ok | started | busy | merged | notReady
  | refused (reason : Reason)
  deriving DecidableEq, Repr

/-- Word 1 of an MRSP: result in bits 15–8, reason in bits 7–0 (§13.2). -/
def Result.word : Result → Word
  | .ok => 0x0000#16
  | .started => 0x0100#16
  | .busy => 0x0200#16
  | .merged => 0x0300#16
  | .notReady => 0x0400#16
  | .refused r => Machine.word (0x0500 + r.code)

/-- An answer: a result and its data words (R173). -/
structure Answer where
  result : Result
  data   : List Word
  deriving DecidableEq, Repr

/-- An answer without data. -/
def Answer.plain (r : Result) : Answer := { result := r, data := [] }

/-- A refusal. -/
def Answer.refuse (r : Reason) : Answer := .plain (.refused r)

/-- The cycle kind of a code (§13.3). -/
def cycleKindOfCode : Nat → Option CycleKind
  | 1 => some .defrost
  | 2 => some .pumpOut
  | 3 => some .regen
  | 4 => some .profile
  | _ => none

/-- A kind's code, which is its priority (§13.3). -/
def CycleKind.priority : CycleKind → Nat
  | .defrost => 1
  | .pumpOut => 2
  | .regen => 3
  | .profile => 4

/-- The stage of a code (§13.3). -/
def stageOfCode : Nat → Option Stage
  | 0 => some .pre
  | 1 => some .fine
  | 2 => some .sorb
  | _ => none

/-- A stage's place in lists held per stage. -/
def Stage.index : Stage → Nat
  | .pre => 0
  | .fine => 1
  | .sorb => 2

/-- The gate of a code (§13.4.1). -/
def gateOfCode : Nat → Option Gate
  | 0 => some .compressor
  | 1 => some .heater
  | 2 => some .pump
  | 3 => some .regen
  | _ => none

/-- The ACT function code of a row (§13.2). -/
def RowKind.function : RowKind → Nat
  | .blower => 1
  | .damper _ => 2
  | .compressor => 3
  | .heater => 4
  | .pump => 5

/-- The words of a 24-bit value: bits 23–16, then bits 15–0 (§13.7). -/
def words24 (n : Nat) : List Word := [word (n / 65536 % 256), word (n % 65536)]

end Sys2Proof.Machine
end

