-- ==== Sys2Proof/Machine/Ops.lean ====
section
/-! DEFINITION. The operations every block shares: word memory, the live tables, posting and taking events, the
Origin Queue. -/

namespace Sys2Proof.Machine

/-! ### Word memory -/

/-- The canonical form: addresses strictly rising, and no entry equal to what an unlisted address reads as (0). -/
abbrev Memory.wf (m : Memory) : Prop := m.Pairwise (fun x y => x.1 < y.1) ∧ ∀ e ∈ m, e.2 ≠ 0#16

/-- The word at an address; an unlisted address reads 0 (R168, R169). -/
def Memory.read : Memory → Nat → Word
  | [], _ => 0#16
  | (k, w) :: rest, a => if k = a then w else Memory.read rest a

/-- The memory with one word written; writing 0 removes the entry. -/
def Memory.write : Memory → Nat → Word → Memory
  | [], a, w => if w = 0#16 then [] else [(a, w)]
  | (k, v) :: rest, a, w =>
    if a < k then (if w = 0#16 then (k, v) :: rest else (a, w) :: (k, v) :: rest)
    else if a = k then (if w = 0#16 then rest else (k, w) :: rest)
    else (k, v) :: Memory.write rest a w

/-- Words written at consecutive addresses, in order. -/
def Memory.writeList : Memory → Nat → List Word → Memory
  | m, _, [] => m
  | m, a, w :: ws => Memory.writeList (m.write a w) (a + 1) ws

/-- n words from an address on. -/
def Memory.readList (m : Memory) (a n : Nat) : List Word := (List.range n).map fun i => m.read (a + i)

/-! ### Lists of fixed length -/

/-- The list with its i-th element changed; nothing outside the list. -/
def modifyAt {α : Type} (f : α → α) : List α → Nat → List α
  | [], _ => []
  | x :: xs, 0 => f x :: xs
  | x :: xs, n + 1 => x :: modifyAt f xs n

/-! ### Banks and live tables (§10.1) -/

/-- A bank of the two. -/
def Banks.bank (b : Banks) : BankId → Bank
  | .a => b.a
  | .b => b.b

/-- One bank replaced. -/
def Banks.setBank (b : Banks) (id : BankId) (x : Bank) : Banks :=
  match id with
  | .a => { b with a := x }
  | .b => { b with b := x }

/-- The other bank. -/
def BankId.other : BankId → BankId
  | .a => .b
  | .b => .a

/-- R157: the shadow is the bank the selector does not name, and bank A while the selector is none. -/
def Banks.shadowId (b : Banks) : BankId :=
  match b.live with
  | none => .a
  | some id => id.other

/-- The shadow bank. -/
def Banks.shadow (b : Banks) : Bank := b.bank b.shadowId

/-- The word of a page at an offset. -/
def Bank.word (b : Bank) (page offset : Nat) : Word := b.mem.read (page * 64 + offset)

/-- The 64 words of a page. -/
def Bank.page (b : Bank) (page : Nat) : List Word := b.mem.readList (page * 64) 64

/-- The word of the live bank; 0 while no bank is live (no block uses it then). -/
def Banks.liveWord (b : Banks) (page offset : Nat) : Word :=
  match b.live with
  | none => 0#16
  | some id => (b.bank id).word page offset

/-- A bank is live. -/
def State.isLive (s : State) : Bool := s.banks.live.isSome

/-- A field of a live parameter page, unsigned (§13.4.1). -/
def State.param (s : State) (page offset : Nat) : Nat := (s.banks.liveWord page offset).toNat

/-- A signed field of a live parameter page (§13.4.1). -/
def State.paramInt (s : State) (page offset : Nat) : Int := (s.banks.liveWord page offset).toInt

/-- The Node Map entry of a ring address in a bank (§13.4). -/
def Bank.node (b : Bank) (a : Nat) : NodeEntry := nodeEntry (b.word 64 (2 * a)) (b.word 64 (2 * a + 1))

/-- The Node Map entry of a ring address in the live bank; unmapped while no bank is live. -/
def Banks.liveNode (b : Banks) (a : Nat) : NodeEntry :=
  nodeEntry (b.liveWord 64 (2 * a)) (b.liveWord 64 (2 * a + 1))

/-- The ring addresses of the Node Map. -/
def ringAddresses : List Nat := List.range 32

/-- The address mapped as the zone's head in the live Node Map (§3.1). -/
def Banks.headOf (b : Banks) (z : Nat) : Option Nat :=
  ringAddresses.find? fun a =>
    (b.liveNode a).mapped && (b.liveNode a).cls == classHead && (b.liveNode a).zone == some z

/-- The mapped node of a class in the live Node Map (§5.1). -/
def Banks.nodeOfClass (b : Banks) (c : Nat) : Option Nat :=
  ringAddresses.find? fun a => (b.liveNode a).mapped && (b.liveNode a).cls == c

/-- The place of a zone among a DAMPER entry's ports. -/
def portOf (ports : List (Option Nat)) (z : Nat) : Option Nat :=
  (List.range 4).find? fun p => ports.getD p none == some z

/-- A zone's damper port in the live Node Map: node address and port (§4.1). -/
def Banks.damperPort (b : Banks) (z : Nat) : Option (Nat × Nat) :=
  ringAddresses.findSome? fun a =>
    let e := b.liveNode a
    if e.mapped && e.cls == classDamper then (portOf e.ports z).map fun p => (a, p) else none

/-- The zones that have a damper port, in zone order, with their ports. -/
def Banks.damperPorts (b : Banks) : List (Nat × Nat × Nat) :=
  (List.range 8).filterMap fun z => (b.damperPort z).map fun np => (z, np.1, np.2)

/-! ### Reading other blocks as they stand (§3) -/

/-- R3, R8: the answering address is the own address, and 30 while SETUP is high. -/
def State.answering (s : State) : Nat := if s.lines.setup then Config.setupAddress else s.ring.own

/-- A Zone Record. -/
def State.zone (s : State) (z : Nat) : Zone := s.zones.getD z .absentZone

/-- The row of a kind in the Actuator Command Table. -/
def Interlock.row (i : Interlock) (k : RowKind) : Option Row := i.rows.find? fun r => r.kind == k

/-- A row's commanded output, 0 while the table has no such row (R76). -/
def Interlock.output (i : Interlock) (k : RowKind) : Nat :=
  match i.row k with
  | none => 0
  | some r => r.commanded

/-- The blower's commanded output (R76). -/
def State.blowerOutput (s : State) : Nat := s.inter.output .blower

/-- The sweep period in force, in 50 ms units: multiplied by the watch multiplier in WATCH (R15). -/
def State.sweepPeriod (s : State) : Nat :=
  s.param 78 0 * (if s.ring.level = .watch then s.param 78 1 else 1)

/-! ### Cycles present (R124) -/

/-- A cycle of the kind is queued. -/
def CycleEngine.queuedKind (c : CycleEngine) (k : CycleKind) : Bool := c.queue.any fun x => x.kind == k

/-- The running cycle is of the kind. -/
def CycleEngine.runningKind (c : CycleEngine) (k : CycleKind) : Bool := c.running.any fun x => x.kind == k

/-- The suspended cycle is of the kind. -/
def CycleEngine.suspendedKind (c : CycleEngine) (k : CycleKind) : Bool := c.suspended.any fun x => x.kind == k

/-- A cycle of the kind is queued, running or suspended. -/
def CycleEngine.has (c : CycleEngine) (k : CycleKind) : Bool :=
  c.queuedKind k || c.runningKind k || c.suspendedKind k

/-! ### Posting and taking events -/

/-- Post events, in order, behind those already in flight. -/
def State.post (s : State) (es : List Instr) : State := s.setPosts (s.posts ++ es)

/-- Post a flag-set claim to the Management Unit (R176). -/
def State.claimFlag (s : State) (f : StickyFlag) : State := s.post [.flagSetClaim f]

/-- Taking a command. While RST_N is low every block is held in reset and nothing happens (R9). Otherwise, if the
command is an event in flight, it is in flight no more, and its owner takes it (log 2). -/
def taking (c : Instr) (s : State) (f : State → State) : Host.Outcome State Fault Refusal :=
  if s.held then .next s else .next (f (s.setPosts (s.posts.erase c)))

/-! ### The Origin Queue (R11, R12) -/

/-- A place is free when frames and reservations are fewer than 24 (R12). -/
def Ring.placeFree (r : Ring) : Bool :=
  decide (r.origin.length + (if r.reserved then 1 else 0) < Config.originCapacity)

/-- A frame joins the tail; in an empty queue it becomes the head with wait count 0 (R14). -/
def Ring.join (r : Ring) (f : OriginFrame) : Ring :=
  { r with
    origin := r.origin ++ [f]
    headWait := if r.origin.isEmpty then some 0 else r.headWait }

/-- The frame is an ACT to this destination, function and port (R11). -/
def OriginFrame.isActFor (dst fn port : Nat) : OriginFrame → Bool
  | .act d _ f p _ => d == dst && f == fn && p == port
  | .mrsp .. => false
  | .note .. => false

/-- The frame with a new ACT value; its header is kept (R8, R11, log 24). -/
def OriginFrame.withValue (v : Nat) : OriginFrame → OriginFrame
  | .act d s f p _ => .act d s f p v
  | .mrsp d s p soft => .mrsp d s p soft
  | .note d s fl c l => .note d s fl c l

/-- The NOTE with new content; its header is kept (R8, R11, log 24). -/
def OriginFrame.withRecord (flags conditions : Word) (level : RunLevel) : OriginFrame → OriginFrame
  | .note d s _ _ _ => .note d s flags conditions level
  | .act d s f p v => .act d s f p v
  | .mrsp d s p soft => .mrsp d s p soft

/-- An ACT is queued for this destination, function and port. -/
def Ring.hasAct (r : Ring) (dst fn port : Nat) : Bool := r.origin.any (OriginFrame.isActFor dst fn port)

/-- A NOTE is queued. -/
def Ring.hasNote (r : Ring) : Bool := r.origin.any OriginFrame.isNote

/-- R11: an ACT offered to the queue merges into the queued ACT for the same output, or joins the tail when a place is
free; none when it finds no place. -/
def Ring.offerAct (r : Ring) (dst src fn port value : Nat) : Option Ring :=
  if r.hasAct dst fn port then
    some { r with origin := r.origin.map fun f => if f.isActFor dst fn port then f.withValue value else f }
  else if r.placeFree then some (r.join (.act dst src fn port value))
  else none

/-- A queued NOTE takes new content in place (R11, R177). -/
def Ring.refreshNote (r : Ring) (flags conditions : Word) (level : RunLevel) : Ring :=
  { r with origin := r.origin.map fun f => if f.isNote then f.withRecord flags conditions level else f }

/-- R12: as a place frees, waiting dirty rows and an owed NOTE are offered again (log 23). -/
def State.freedPosts (s : State) : List Instr :=
  (if s.inter.rows.any (·.dirty) || s.inter.leaving.any (·.dirty) then [.dirtyRowOffer] else []) ++
  (if s.mu.owed then [.noteOwedOffer] else [])

/-! ### Sweeps enabled (R15) -/

/-- Sweeps are enabled while a bank is live, the run level is ACTIVE or WATCH, and SETUP is low. -/
def State.sweepsWanted (s : State) : Bool :=
  s.isLive && (s.ring.level == .active || s.ring.level == .watch) && !s.lines.setup

/-- R15: on a change, enabling starts the timer with one full period. Disabling stops it, removes an untransmitted
POLL, clears the outstanding mark and the late count, and is posted to the Table Banks (R166). -/
def State.evalSweeps (s : State) : State :=
  if s.sweepsWanted && !s.ring.enabled then
    s.setRing { s.ring with enabled := true, timer := some s.sweepPeriod }
  else if !s.sweepsWanted && s.ring.enabled then
    (s.setRing { s.ring with enabled := false, timer := none, slot := none, outstanding := none, late := 0 }).post
      [.sweepsDisabled]
  else s

end Sys2Proof.Machine
end

