-- ==== Sys2Proof/Machine/Allocator.lean ====
section
/-! DEFINITION. Airflow Allocator (chapter 4): the zone review. -/

namespace Sys2Proof.Machine

/-- A quotient rounded up (R61). -/
def divUp (a b : Nat) : Nat := (a + b - 1) / b

/-- R59: the effective demand of a zone. -/
def State.effectiveDemand (s : State) (z : Nat) : Nat :=
  let r := s.zone z
  if r.state = .live ∧ (s.banks.damperPort z).isSome then max r.clean (if s.dry.want then r.dry else 0) else 0

/-- The zone's airflow with its damper fully open (§4.1). -/
def State.zmax (s : State) (z : Nat) : Nat := s.param 73 (7 + z)

/-- R60: zone x goes ahead of zone y: higher demand, then higher age, then lower number. -/
def ahead (demand age : Nat → Nat) (x y : Nat) : Bool :=
  decide (demand y < demand x) ||
    (decide (demand x = demand y) &&
      (decide (age y < age x) || (decide (age x = age y) && decide (x < y))))

/-- A zone put into its place in the order. -/
def insertZone (demand age : Nat → Nat) (x : Nat) : List Nat → List Nat
  | [] => [x]
  | y :: ys => if ahead demand age x y then x :: y :: ys else y :: insertZone demand age x ys

/-- R60: the Service Order: the zones with a demand above 0, in order. -/
def serviceOrder (demand age : Nat → Nat) : List Nat :=
  (List.range 8).foldl (fun l z => if 0 < demand z then insertZone demand age z l else l) []

/-- R61: the zone minimum. -/
def State.zoneMinimum (s : State) (z : Nat) : Nat := divUp (s.zmax z * s.param 73 15) 100

/-- R61: the zone request of a zone with this effective demand. -/
def State.zoneRequest (s : State) (e z : Nat) : Nat := max (divUp (e * s.zmax z) 100) (s.zoneMinimum z)

/-- R62: the effective airflow of a step. -/
def State.effectiveAirflow (s : State) (step : Nat) : Nat :=
  if step = 0 then 0 else s.param 73 (step - 1) * s.filters.derate / 100

/-- R63: the step cap. -/
def State.stepCap (s : State) : Nat := if s.trans.night then s.param 73 17 else s.param 73 16

/-- The smallest step from 1 to the cap whose effective airflow reaches the total, or the cap (R64). -/
def smallestStep (airflow : Nat → Nat) (cap total : Nat) : Nat :=
  (((List.range cap).map (· + 1)).find? fun k => decide (total ≤ airflow k)).getD cap

/-- R64: the requested step. -/
def State.requestedStep (s : State) (total : Nat) : Nat :=
  if !s.dry.want && total = 0 then 0
  else
    let k := smallestStep s.effectiveAirflow s.stepCap total
    if s.dry.want then max k (s.param 74 0) else k

/-- R65: the walk along the Service Order: the assigned airflow of each zone, from a remainder. -/
def assignWalk (request minimum : Nat → Nat) : List Nat → Nat → List (Nat × Nat)
  | [], _ => []
  | z :: zs, remainder =>
    let g := min (request z) remainder
    if 0 < g ∧ minimum z ≤ g then (z, g) :: assignWalk request minimum zs (remainder - g)
    else (z, 0) :: assignWalk request minimum zs remainder

/-- The airflow a walk assigned to a zone; 0 for a zone not in it (R65). -/
def assignedTo (walk : List (Nat × Nat)) (z : Nat) : Nat := ((walk.find? fun x => x.1 == z).map Prod.snd).getD 0

/-- R66: the damper position of a zone that has a damper port. -/
def State.damperPosition (s : State) (z assigned : Nat) : Option Nat :=
  if (s.banks.damperPort z).isSome then some (assigned * 100 / s.zmax z) else none

/-- R67: the service age of a zone after an applied computed allocation. -/
def nextAge (inOrder : Bool) (assigned age : Nat) : Nat :=
  if inOrder && assigned == 0 then min 255 (age + 1) else 0

/-- R69: the mark. NOT-APPLIED when the running cycle claims the blower. -/
def State.allocationApplied (s : State) : Bool :=
  match s.cycles.running with
  | none => true
  | some c =>
    match c.kind with
    | .defrost => false
    | .profile => false
    | .regen => c.held
    | .pumpOut => true

/-- R58, R73: the record of a review, computed or idle, with the Service Order it used. -/
def State.allocation (s : State) (n : Nat) : AllocRecord × List Nat :=
  let demand := s.effectiveDemand
  let order := serviceOrder demand (fun z => s.alloc.ages.getD z 0)
  let request := fun z => if order.contains z then s.zoneRequest (demand z) z else 0
  let total := (order.map request).sum
  let idle := s.alloc.door || s.rc.level == .watch
  let step := if idle then 0 else s.requestedStep total
  let airflow := s.effectiveAirflow step
  let walk := if idle then [] else assignWalk request s.zoneMinimum order airflow
  let zones := List.range 8
  ({ sweep := n, idle := idle, step := step, airflow := airflow, applied := s.allocationApplied,
     effective := zones.map demand, request := zones.map request,
     assigned := zones.map (assignedTo walk),
     position := zones.map fun z => s.damperPosition z (assignedTo walk z) }, order)

/-- R70: the damper requests of a record, in zone order. -/
def State.damperRequests (s : State) (r : AllocRecord) : List DamperRequest :=
  s.banks.damperPorts.map fun x =>
    { node := x.2.1, port := x.2.2, position := (r.position.getD x.1 none).getD 0 }

/-- R58: the allocator takes reviews while a bank is live, SETUP is low and the run level is ACTIVE or WATCH (log 27). -/
def State.takesReview (s : State) : Bool :=
  s.isLive && !s.lines.setup && (s.rc.level == .active || s.rc.level == .watch)

/-- R58, R67, R68, R70, R71: the review: the record replaces the old one whole, the ages are updated after an applied
computed allocation, and the record is posted to the interlock, the Filter Monitor and the Drying Controller. -/
def State.review (n : Nat) (s : State) : State :=
  if !s.takesReview then s
  else
    let (r, order) := s.allocation n
    let ages :=
      if !r.idle && r.applied then
        s.alloc.ages.zipIdx.map fun x => nextAge (order.contains x.2) (r.assigned.getD x.2 0) x.1
      else s.alloc.ages
    (s.setAlloc { s.alloc with record := some r, order := order, ages := ages }).post
      [.normalRequests r.step (s.damperRequests r), .filterAllocation r, .dryingAllocation r]

/-- ZONE_REVIEW (R58). -/
def execZoneReview (n : Nat) (s : State) : Host.Outcome State Fault Refusal :=
  taking (.zoneReview n) s (State.review n)

end Sys2Proof.Machine
end

