-- ==== Sys2Proof/Machine/Interlock.lean ====
section
/-! DEFINITION. Plant Interlock (chapter 5): the Actuator Command Table, output resolution, inhibits, protection, airflow
proof, and ACT offers. -/

namespace Sys2Proof.Machine

/-! ### Output resolution (R79–R84) -/

/-- The Plant parameters the interlock uses (§13.4.1). -/
structure PlantLimits where
  dryMin : Nat
  minOn  : Nat
  minOff : Nat
  settle : Nat
  deriving DecidableEq, Repr

/-- The live Plant page's limits. -/
def State.plant (s : State) : PlantLimits where
  dryMin := s.param 74 0
  minOn := s.param 74 1
  minOff := s.param 74 2
  settle := s.param 74 3

/-- R80: a claimed member of the inhibit set applies to the row. -/
def Inhibits.forces (i : Inhibits) : RowKind → Bool
  | .blower => i.door || i.run || i.halt
  | .damper _ => i.door || i.run || i.halt
  | .compressor => i.door || i.tank || i.airflow || i.run || i.halt
  | .heater => i.door || i.tank || i.airflow || i.run || i.halt
  | .pump => i.halt || i.pump

/-- R79: the resolved value of a row. -/
def Row.resolve (i : Inhibits) (r : Row) : Nat :=
  if i.forces r.kind then 0 else r.cycle.getD (r.normal.getD 0)

/-- The resolved value of the row of a kind, 0 while there is none. -/
def Interlock.wanted (i : Interlock) (k : RowKind) : Nat :=
  match i.row k with
  | none => 0
  | some r => r.resolve i.inhibits

/-- The on-time; 0 while the compressor is off (R81). -/
def CompClock.onTime : CompClock → Nat
  | .on t => t
  | .off _ => 0

/-- The off-time; 0 while the compressor is on (R81). -/
def CompClock.offTime : CompClock → Nat
  | .on _ => 0
  | .off t => t

/-- R81: the compressor's output from its resolved value. A compressor that is on without proof goes off, whatever the
resolved value (log 19). -/
def Interlock.compAfter (p : PlantLimits) (i : Interlock) : Nat :=
  if i.output .compressor = 0 then
    if i.wanted .compressor ≠ 0 ∧ i.proof ∧ p.minOff ≤ i.clock.offTime then 1 else 0
  else if !i.proof || i.inhibits.forces .compressor then 0
  else if i.wanted .compressor ≠ 0 then 1
  else if p.minOn ≤ i.clock.onTime then 0 else 1

/-- R81, R82: the heater's output from its resolved value. -/
def Interlock.heaterAfter (i : Interlock) : Nat := if i.proof then i.wanted .heater else 0

/-- The outputs one resolution decides together. `reproof`: the compressor was stopped for re-proof (R83 step 2). -/
structure Decided where
  comp    : Nat
  heater  : Nat
  blower  : Nat
  reproof : Bool
  deriving DecidableEq, Repr

/-- R83 step 1: the floor value, for a compressor and a heater output after R81 and R82. A start is pending when the
resolved value is above 0 and the output is off. -/
def Interlock.floorValue (p : PlantLimits) (i : Interlock) (comp heater : Nat) : Nat :=
  if comp ≠ 0 ∨ heater ≠ 0 ∨ i.wanted .compressor ≠ 0 ∨ i.wanted .heater ≠ 0 then
    max (i.wanted .blower) p.dryMin
  else i.wanted .blower

/-- R83 steps 2–4. -/
def Interlock.outcome (p : PlantLimits) (i : Interlock) : Decided :=
  let comp := i.compAfter p
  let heater := i.heaterAfter
  let floor := i.floorValue p comp heater
  let present := i.output .blower
  if comp ≠ 0 ∧ floor ≠ present then
    if p.dryMin ≤ present then { comp := comp, heater := heater, blower := present, reproof := false }
    else { comp := 0, heater := 0, blower := floor, reproof := true }
  else if heater ≠ 0 ∧ floor ≠ present then { comp := comp, heater := 0, blower := floor, reproof := false }
  else { comp := comp, heater := heater, blower := floor, reproof := false }

/-- The commanded output a resolution gives a row. -/
def Decided.valueFor (d : Decided) (i : Inhibits) (r : Row) : Nat :=
  match r.kind with
  | .blower => d.blower
  | .damper _ => r.resolve i
  | .compressor => d.comp
  | .heater => d.heater
  | .pump => r.resolve i

/-- R79, R86: a row takes its resolved value and commanded output; a change marks it dirty. -/
def Row.take (d : Decided) (i : Inhibits) (r : Row) : Row :=
  { r with
    resolved := r.resolve i
    commanded := d.valueFor i r
    dirty := r.dirty || decide (d.valueFor i r ≠ r.commanded) }

/-- R81: the compressor's times after its output changed. -/
def clockAfter (before after : Nat) (reproof : Bool) (c : CompClock) : CompClock :=
  if reproof then .off 0
  else if before = 0 ∧ after ≠ 0 then .on 0
  else if before ≠ 0 ∧ after = 0 then .off 0
  else c

/-- R79: the resolution of every row. R82, R84: a change of the blower's output clears proof, restarts the settle timer
and zeroes the mismatch count. -/
def Interlock.resolve (p : PlantLimits) (i : Interlock) : Interlock :=
  let d := i.outcome p
  let blown := { i with
    rows := i.rows.map (Row.take d i.inhibits)
    clock := clockAfter (i.output .compressor) d.comp d.reproof i.clock }
  if (i.row .blower).isSome ∧ d.blower ≠ i.output .blower then
    { blown with proof := false, settle := some p.settle, mismatch := 0 }
  else blown

/-- R88: the posts of one output's change. -/
def outputPost (o : Output) (before after : Nat) : List Instr :=
  if before = after then []
  else [.translatorOutputChanged o after, if after = 0 then .dryingOutputOff o else .dryingOutputOn o,
    .cycleOutputChanged o after]

/-- R88: the output-changed posts between two tables, in row order. -/
def outputPosts (old new : Interlock) : List Instr :=
  outputPost .compressor (old.output .compressor) (new.output .compressor) ++
  outputPost .heater (old.output .heater) (new.output .heater) ++
  outputPost .pump (old.output .pump) (new.output .pump)

/-! ### ACT offers (R87) -/

/-- R87: a dirty row offered to the Origin Queue, with the answer whether the queue took it. -/
def Ring.offerRow (src : Nat) (g : Ring) (r : Row) : Ring × Bool :=
  if r.dirty then
    match g.offerAct r.dst src r.kind.function r.port r.commanded with
    | some g' => (g', true)
    | none => (g, false)
  else (g, false)

/-- R87: rows offered in order; an offer that is taken clears the dirty mark and sets the last sent sweep. -/
def offerRows (src : Nat) : Ring → List Row → Ring × List Row
  | g, [] => (g, [])
  | g, r :: rs =>
    let a := g.offerRow src r
    let b := offerRows src a.1 rs
    (b.1, (if a.2 then { r with dirty := false, lastSent := g.lastBegin } else r) :: b.2)

/-- R87, R89: the dirty rows are offered, leaving rows first; a leaving row is removed when its offer is taken. -/
def State.offerDirty (s : State) : State :=
  let a := offerRows s.answering s.ring s.inter.leaving
  let b := offerRows s.answering a.1 s.inter.rows
  (s.setRing b.1).setInter { s.inter with leaving := a.2.filter (·.dirty), rows := b.2 }

/-- An event of the interlock: the change it makes, the resolution of every row, the posts of R88 and the offers of
R87. DESIGN CHOICE: the output changes of the event itself (leaving rows that go off at a swap, R89) are posted ahead of those
the resolution makes, each in row order (log 63). -/
def State.resolving (f : Interlock → Interlock) (s : State) : State :=
  let mid := f s.inter
  let new := mid.resolve s.plant
  ((s.setInter new).post (outputPosts s.inter mid ++ outputPosts mid new)).offerDirty

/-! ### Requests, plans and inhibits -/

/-- R77: a normal request for a row. -/
def Interlock.setNormal (k : RowKind) (v : Nat) (i : Interlock) : Interlock :=
  { i with rows := i.rows.map fun r => if r.kind = k then { r with normal := some v } else r }

/-- R77: a normal request for the blower, the compressor or the heater; held while the output has no row. -/
def Interlock.request (k : RowKind) (v : Nat) (i : Interlock) : Interlock :=
  if (i.row k).isSome then i.setNormal k v
  else
    match k with
    | .blower => { i with heldBlower := some v }
    | .compressor => { i with heldComp := some v }
    | .heater => { i with heldHeater := some v }
    | .damper _ => i
    | .pump => i

/-- R77: a damper request names the row's destination and port. -/
def DamperRequest.names (d : DamperRequest) (r : Row) : Bool :=
  match r.kind with
  | .damper _ => r.dst == d.node && r.port == d.port
  | .blower => false
  | .compressor => false
  | .heater => false
  | .pump => false

/-- R77: damper requests replace the normal requests of the rows they name; one without a row is discarded. -/
def Interlock.dampers (ds : List DamperRequest) (i : Interlock) : Interlock :=
  { i with rows := i.rows.map fun r =>
      match ds.find? fun d => DamperRequest.names d r with
      | some d => { r with normal := some d.position }
      | none => r }

/-- NORMAL_REQUESTS (R77). -/
def execNormalRequests (step : Nat) (ds : List DamperRequest) (s : State) : Host.Outcome State Fault Refusal :=
  taking (.normalRequests step ds) s (State.resolving fun i => (i.request .blower step).dampers ds)

/-- The row an output belongs to. -/
def Output.row : Output → RowKind
  | .compressor => .compressor
  | .heater => .heater
  | .pump => .pump

/-- RUN_REQUEST (R77, R98). The pump takes no normal request. -/
def execRunRequest (o : Output) (v : Nat) (s : State) : Host.Outcome State Fault Refusal :=
  taking (.runRequest o v) s
    (State.resolving fun i => if o = .pump then i else i.request (Output.row o) v)

/-- STOP_REQUEST (R77, R98). The pump takes no normal request. -/
def execStopRequest (o : Output) (s : State) : Host.Outcome State Fault Refusal :=
  taking (.stopRequest o) s (State.resolving fun i => if o = .pump then i else i.request (Output.row o) 0)

/-- R78: a claim names a row; for a damper the zone, node and port. -/
def Claim.names (c : Claim) (r : Row) : Bool :=
  match c.target with
  | .blower => r.kind == .blower
  | .damper z n p => r.kind == .damper z && r.dst == n && r.port == p
  | .compressor => r.kind == .compressor
  | .heater => r.kind == .heater
  | .pump => r.kind == .pump

/-- R78: a plan replaces every row's cycle request. DESIGN CHOICE: a claim without a row is discarded, also while the table
has no rows, though R76 says of claims that arrive then that they are held (log 57). -/
def Interlock.plan (cs : List Claim) (i : Interlock) : Interlock :=
  { i with rows := i.rows.map fun r =>
      { r with cycle := (cs.find? fun c => Claim.names c r).map (·.value) } }

/-- CYCLE_PLAN (R78). -/
def execCyclePlan (kind : CycleKind) (cs : List Claim) (s : State) : Host.Outcome State Fault Refusal :=
  taking (.cyclePlan kind cs) s (State.resolving (Interlock.plan cs))

/-- PLAN_RELEASE (R78). -/
def execPlanRelease (s : State) : Host.Outcome State Fault Refusal :=
  taking .planRelease s (State.resolving (Interlock.plan []))

/-- A member of the inhibit set. -/
def Inhibits.get (i : Inhibits) : Inhibit → Bool
  | .door => i.door
  | .tank => i.tank
  | .airflow => i.airflow
  | .run => i.run
  | .halt => i.halt
  | .pump => i.pump

/-- A member claimed or released. -/
def Inhibits.set (i : Inhibits) (m : Inhibit) (b : Bool) : Inhibits :=
  match m with
  | .door => { i with door := b }
  | .tank => { i with tank := b }
  | .airflow => { i with airflow := b }
  | .run => { i with run := b }
  | .halt => { i with halt := b }
  | .pump => { i with pump := b }

/-- R80: a claim or a release of a member, and the resolution that follows; no change when the member stands so
already. -/
def State.setInhibit (m : Inhibit) (b : Bool) (s : State) : State :=
  if s.inter.inhibits.get m = b then s
  else s.resolving fun i => { i with inhibits := i.inhibits.set m b }

/-- INHIBIT_CLAIM (R80). -/
def execInhibitClaim (m : Inhibit) (s : State) : Host.Outcome State Fault Refusal :=
  taking (.inhibitClaim m) s (State.setInhibit m true)

/-- INHIBIT_RELEASE (R80). -/
def execInhibitRelease (m : Inhibit) (s : State) : Host.Outcome State Fault Refusal :=
  taking (.inhibitRelease m) s (State.setInhibit m false)

/-- R80: the interlock at a change of the DOOR line: DOOR is claimed or released, and DOOR-OPEN is posted. -/
def State.interlockDoor (isOpen : Bool) (s : State) : State :=
  (s.setInhibit .door isOpen).post [.conditionPost .doorOpen isOpen]

/-! ### Feedback (R82, R84, R85) -/

/-- The settle timer is running (R84). -/
def Interlock.settling (i : Interlock) : Bool :=
  match i.settle with
  | none => false
  | some t => decide (t ≠ 0)

/-- R82: a sample equal to a commanded step of 1 or more proves airflow while the latch is clear. -/
def Interlock.prove (agrees : Bool) (i : Interlock) : Interlock :=
  if agrees ∧ i.output .blower ≠ 0 ∧ !i.fault then { i with proof := true } else i

/-- R84: the third mismatch sets the latch, clears proof and claims AIRFLOW. -/
def Interlock.latch (i : Interlock) : Interlock :=
  if i.fault then i
  else { i with fault := true, proof := false, inhibits := { i.inhibits with airflow := true } }

/-- R84: the count of a sample once the settle timer has expired. -/
def Interlock.count (agrees : Bool) (i : Interlock) : Interlock :=
  if i.settling then i
  else if agrees then { i with mismatch := 0 }
  else if 3 ≤ i.mismatch + 1 then { i with mismatch := 0 }.latch
  else { i with mismatch := i.mismatch + 1 }

/-- R82, R84: a BLOWER-FB sample; none is a fault report, which agrees with nothing. -/
def Interlock.feedback (sample : Option Nat) (i : Interlock) : Interlock :=
  let agrees := sample == some (i.output .blower)
  (i.prove agrees).count agrees

/-- BLOWER_FB_SAMPLE (R84): discarded while the table has no blower row. Setting the latch posts BLOWER-FAULT and
airflow lost, after the resolution. -/
def State.takeFeedback (sample : Option Nat) (s : State) : State :=
  if (s.inter.row .blower).isNone then s
  else
    let t := s.resolving (Interlock.feedback sample)
    if t.inter.fault && !s.inter.fault then t.post [.conditionPost .blowerFault true, .airflowLost] else t

/-- BLOWER_FB_SAMPLE (R84). -/
def execBlowerFbSample (sample : Option (Nat × Quality)) (s : State) : Host.Outcome State Fault Refusal :=
  taking (.blowerFbSample sample) s (State.takeFeedback (sample.map Prod.fst))

/-- R85: CLEAR FAULT (BLOWER). -/
def State.clearBlowerFault (s : State) : State :=
  if s.inter.fault then
    (s.resolving fun i =>
      { i with
        fault := false
        inhibits := { i.inhibits with airflow := false }
        mismatch := 0
        settle := if (i.row .blower).isSome then some s.plant.settle else none }).post
      [.conditionPost .blowerFault false]
  else s

/-- The clock has reached a time (log 5). -/
def CompClock.reach (t : Nat) : CompClock → CompClock
  | .on n => .on (max n t)
  | .off n => .off (max n t)

/-- R81: a stop is held: the compressor is on and its requests resolve to 0. -/
def Interlock.stopHeld (i : Interlock) : Bool :=
  decide (i.output .compressor ≠ 0) && decide (i.wanted .compressor = 0)

/-- R81: a start is pending: the compressor is off and its requests resolve to 1. -/
def Interlock.startPending (i : Interlock) : Bool :=
  decide (i.output .compressor = 0) && decide (i.wanted .compressor ≠ 0)

/-- MIN_ON_EXPIRY (R81): it occurs only while a stop is held, and says that the on-time has reached min-on (log 5). -/
def execMinOnExpiry (s : State) : Host.Outcome State Fault Refusal :=
  taking .minOnExpiry s fun s =>
    if s.inter.stopHeld then s.resolving fun i => { i with clock := i.clock.reach s.plant.minOn } else s

/-- MIN_OFF_EXPIRY (R81): it occurs only while a start is pending, and says that the off-time has reached min-off
(log 5). -/
def execMinOffExpiry (s : State) : Host.Outcome State Fault Refusal :=
  taking .minOffExpiry s fun s =>
    if s.inter.startPending then s.resolving fun i => { i with clock := i.clock.reach s.plant.minOff } else s

/-- SETTLE_TIMER_EXPIRY (R84): a running settle timer is expired. -/
def execSettleTimerExpiry (s : State) : Host.Outcome State Fault Refusal :=
  taking .settleTimerExpiry s fun s =>
    if s.inter.settling then s.setInter { s.inter with settle := some 0 } else s

/-! ### Refresh (R86) -/

/-- R86: the last sent sweep is none or lies 16 or more behind n. -/
def Row.stale (n : Nat) (r : Row) : Bool :=
  match r.lastSent with
  | none => true
  | some k => decide (16 ≤ (n + 256 - k) % 256)

/-- INTERLOCK_SWEEP_BEGIN (R86): stale rows become dirty and are offered. -/
def execInterlockSweepBegin (n : Nat) (s : State) : Host.Outcome State Fault Refusal :=
  taking (.interlockSweepBegin n) s fun s =>
    (s.setInter { s.inter with rows := s.inter.rows.map fun r => { r with dirty := r.dirty || r.stale n } }).offerDirty

/-- DIRTY_ROW_OFFER (R87). -/
def execDirtyRowOffer (s : State) : Host.Outcome State Fault Refusal :=
  taking .dirtyRowOffer s State.offerDirty

/-! ### Rows of a bank (R76, R89, R91) -/

/-- A new row: no requests, output 0, dirty (R76). -/
def Row.created (kind : RowKind) (dst port : Nat) : Row where
  kind := kind
  dst := dst
  port := port
  normal := none
  cycle := none
  resolved := 0
  commanded := 0
  lastSent := none
  dirty := true

/-- The single row of a kind, for the mapped node of a class. -/
def rowOfNode (kind : RowKind) : Option Nat → List Row
  | none => []
  | some a => [Row.created kind a 0]

/-- The live Tank page marks the pump fitted (§13.4.1). -/
def State.pumpFitted (s : State) : Bool := s.isLive && s.param 75 7 == 1

/-- The rows the live Node Map and Tank page call for, in row order (§5.1, R76). -/
def State.calledRows (s : State) : List Row :=
  if !s.isLive then []
  else
    rowOfNode .blower (s.banks.nodeOfClass classBlower) ++
    (s.banks.damperPorts.map fun x => Row.created (.damper x.1) x.2.1 x.2.2) ++
    rowOfNode .compressor (s.banks.nodeOfClass classComp) ++
    rowOfNode .heater (s.banks.nodeOfClass classHeater) ++
    (if s.pumpFitted then rowOfNode .pump (s.banks.nodeOfClass classTank) else [])

/-- R89: two rows have the same destination, function and port. -/
def Row.same (x y : Row) : Bool :=
  x.dst == y.dst && x.kind.function == y.kind.function && x.port == y.port

/-- A row the new table calls for: the old row where there is one, which takes the zone of the new map, and a created row
otherwise. -/
def keepRow (old : List Row) (r : Row) : Row :=
  match old.find? (Row.same r) with
  | some k => { k with kind := r.kind }
  | none => r

/-- R77: held normal requests are applied to the rows created for their outputs. -/
def Interlock.heldFor (i : Interlock) : RowKind → Option Nat
  | .blower => i.heldBlower
  | .compressor => i.heldComp
  | .heater => i.heldHeater
  | .damper _ => none
  | .pump => none

/-- A row created by a swap, with the request held for its output. -/
def Interlock.createRow (i : Interlock) (old : List Row) (r : Row) : Row :=
  match old.find? (Row.same r) with
  | some _ => keepRow old r
  | none => { r with normal := i.heldFor r.kind }

/-- A kind's row stands in the new table without having stood in the old one. -/
def isCreated (old called : List Row) (k : RowKind) : Bool :=
  called.any fun r => r.kind == k && !old.any (Row.same r)

/-- A kind's row stood in the old table and is called for no more. -/
def isLeaving (old called : List Row) (k : RowKind) : Bool :=
  old.any fun r => r.kind == k && !called.any (Row.same r)

/-- R89: the comparison of the old rows with the rows called for. The settle timer starts with a new blower row and stops
when none is left (R84). DESIGN CHOICE: the mismatch count is zeroed at a swap that creates the blower row, as R84 says at a
row's creation, though R89 keeps it across a swap (log 49); rows left over from an earlier swap stand before those that leave
now (log 50). -/
def Interlock.compare (p : PlantLimits) (called : List Row) (i : Interlock) : Interlock :=
  let old := i.rows
  let gone := old.filter fun r => !called.any (Row.same r)
  let compGone := gone.any fun r => r.kind == .compressor && decide (r.commanded ≠ 0)
  let blowerMade := isCreated old called .blower
  let hasBlower := called.any fun r => r.kind == .blower
  { i with
    rows := called.map (i.createRow old)
    leaving := (i.leaving.filter fun r => !called.any (Row.same r)) ++
      gone.map fun r => { r with normal := none, cycle := none, resolved := 0, commanded := 0, dirty := true }
    heldBlower := if blowerMade then none else i.heldBlower
    heldComp := if isCreated old called .compressor then none else i.heldComp
    heldHeater := if isCreated old called .heater then none else i.heldHeater
    proof := i.proof && !isLeaving old called .blower
    settle := if !hasBlower then none else if blowerMade then some p.settle else i.settle
    mismatch := if blowerMade then 0 else i.mismatch
    clock := if compGone then .off 0 else i.clock }

/-- INTERLOCK_SWAP_TAKEN (R76, R89). -/
def execInterlockSwapTaken (s : State) : Host.Outcome State Fault Refusal :=
  taking .interlockSwapTaken s fun s => s.resolving (Interlock.compare s.plant s.calledRows)

/-- R91: the interlock after SOFT RESET, before its posts. PUMP stays claimed only while the pump-fault latch is set; TANK,
RUN and HALT stand as their owners claim them after their own resets. -/
def State.softInterlock (s : State) : Interlock :=
  let rows := s.calledRows
  { rows := rows
    leaving := []
    heldBlower := none
    heldComp := none
    heldHeater := none
    inhibits := { s.inter.inhibits with
      door := s.lines.door, airflow := false, pump := s.inter.inhibits.pump && s.water.pumpFault }
    proof := false
    mismatch := 0
    settle := if rows.any fun r => r.kind == .blower then some s.plant.settle else none
    fault := false
    clock := .off 0 }

end Sys2Proof.Machine
end

