-- ==== Sys2Proof/Machine/Zones.lean ====
section
/-! DEFINITION. Zone Table (chapter 3): readings, sweep closes, holds, demands, and the comparison of heads at a swap. -/

namespace Sys2Proof.Machine

/-! ### Readings -/

/-- A reading of a zone. -/
def Readings.get (r : Readings) : ZoneField → Reading
  | .pmFine => r.pmFine
  | .pmCoarse => r.pmCoarse
  | .rh => r.rh
  | .temp => r.temp
  | .voc => r.voc
  | .occupancy => r.occupancy

/-- A reading replaced. -/
def Readings.set (r : Readings) (f : ZoneField) (x : Reading) : Readings :=
  match f with
  | .pmFine => { r with pmFine := x }
  | .pmCoarse => { r with pmCoarse := x }
  | .rh => { r with rh := x }
  | .temp => { r with temp := x }
  | .voc => { r with voc := x }
  | .occupancy => { r with occupancy := x }

/-! ### Demands (R46–R49) -/

/-- A Setpoint row (§3.4.1). -/
structure Setpoint where
  rhTarget  : Nat
  rhSpan    : Nat
  pmTarget  : Nat
  pmSpan    : Nat
  vocTarget : Nat
  vocSpan   : Nat
  cleanCap  : Nat
  dryCap    : Nat
  deriving DecidableEq, Repr

/-- The live Setpoint row of a zone and a regime: eight words at offset 32 × (z mod 2) + 8 × j of page 69 + z ÷ 2
(§3.4.1). -/
def State.setpoint (s : State) (z j : Nat) : Setpoint :=
  let w := fun i => s.param (69 + z / 2) (32 * (z % 2) + 8 * j + i)
  { rhTarget := w 0, rhSpan := w 1, pmTarget := w 2, pmSpan := w 3, vocTarget := w 4, vocSpan := w 5,
    cleanCap := w 6, dryCap := w 7 }

/-- R46: the effective regime of a zone: BASE 0, NIGHT 1, BOOST 2, DEFROST 3. -/
def State.zoneRegime (s : State) (boost : Bool) : Nat :=
  if s.trans.defrost then 3 else if boost then 2 else if s.trans.night then 1 else 0

/-- A reading that the curves give weight: quality GOOD or CLAMPED (§3.4.2). -/
def Reading.counts (r : Reading) : Bool := r.quality == .good || r.quality == .clamped

/-- The curve value of a reading (§3.4.2). -/
def curveValue (r : Reading) (target span : Nat) : Nat :=
  if !r.counts || decide (r.value ≤ target) then 0
  else if decide ((target : Int) + span ≤ r.value) then 100
  else (100 * (r.value - target) / span).toNat

/-- The start test of a reading (§3.4.2): 10 × (x − T) > S. -/
def startTest (r : Reading) (target span : Nat) : Bool :=
  r.counts && decide ((span : Int) < 10 * (r.value - target))

/-- The reading is at or below its target; one without quality GOOD or CLAMPED counts so (§3.4.2). -/
def atOrBelow (r : Reading) (target : Nat) : Bool := !r.counts || decide (r.value ≤ target)

/-- A hysteresis mark brought up to date: set by the start test, cleared at or below the target (R47, R48). -/
def hysteresis (mark start below : Bool) : Bool := if mark then !below else start

/-- R47, R48: the demands of a LIVE zone under a Setpoint row. -/
def Zone.withDemands (p : Setpoint) (z : Zone) : Zone :=
  let r := z.readings
  let cleanMark := hysteresis z.cleanMark
    (startTest r.pmFine p.pmTarget p.pmSpan || startTest r.voc p.vocTarget p.vocSpan)
    (atOrBelow r.pmFine p.pmTarget && atOrBelow r.voc p.vocTarget)
  let dryMark := hysteresis z.dryMark (startTest r.rh p.rhTarget p.rhSpan) (atOrBelow r.rh p.rhTarget)
  { z with
    cleanMark := cleanMark
    dryMark := dryMark
    clean :=
      if z.boost.isSome then 100
      else if cleanMark then
        min (max (curveValue r.pmFine p.pmTarget p.pmSpan) (curveValue r.voc p.vocTarget p.vocSpan)) p.cleanCap
      else 0
    dry :=
      if z.window.isSome then 0
      else if dryMark then min (curveValue r.rh p.rhTarget p.rhSpan) p.dryCap
      else 0 }

/-- R49: a recomputation changes only a LIVE zone. -/
def State.recomputed (s : State) (i : Nat) (z : Zone) : Zone :=
  if z.state = .live then z.withDemands (s.setpoint i (s.zoneRegime z.boost.isSome)) else z

/-- A Zone Record changed and recomputed (R49). §3.1: an ABSENT zone's record is fresh and stays so (log 45). -/
def State.updateZone (i : Nat) (f : Zone → Zone) (s : State) : State :=
  s.setZones (modifyAt (fun z => if z.state = .absent then z else s.recomputed i (f z)) s.zones i)

/-! ### Stores and fault reports (R42, R43) -/

/-- R42, R43: the part common to a store and a fault report. -/
def Zone.heard (f : ZoneField) (x : Reading) (z : Zone) : Zone :=
  { z with
    readings := z.readings.set f x
    stored := true
    missed := 0
    state := if z.state = .waiting ∨ z.state = .stale then .live else z.state }

/-- ZONE_STORE (R42). -/
def execZoneStore (z : Fin 8) (f : ZoneField) (v : Int) (q : Quality) (s : State) : Host.Outcome State Fault Refusal :=
  taking (.zoneStore z f v q) s (State.updateZone z.val (Zone.heard f { value := v, quality := q }))

/-- ZONE_FAULT_REPORT (R43): the quality becomes FAULT, the value is kept. -/
def execZoneFaultReport (z : Fin 8) (f : ZoneField) (s : State) : Host.Outcome State Fault Refusal :=
  taking (.zoneFaultReport z f) s
    (State.updateZone z.val fun r => r.heard f { value := (r.readings.get f).value, quality := .fault })

/-! ### Holds (R50–R54) -/

/-- R51: the boost hold toggles; turning on starts its timer with the boost duration, in seconds. -/
def Zone.toggleBoost (seconds : Nat) (z : Zone) : Zone :=
  { z with boost := if z.boost.isSome then none else some seconds }

/-- BOOST_TOGGLE (R51). -/
def execBoostToggle (z : Fin 8) (s : State) : Host.Outcome State Fault Refusal :=
  taking (.boostToggle z) s fun s => s.updateZone z.val (Zone.toggleBoost (60 * s.param 78 5))

/-- WINDOW_OPEN (R53): the hold turns on and its timer starts afresh. DESIGN CHOICE (log 48): R49 recomputes on "a change of a
hold" and does not say whether a restart of the timer alone is one; the zone is recomputed then too. -/
def execWindowOpen (z : Fin 8) (s : State) : Host.Outcome State Fault Refusal :=
  taking (.windowOpen z) s fun s => s.updateZone z.val fun r => { r with window := some (60 * s.param 78 6) }

/-- A window hold ended by WINDOW-SHUT or by its timer (R53, R54): nothing changes when it is already off. -/
def State.endWindow (z : Nat) (s : State) : State :=
  if (s.zone z).window.isSome then s.updateZone z fun r => { r with window := none } else s

/-- WINDOW_SHUT (R53). -/
def execWindowShut (z : Fin 8) (s : State) : Host.Outcome State Fault Refusal :=
  taking (.windowShut z) s (State.endWindow z.val)

/-- WINDOW_TIMER_EXPIRY (R54): an expiry whose timer is stopped does not occur (log 5). -/
def execWindowTimerExpiry (z : Fin 8) (s : State) : Host.Outcome State Fault Refusal :=
  taking (.windowTimerExpiry z) s (State.endWindow z.val)

/-- R52: the boost hold ends at its timer's expiry; an expiry whose timer is stopped does not occur (log 5). -/
def State.endBoost (z : Nat) (s : State) : State :=
  if (s.zone z).boost.isSome then s.updateZone z fun r => { r with boost := none } else s

/-- BOOST_TIMER_EXPIRY (R52). -/
def execBoostTimerExpiry (z : Fin 8) (s : State) : Host.Outcome State Fault Refusal :=
  taking (.boostTimerExpiry z) s (State.endBoost z.val)

/-! ### All zones at once -/

/-- REGIME_CHANGED (R46): every zone is recomputed. -/
def execRegimeChanged (s : State) : Host.Outcome State Fault Refusal :=
  taking .regimeChanged s fun s => s.setZones (s.zones.zipIdx.map fun x => s.recomputed x.2 x.1)

/-- R44: one zone at a sweep close. -/
def Zone.closeSweep (n limit : Nat) (z : Zone) : Zone :=
  if z.state = .absent then z
  else if z.stored then { z with stored := false, lastSweep := some n }
  else
    let missed := min 255 (z.missed + 1)
    if z.state ≠ .stale ∧ limit ≤ missed then
      { z with missed := missed, state := .stale, clean := 0, dry := 0, cleanMark := false, dryMark := false }
    else { z with missed := missed }

/-- SWEEP_CLOSE (R44, R45): every zone takes the close, COMPLETE and LOST alike, and a zone review is posted. -/
def execSweepClose (n : Nat) (complete : Bool) (s : State) : Host.Outcome State Fault Refusal :=
  taking (.sweepClose n complete) s fun s =>
    (s.setZones (s.zones.map (Zone.closeSweep n (s.param 78 4)))).post [.zoneReview n]

/-- R55: one zone at a swap, by the change of its HEAD address. -/
def State.swapZone (s : State) (i : Nat) (z : Zone) : Zone :=
  match s.banks.headOf i with
  | none => Zone.fresh .absent none
  | some a => if z.head = some a then s.recomputed i z else Zone.fresh .waiting (some a)

/-- ZONE_SWAP_TAKEN (R55). -/
def execZoneSwapTaken (s : State) : Host.Outcome State Fault Refusal :=
  taking .zoneSwapTaken s fun s => s.setZones (s.zones.zipIdx.map fun x => s.swapZone x.2 x.1)

/-- R57: the Zone Table at SOFT RESET. -/
def State.softZones (s : State) : List Zone :=
  (List.range 8).map fun z =>
    match s.banks.headOf z with
    | none => Zone.fresh .absent none
    | some a => Zone.fresh .waiting (some a)

end Sys2Proof.Machine
end

