-- ==== Sys2Proof/Machine/Drying.lean ====
section
/-! DEFINITION. Drying Controller (chapter 6): the want, the method, the output record, frost and saturation. -/

namespace Sys2Proof.Machine

/-! ### Methods (R94, R95) -/

/-- The output of a method (§6.1). -/
def Method.output : Method → Output
  | .compressor => .compressor
  | .desiccant => .heater

/-- The output record of a method's output (§6.1). -/
def Drying.recorded (d : Drying) : Method → Bool
  | .compressor => d.compOn
  | .desiccant => d.heaterOn

/-- R94: a method is available. -/
def State.methodAvailable (s : State) : Method → Bool
  | .compressor =>
    (s.inter.row .compressor).isSome && decide (s.dry.frost < s.param 74 8) &&
      !s.cycles.queuedKind .defrost && !s.cycles.runningKind .defrost
  | .desiccant =>
    (s.inter.row .heater).isSome && decide (s.dry.saturation < s.param 74 9) && !s.cycles.has .regen

/-- The LIVE zones. -/
def State.liveZones (s : State) : List Zone := s.zones.filter fun z => z.state == .live

/-- R95: the TEMP readings of LIVE zones whose quality is GOOD or CLAMPED. -/
def State.roomTemps (s : State) : List Int :=
  (s.liveZones.filter fun z => z.readings.temp.counts).map fun z => z.readings.temp.value

/-- R95: the rooms are cold. -/
def State.roomsCold (s : State) : Bool :=
  !s.roomTemps.isEmpty && decide (s.roomTemps.sum < s.paramInt 74 6 * s.roomTemps.length)

/-- R95: the choice of a method. -/
def State.chooseMethod (s : State) : Option Method :=
  if s.methodAvailable .desiccant && s.roomsCold then some .desiccant
  else if s.methodAvailable .compressor then some .compressor
  else none

/-! ### Requests and classification (R97, R98) -/

/-- R98: the run request for a method. -/
def State.runFor (s : State) : Method → Instr
  | .compressor => .runRequest .compressor 1
  | .desiccant => .runRequest .heater (s.param 74 7)

/-- R98: the stop request for a method. -/
def stopFor (m : Method) : Instr := .stopRequest m.output

/-- R97: the output of a method is forced off at the interlock as it stands. -/
def State.forcedOff (s : State) (m : Method) : Bool :=
  s.inter.inhibits.forces (Output.row m.output) ||
    (match s.inter.row (Output.row m.output) with
      | some r => r.cycle == some 0
      | none => false)

/-- R97: the state a classification gives. -/
def State.classOf (s : State) (m : Method) : DryState :=
  if s.dry.recorded m then .running else if s.forcedOff m then .heldForced else .starting

/-- R97: the controller classifies the method it holds. -/
def State.classifyDry (s : State) : State :=
  match s.dry.method with
  | none => s
  | some m => s.setDry { s.dry with state := s.classOf m }

/-- R96, R98: run is posted for a method, which is set, and the state is classified. DESIGN CHOICE: the next method becomes
NONE, also where STOPPING ends with the want ON, of which R100 says nothing (log 60). -/
def State.startMethod (m : Method) (s : State) : State :=
  ((s.post [s.runFor m]).setDry { s.dry with state := .starting, method := some m, next := none }).classifyDry

/-- HELD with reason NO-METHOD. DESIGN CHOICE: the next method becomes NONE, as when a method is started (log 60). -/
def State.holdNoMethod (s : State) : State :=
  s.setDry { s.dry with state := .heldNoMethod, method := none, next := none }

/-- R95, R96: the controller chooses; with no method it is HELD, NO-METHOD. -/
def State.startChosen (s : State) : State :=
  match s.chooseMethod with
  | some m => s.startMethod m
  | none => s.holdNoMethod

/-- R101: the controller switches away from its method. -/
def State.switchMethod (s : State) : State :=
  match s.dry.method with
  | none => s
  | some m =>
    let t := s.post [stopFor m]
    if s.dry.recorded m then t.setDry { s.dry with state := .stopping, next := s.chooseMethod }
    else t.startChosen

/-- The controller holds a method that has become unavailable while a run request is in force: it switches; otherwise it
does f (R96). -/
def State.switchOr (f : State → State) (s : State) : State :=
  match s.dry.method with
  | none => s
  | some m => if s.methodAvailable m then f s else s.switchMethod

/-- R92: HELD with either reason. -/
def DryState.isHeld : DryState → Bool
  | .heldNoMethod => true
  | .heldForced => true
  | .off => false
  | .starting => false
  | .running => false
  | .stopping => false

/-- R92: an event of the controller, and the DRY-HELD post when it enters or leaves HELD (log 28). -/
def State.dryEvent (f : State → State) (s : State) : State :=
  let t := f s
  if t.dry.state.isHeld = s.dry.state.isHeld then t else t.post [.conditionPost .dryHeld t.dry.state.isHeld]

/-! ### Allocations (R93, R96, R103, R104) -/

/-- R93: the largest dry demand among the LIVE zones. -/
def State.largestDry (s : State) : Nat := (s.liveZones.map (·.dry)).foldl max 0

/-- R93: the want after an allocation. -/
def State.wantAfter (s : State) : Bool :=
  if s.dry.want then !decide (s.largestDry ≤ s.param 74 5) else decide (s.param 74 4 ≤ s.largestDry)

/-- R104: the saturation estimate after an allocation. -/
def Drying.accrued (d : Drying) : Nat :=
  if d.state = .running ∧ d.method = some .desiccant ∧ d.heaterOn then min 1000 (d.saturation + 1) else d.saturation

/-- R103: the DEFROST request of an allocation. -/
def State.defrostPost (s : State) : List Instr :=
  if s.param 74 8 ≤ s.dry.frost ∧ !s.cycles.queuedKind .defrost ∧ !s.cycles.runningKind .defrost then
    [.cycleRequest .defrost]
  else []

/-- R104: the REGEN request of an allocation that found the estimate at `before`. -/
def State.regenPost (before : Nat) (s : State) : List Instr :=
  if s.param 74 9 ≤ s.dry.saturation ∧ (before < s.param 74 9 ∨ !s.cycles.has .regen) then [.cycleRequest .regen]
  else []

/-- R96: a method that is stopped with nothing to await: OFF. -/
def State.stopToOff (s : State) : State :=
  match s.dry.method with
  | none => s
  | some m => (s.post [stopFor m]).setDry { s.dry with state := .off, method := none, next := none }

/-- R96 step 4, the want OFF. -/
def State.actUnwanted (s : State) : State :=
  match s.dry.state with
  | .off => s
  | .starting => s.stopToOff
  | .running =>
    match s.dry.method with
    | none => s
    | some m => (s.post [stopFor m]).setDry { s.dry with state := .stopping, next := none }
  | .stopping => s.setDry { s.dry with next := none }
  | .heldForced => s.stopToOff
  | .heldNoMethod => s.setDry { s.dry with state := .off }

/-- R96 step 4, the want ON. -/
def State.actWanted (s : State) : State :=
  match s.dry.state with
  | .off => s.startChosen
  | .starting => s.switchOr State.classifyDry
  | .running => s.switchOr id
  | .stopping =>
    if s.chooseMethod.isSome && s.chooseMethod == s.dry.method then
      match s.dry.method with
      | none => s
      | some m => (s.post [s.runFor m]).setDry { s.dry with state := .running, next := none }
    else s.setDry { s.dry with next := s.chooseMethod }
  | .heldForced => s.switchOr State.classifyDry
  | .heldNoMethod => s.startChosen

/-- R96: the four steps of taking an Allocation record. -/
def State.takeAllocation (s : State) : State :=
  let t := s.setDry { s.dry with want := s.wantAfter, saturation := s.dry.accrued }
  let u := t.post (t.defrostPost ++ t.regenPost s.dry.saturation)
  if u.dry.want then u.actWanted else u.actUnwanted

/-- DRYING_ALLOCATION (R96): the fields of the record play no part. -/
def execDryingAllocation (r : AllocRecord) (s : State) : Host.Outcome State Fault Refusal :=
  taking (.dryingAllocation r) s (State.dryEvent State.takeAllocation)

/-! ### Output changes (R99, R100) -/

/-- The method whose output it is; the pump is no method's. -/
def methodOf : Output → Option Method
  | .compressor => some .compressor
  | .heater => some .desiccant
  | .pump => none

/-- The output record takes a truth. -/
def Drying.record (m : Method) (on : Bool) (d : Drying) : Drying :=
  match m with
  | .compressor => { d with compOn := on }
  | .desiccant => { d with heaterOn := on }

/-- R99: an output turned on. -/
def State.dryOutputOn (m : Method) (s : State) : State :=
  let d := s.dry.record m true
  match d.state with
  | .starting => s.setDry (if d.method = some m then { d with state := .running } else d)
  | .heldForced => s.setDry (if d.method = some m then { d with state := .running } else d)
  | .off => s.setDry { d with state := .stopping, method := some m, next := none }
  | .heldNoMethod => s.setDry { d with state := .stopping, method := some m, next := none }
  | .running => s.setDry d
  | .stopping => s.setDry d

/-- R100: a stop completed with the want ON. -/
def State.afterStop (s : State) : State :=
  match s.dry.next with
  | some n => if s.methodAvailable n then s.startMethod n else s.startChosen
  | none => s.startChosen

/-- R100: an output turned off. -/
def State.dryOutputOff (m : Method) (s : State) : State :=
  let t := s.setDry (s.dry.record m false)
  if t.dry.method = some m then
    match t.dry.state with
    | .running => t.switchOr State.classifyDry
    | .stopping =>
      if t.dry.want then t.afterStop else t.setDry { t.dry with state := .off, method := none, next := none }
    | .off => t
    | .starting => t
    | .heldNoMethod => t
    | .heldForced => t
  else t

/-- DRYING_OUTPUT_ON (R99): an event for the pump, or for an output recorded on, changes nothing. -/
def execDryingOutputOn (o : Output) (s : State) : Host.Outcome State Fault Refusal :=
  taking (.dryingOutputOn o) s fun s =>
    match methodOf o with
    | none => s
    | some m => if s.dry.recorded m then s else s.dryEvent (State.dryOutputOn m)

/-- DRYING_OUTPUT_OFF (R100): an event for the pump, or for an output recorded off, changes nothing. -/
def execDryingOutputOff (o : Output) (s : State) : Host.Outcome State Fault Refusal :=
  taking (.dryingOutputOff o) s fun s =>
    match methodOf o with
    | none => s
    | some m => if s.dry.recorded m then s.dryEvent (State.dryOutputOff m) else s

/-! ### Coil frost (R102, R103) -/

/-- R102: the frost estimate after a sample. -/
def Drying.frostAfter (d : Drying) (v : Int) : Nat :=
  if d.compOn ∧ v < 0 then min 1000 (d.frost + 1 + ((-v) / 10).toNat)
  else if !d.compOn ∧ 30 ≤ v then d.frost - 1
  else d.frost

/-- A run request is in force (R92). -/
def DryState.runInForce : DryState → Bool
  | .starting => true
  | .running => true
  | .heldForced => true
  | .off => false
  | .stopping => false
  | .heldNoMethod => false

/-- R102, R103: a COIL-TEMP sample of quality GOOD or CLAMPED. -/
def State.takeCoilTemp (v : Int) (s : State) : State :=
  let t := s.setDry { s.dry with frost := s.dry.frostAfter v }
  if s.dry.frost < s.param 74 8 ∧ s.param 74 8 ≤ t.dry.frost then
    let u := t.post [.cycleRequest .defrost]
    if u.dry.method = some .compressor ∧ u.dry.state.runInForce then u.switchMethod else u
  else t

/-- DRYING_COIL_TEMP (R102): a fault report changes nothing. -/
def execDryingCoilTemp (sample : Option (Int × Quality)) (s : State) : Host.Outcome State Fault Refusal :=
  taking (.dryingCoilTemp sample) s fun s =>
    match sample with
    | none => s
    | some (v, _) => s.dryEvent (State.takeCoilTemp v)

/-! ### Cycle outcomes (R105) -/

/-- R105: the estimates after an outcome. -/
def Drying.afterOutcome (k : CycleKind) (o : CycleOutcome) (d : Drying) : Drying :=
  if k = .defrost ∧ (o = .done ∨ o = .doneTimed) then { d with frost := 0 }
  else if k = .regen ∧ o = .done then { d with saturation := 0 }
  else d

/-- R105: the controller acts on its state after an outcome. -/
def State.actOnOutcome (s : State) : State :=
  match s.dry.state with
  | .heldNoMethod => if s.dry.want then s.startChosen else s
  | .heldForced => s.classifyDry
  | .off => s
  | .starting => s
  | .running => s
  | .stopping => s

/-- DRYING_CYCLE_OUTCOME (R105). -/
def execDryingCycleOutcome (k : CycleKind) (o : CycleOutcome) (s : State) : Host.Outcome State Fault Refusal :=
  taking (.dryingCycleOutcome k o) s
    (State.dryEvent fun s => (s.setDry (s.dry.afterOutcome k o)).actOnOutcome)

/-- R108: the controller after SOFT RESET: both estimates are kept. -/
def Drying.softReset (d : Drying) : Drying :=
  { Drying.atReset with frost := d.frost, saturation := d.saturation }

end Sys2Proof.Machine
end

