-- ==== Sys2Proof/Machine/Filters.lean ====
section
/-! DEFINITION. Filter Monitor (chapter 9): charge, stage states, profiles, the derate, the door and filter reset. -/

namespace Sys2Proof.Machine

/-- The largest charge (§9.1). -/
abbrev maxCharge : Nat := 16777215

/-- A stage's record. -/
def Filters.stage (f : Filters) : Stage → StageRecord
  | .pre => f.pre
  | .fine => f.fine
  | .sorb => f.sorb

/-- A stage's record replaced. -/
def Filters.setStage (f : Filters) (st : Stage) (r : StageRecord) : Filters :=
  match st with
  | .pre => { f with pre := r }
  | .fine => { f with fine := r }
  | .sorb => { f with sorb := r }

/-- Every stage's record changed. -/
def Filters.mapStages (g : Stage → StageRecord → StageRecord) (f : Filters) : Filters :=
  { f with pre := g .pre f.pre, fine := g .fine f.fine, sorb := g .sorb f.sorb }

/-- A record of a stage that is fitted, changed. -/
def StageRecord.ifFitted (g : StageRecord → StageRecord) (r : StageRecord) : StageRecord := if r.fitted then g r else r

/-- The stages, in order. -/
def stages : List Stage := [.pre, .fine, .sorb]

/-- Some fitted stage satisfies a test. -/
def Filters.anyFitted (f : Filters) (test : StageRecord → Bool) : Bool :=
  stages.any fun st => (f.stage st).fitted && test (f.stage st)

/-! ### Parameters (§9.1, §13.4.1) -/

/-- The stage parameters of the live Filter page. -/
structure StageParams where
  life : Nat
  worn : Nat
  rise : Nat
  k    : Nat
  deriving DecidableEq, Repr

/-- A stage's parameters; the life's high part lies in bits 7–0 of its first word (§13.4.1). -/
def State.stageParams (s : State) (st : Stage) : StageParams where
  life := s.param 76 (8 * Stage.index st + 1) % 256 * 65536 + s.param 76 (8 * Stage.index st + 2)
  worn := s.param 76 (8 * Stage.index st + 3)
  rise := s.param 76 (8 * Stage.index st + 4)
  k := s.param 76 (8 * Stage.index st + 5)

/-- The worn threshold (§9.1). -/
def StageParams.threshold (p : StageParams) : Nat := p.life * p.worn / 100

/-! ### Evaluation (R142, R143) -/

/-- R142: the state of a fitted stage. DESIGN CHOICE: with a worn threshold of 0 a stage of charge 0 is WORN, as R142 says,
though R151 and R155 call it FRESH (log 59). -/
def StageRecord.standing (p : StageParams) (r : StageRecord) : StageState :=
  if r.verdict = .spent ∨ p.life ≤ r.charge then .spent
  else if r.verdict = .worn ∨ p.threshold ≤ r.charge then .worn
  else if r.baseline.isSome then .inService
  else .fresh

/-- The state is WORN or SPENT. -/
def isLoaded : StageState → Bool
  | .worn => true
  | .spent => true
  | .fresh => false
  | .inService => false

/-- R142: a fitted stage takes its state; one that is not WORN or SPENT has no door-opened mark. -/
def StageRecord.evaluate (p : StageParams) (r : StageRecord) : StageRecord :=
  r.ifFitted fun r =>
    { r with state := r.standing p, doorOpened := r.doorOpened && isLoaded (r.standing p) }

/-- R142: every fitted stage is evaluated. -/
def State.evalStages (s : State) : State :=
  s.setFilters (s.filters.mapStages fun st r => r.evaluate (s.stageParams st))

/-- R143: a fitted stage is WORN. -/
def Filters.wornNow (f : Filters) : Bool := f.anyFitted fun r => r.state == .worn

/-- R143: a fitted stage is SPENT. -/
def Filters.spentNow (f : Filters) : Bool := f.anyFitted fun r => r.state == .spent

/-- R143: the posts of the conditions whose truth changed. -/
def filterPosts (old new : Filters) : List Instr :=
  (if new.wornNow = old.wornNow then [] else [.conditionPost .filterWorn new.wornNow]) ++
  (if new.spentNow = old.spentNow then [] else [.conditionPost .filterSpent new.spentNow])

/-- R142, R143: a change of the records, the evaluation, and the condition posts. -/
def State.filterChange (f : Filters → Filters) (s : State) : State :=
  let t := (s.setFilters (f s.filters)).evalStages
  t.post (filterPosts s.filters t.filters)

/-! ### Charge (R144, R145) -/

/-- A reading as a concentration: 0 unless its quality is GOOD or CLAMPED (§9.2). -/
def Reading.concentration (r : Reading) : Nat := if r.counts then r.value.toNat else 0

/-- The concentration of a zone for a stage (§9.2). -/
def Zone.concentration (z : Zone) : Stage → Nat
  | .pre => z.readings.pmFine.concentration + z.readings.pmCoarse.concentration
  | .fine => z.readings.pmFine.concentration
  | .sorb => z.readings.voc.concentration

/-- R144: the flow product of an APPLIED record. -/
def State.appliedProduct (s : State) (r : AllocRecord) (st : Stage) : Nat :=
  ((List.range 8).map fun z => r.assigned.getD z 0 * (s.zone z).concentration st).sum

/-- R145: the mean flow product of a NOT-APPLIED record. -/
def State.meanProduct (s : State) (st : Stage) : Nat :=
  let live := s.zones.filter fun z => z.state == .live
  if live.isEmpty then 0
  else s.effectiveAirflow s.blowerOutput * (live.map fun z => z.concentration st).sum / live.length

/-- R144, R145: the charge a stage gains. -/
def State.chargeGain (s : State) (r : AllocRecord) (st : Stage) : Nat :=
  (if r.applied then s.appliedProduct r st else s.meanProduct st) * s.sweepPeriod * (s.stageParams st).k / 65536

/-- R144: charge added, saturating. -/
def StageRecord.addCharge (n : Nat) (r : StageRecord) : StageRecord :=
  { r with charge := min (r.charge + n) maxCharge }

/-! ### Taking an allocation (R146) -/

/-- R146.3: the run sweeps of each fitted stage rise while the blower runs. -/
def State.countRun (s : State) : State :=
  if s.blowerOutput = 0 then s
  else s.setFilters (s.filters.mapStages fun _ r =>
    r.ifFitted fun r => { r with runSweeps := min (r.runSweeps + 1) 65535 })

/-- The run sweeps of every fitted stage restart at 0 (R146, R151). -/
def Filters.restartRun (f : Filters) : Filters :=
  f.mapStages fun _ r => r.ifFitted fun r => { r with runSweeps := 0 }

/-- R146.4: a PROFILE is called for. -/
def State.profileDue (s : State) : Bool :=
  (decide (0 < s.param 76 24) && s.filters.anyFitted fun r => decide (s.param 76 24 ≤ r.runSweeps)) ||
  (s.filters.baselineReq && s.filters.anyFitted fun r => r.baseline.isNone)

/-- R146.4: the PROFILE request, and the baseline request mark cleared. -/
def State.profileStep (s : State) : State :=
  if s.profileDue then
    (s.setFilters { s.filters.restartRun with baselineReq := false }).post [.cycleRequest .profile]
  else s.setFilters { s.filters with baselineReq := false }

/-- FILTER_ALLOCATION (R146). -/
def execFilterAllocation (r : AllocRecord) (s : State) : Host.Outcome State Fault Refusal :=
  taking (.filterAllocation r) s fun s =>
    (s.filterChange fun f =>
      f.mapStages fun st x => x.ifFitted (StageRecord.addCharge (s.chargeGain r st))).countRun.profileStep

/-! ### Profiles (R147–R149) -/

/-- The pressure drop of a curve at a step. -/
def Curve.at (c : Curve) (step : Nat) : Option Nat := (c.find? fun p => p.1 == step).map Prod.snd

/-- The common steps of two curves, with the drop of each (R148). -/
def commonSteps (base last : Curve) : List (Nat × Nat × Nat) :=
  last.filterMap fun p => (Curve.at base p.1).map fun b => (p.1, b, p.2)

/-- The largest of a list of whole numbers, 0 for none. -/
def largest : List Int → Int
  | [] => 0
  | x :: xs => xs.foldl max x

/-- R148: the rise. -/
def rise (base last : Curve) : Int :=
  largest (((commonSteps base last).filter fun c => decide (0 < c.2.1)).map fun c =>
    (((c.2.2 : Int) - c.2.1) * 100).tdiv c.2.1)

/-- R148: the verdict after a rise. -/
def verdictAfter (limit : Nat) (r : Int) (v : Verdict) : Verdict :=
  if 2 * (limit : Int) ≤ r then .spent
  else if (limit : Int) ≤ r ∧ v = .none then .worn
  else v

/-- R147: a fitted stage takes its curve. -/
def StageRecord.takeCurve (limit : Nat) (c : Curve) (r : StageRecord) : StageRecord :=
  match r.baseline with
  | none => { r with baseline := some c, last := none }
  | some b => { r with last := some c, verdict := verdictAfter limit (rise b c) r.verdict }

/-- R149: the derate from the curves of FINE. -/
def derateOf (base last : Curve) : Nat :=
  match (commonSteps base last).getLast? with
  | none => 100
  | some (_, b, l) => if l = 0 then 100 else max 50 (min 100 (100 * b / l))

/-- R149: the derate recomputed. -/
def Filters.withDerate (f : Filters) : Filters :=
  { f with derate :=
      match f.fine.fitted, f.fine.baseline, f.fine.last with
      | true, some b, some l => derateOf b l
      | _, _, _ => 100 }

/-- PROFILE_OUTCOME (R147): an outcome other than DONE changes no stage. -/
def State.takeProfile (o : CycleOutcome) (result : List (Option Curve)) (s : State) : State :=
  if o = .done then
    s.filterChange fun f =>
      (f.mapStages fun st r =>
        match result.getD (Stage.index st) none with
        | none => r
        | some c => r.ifFitted (StageRecord.takeCurve (s.stageParams st).rise c)).withDerate
  else s

/-- PROFILE_OUTCOME (R147). -/
def execProfileOutcome (o : CycleOutcome) (result : List (Option Curve)) (s : State) :
    Host.Outcome State Fault Refusal :=
  taking (.profileOutcome o result) s (State.takeProfile o result)

/-! ### The door and the requests of the host (R150–R152) -/

/-- R150: a change of the DOOR line; a line that matches the door record changes nothing. -/
def State.filterDoor (isOpen : Bool) (s : State) : State :=
  if s.filters.door = isOpen then s
  else if isOpen then
    s.setFilters { s.filters.mapStages fun _ r => r.ifFitted fun r =>
      { r with doorOpened := r.doorOpened || isLoaded r.state } with door := true }
  else s.setFilters { s.filters with door := false }

/-- R151: a fresh record of a stage that stays fitted. -/
def StageRecord.renewed (r : StageRecord) : StageRecord := { StageRecord.atReset with fitted := r.fitted }

/-- R151: FILTER RESET is accepted. -/
def State.mayReset (s : State) (st : Stage) : Bool :=
  (s.filters.stage st).fitted && isLoaded (s.filters.stage st).state && (s.filters.stage st).doorOpened &&
    !s.filters.door

/-- R151: FILTER RESET. -/
def State.filterReset (st : Stage) (s : State) : State × Result :=
  if s.mayReset st then
    let t := s.filterChange fun f => (f.setStage st (f.stage st).renewed).withDerate
    ((t.setFilters t.filters.restartRun).post [.cycleRequest .profile], .ok)
  else (s, .refused .notServiced)

/-- R152: SET FILTER CHARGE. -/
def State.setCharge (st : Stage) (v : Nat) (s : State) : State × Result :=
  if (s.filters.stage st).fitted then
    (s.filterChange fun f => f.setStage st { f.stage st with charge := v }, .ok)
  else (s, .refused .condition)

/-! ### Swap and soft reset (R153, R156) -/

/-- The fitted field of a stage in the live Filter page; no while no bank is live. -/
def State.pageFitted (s : State) (st : Stage) : Bool := s.isLive && s.param 76 (8 * Stage.index st) == 1

/-- R153: a stage becomes fitted. -/
def State.becomesFitted (s : State) : Bool := stages.any fun st => s.pageFitted st && !(s.filters.stage st).fitted

/-- FILTER_SWAP_TAKEN (R153). -/
def execFilterSwapTaken (s : State) : Host.Outcome State Fault Refusal :=
  taking .filterSwapTaken s fun s =>
    let made := s.becomesFitted
    s.filterChange fun f =>
      { (f.mapStages fun st r => { r with fitted := s.pageFitted st }).withDerate with
        baselineReq := f.baselineReq || made }

/-- R156: the monitor after SOFT RESET. -/
def State.softFilters (s : State) : Filters := { s.filters with door := s.lines.door, baselineReq := true }

/-- R156: the posts as a soft reset completes. -/
def Filters.softPosts (f : Filters) : List Instr :=
  (if f.wornNow then [.conditionPost .filterWorn true] else []) ++
  (if f.spentNow then [.conditionPost .filterSpent true] else [])

end Sys2Proof.Machine
end

