-- ==== Sys2Proof/Machine/Flags.lean ====
section
/-! DEFINITION. The flag record: sticky flags, conditions, the note mask, and the NOTEs they call for (§11.4, §11.5). -/

namespace Sys2Proof.Machine

/-- The bit of a sticky flag in NOTE word 0 (§13.2). -/
def stickyBit : StickyFlag → Nat
  | .ringCrc => 0
  | .ringOvf => 1
  | .frameErr => 2
  | .unmappedSrc => 3
  | .storeFail => 4
  | .cycleFail => 5
  | .wake => 6

/-- The bit of a condition in NOTE word 1 (§13.2). -/
def conditionBit : Condition → Nat
  | .tankNear => 0
  | .tankFull => 1
  | .tankOut => 2
  | .filterWorn => 3
  | .filterSpent => 4
  | .doorOpen => 5
  | .dryHeld => 6
  | .blowerFault => 7
  | .pumpFault => 8
  | .unconfigured => 9

/-- The word with one bit set or cleared. -/
def setBit (w : Word) (i : Nat) (b : Bool) : Word :=
  if b then w ||| (1#16 <<< i) else w &&& ~~~(1#16 <<< i)

/-- R3: a NOTE goes to the controller address of the live Control page, and to 31 while no bank is live. -/
def State.noteDst (s : State) : Nat := if s.isLive then s.param 78 3 else Config.broadcast

/-- The NOTE of the flag record as it stands (R177). -/
def State.noteFrame (s : State) : OriginFrame :=
  .note s.noteDst s.answering s.mu.flags s.mu.conditions s.mu.level

/-- R177, after the flag record changed: a queued NOTE is refreshed in place; otherwise a called-for NOTE joins when a
place is free, and is dropped with the note-owed mark set when none is. -/
def State.noteAfter (called : Bool) (s : State) : State :=
  if s.ring.hasNote then s.setRing (s.ring.refreshNote s.mu.flags s.mu.conditions s.mu.level)
  else if called then
    if s.ring.placeFree then s.setRing (s.ring.join s.noteFrame)
    else s.setMu { s.mu with owed := true }
  else s

/-- R176, R177: a flag-set claim sets its flag; a change from clear to set calls for a NOTE if the mask has it on. -/
def State.setFlag (f : StickyFlag) (s : State) : State :=
  if bit s.mu.flags (stickyBit f) then s
  else (s.setMu { s.mu with flags := setBit s.mu.flags (stickyBit f) true }).noteAfter
    (bit s.mu.maskFlags (stickyBit f))

/-- R176, R177: a condition takes its posted truth; only a change to true calls for a NOTE. -/
def State.setCondition (c : Condition) (truth : Bool) (s : State) : State :=
  if bit s.mu.conditions (conditionBit c) = truth then s
  else (s.setMu { s.mu with conditions := setBit s.mu.conditions (conditionBit c) truth }).noteAfter
    (truth && bit s.mu.maskConditions (conditionBit c))

/-- R177: the recorded run level; a change calls for a NOTE if mask bit 15 is on. -/
def State.setMuLevel (l : RunLevel) (s : State) : State :=
  if s.mu.level = l then s
  else (s.setMu { s.mu with level := l }).noteAfter (bit s.mu.maskFlags 15)

/-- R175: ACK FLAGS clears the sticky flags the mask names; a queued NOTE is refreshed. -/
def State.ackFlags (mask : Word) (s : State) : State :=
  if s.mu.flags &&& ~~~mask = s.mu.flags then s
  else (s.setMu { s.mu with flags := s.mu.flags &&& ~~~mask }).noteAfter false

/-- FLAG_SET_CLAIM (R176). -/
def execFlagSetClaim (f : StickyFlag) (s : State) : Host.Outcome State Fault Refusal :=
  taking (.flagSetClaim f) s (State.setFlag f)

/-- CONDITION_POST (R176). -/
def execConditionPost (c : Condition) (truth : Bool) (s : State) : Host.Outcome State Fault Refusal :=
  taking (.conditionPost c truth) s (State.setCondition c truth)

/-- MU_RUN_LEVEL_CHANGE (R177, R183). -/
def execMuRunLevelChange (l : RunLevel) (s : State) : Host.Outcome State Fault Refusal :=
  taking (.muRunLevelChange l) s (State.setMuLevel l)

/-- NOTE_OWED_OFFER (R177): while the mark is set a NOTE is built from the record and offered; the mark clears when
the offer is taken. -/
def State.offerOwedNote (s : State) : State :=
  if !s.mu.owed then s
  else if s.ring.hasNote then
    (s.setRing (s.ring.refreshNote s.mu.flags s.mu.conditions s.mu.level)).setMu { s.mu with owed := false }
  else if s.ring.placeFree then (s.setRing (s.ring.join s.noteFrame)).setMu { s.mu with owed := false }
  else s

/-- NOTE_OWED_OFFER (R177). -/
def execNoteOwedOffer (s : State) : Host.Outcome State Fault Refusal :=
  taking .noteOwedOffer s State.offerOwedNote

end Sys2Proof.Machine
end

