-- ==== Sys2Proof/Machine/Validation.lean ====
section
/-! DEFINITION. Validation of a built page (R161, R162, R188) and the swap check (R165). -/

namespace Sys2Proof.Machine

/-- A word of a built page. -/
def pageWord (ws : List Word) (o : Nat) : Word := ws.getD o 0#16

/-- A word of a built page as an unsigned field. -/
def pageNat (ws : List Word) (o : Nat) : Nat := (pageWord ws o).toNat

/-- A word of a built page as a signed field. -/
def pageInt (ws : List Word) (o : Nat) : Int := (pageWord ws o).toInt

/-- A number lies in a range. -/
def within (low high n : Nat) : Bool := decide (low ≤ n) && decide (n ≤ high)

/-- A signed number lies in a range. -/
def withinInt (low high n : Int) : Bool := decide (low ≤ n) && decide (n ≤ high)

/-- Pages 0–63: the entry is of an assigned code or has its top bit set (R161). -/
def translationOk (ws : List Word) (o : Nat) : Bool := (entryAction? (pageWord ws o)).isSome

/-! ### Page 64 -/

/-- A zone field holds 0–7 or Fh (§13.4). -/
def zoneFieldOk (n : Nat) : Bool := decide (n ≤ 7) || decide (n = 15)

/-- The Node Map entry of ring address a in a built page. -/
def pageNode (ws : List Word) (a : Nat) : NodeEntry := nodeEntry (pageWord ws (2 * a)) (pageWord ws (2 * a + 1))

/-- The zones named on the damper ports of an entry of class DAMPER. -/
def portZones (e : NodeEntry) : List Nat := if e.cls = classDamper then e.ports.filterMap id else []

/-- A zone is named twice in a list. -/
def hasRepeat (l : List Nat) : Bool := decide (¬ l.Nodup)

/-- Word 2a of the Node Map: an assigned class and a zone 0–7 or none; and, as the first word of the entry, no port zone outside
class DAMPER (R161, R188, log 35). DESIGN CHOICE (log 53): a set bit marked 0 (14–12, 7–4) is not tested. -/
def nodeClassOk (ws : List Word) (a : Nat) : Bool :=
  let w := pageWord ws (2 * a)
  decide (bits w 8 4 ≤ 7) && zoneFieldOk (bits w 0 4) &&
  (decide (bits w 8 4 = classDamper) || decide (pageWord ws (2 * a + 1) = 0xFFFF#16))

/-- Word 2a + 1 of the Node Map: port zones 0–7 or none, and none named on another port of this or an earlier entry (R161,
R188). -/
def nodePortsOk (ws : List Word) (a : Nat) : Bool :=
  let w := pageWord ws (2 * a + 1)
  let here := portZones (pageNode ws a)
  let before := (List.range a).flatMap fun b => portZones (pageNode ws b)
  (List.range 4).all (fun i => zoneFieldOk (bits w (4 * i) 4)) &&
  !hasRepeat here && here.all fun z => !before.contains z

/-- Page 64 (R161). -/
def nodeMapOk (ws : List Word) (o : Nat) : Bool :=
  if o % 2 = 0 then nodeClassOk ws (o / 2) else nodePortsOk ws (o / 2)

/-! ### Pages 65–78 -/

/-- Pages 65–68: low at or below high; a failure is of the first word of the range group (R161, R188). -/
def scaleOk (ws : List Word) (o : Nat) : Bool :=
  decide (o % 4 ≠ 1) || decide (pageInt ws (o + 1) ≤ pageInt ws (o + 2))

/-- Pages 69–72 (§3.4.1). -/
def setpointOk (ws : List Word) (o : Nat) : Bool :=
  match o % 8 with
  | 0 => within 0 1000 (pageNat ws o)
  | 1 => within 1 1000 (pageNat ws o)
  | 2 => within 0 1000 (pageNat ws o)
  | 3 => within 1 1000 (pageNat ws o)
  | 4 => within 0 500 (pageNat ws o)
  | 5 => within 1 500 (pageNat ws o)
  | _ => within 0 100 (pageNat ws o)

/-- Page 73 (R161). A comparison fails the lower of the words compared (R188). -/
def allocationOk (ws : List Word) (o : Nat) : Bool :=
  let v := pageNat ws
  if o < 6 then within 1 2000 (v o) && decide (v o ≤ v (o + 1))
  else if o ≤ 14 then within 1 2000 (v o)
  else
    match o with
    | 15 => within 0 100 (v 15)
    | 16 => within 1 7 (v 16) && decide (v 17 ≤ v 16)
    | 17 => within 1 7 (v 17)
    | _ => true

/-- Page 74 (R161). -/
def plantOk (ws : List Word) (o : Nat) : Bool :=
  let v := pageNat ws
  match o with
  | 0 => within 1 7 (v 0)
  | 1 => within 0 1023 (v 1)
  | 2 => within 0 1023 (v 2)
  | 3 => within 1 120 (v 3)
  | 4 => within 1 100 (v 4) && decide (v 5 < v 4)
  | 5 => within 0 99 (v 5)
  | 6 => withinInt (-400) 850 (pageInt ws 6)
  | 7 => within 1 100 (v 7)
  | 8 => within 1 1000 (v 8)
  | 9 => within 1 1000 (v 9)
  | _ => true

/-- Page 75 (R161). -/
def tankOk (ws : List Word) (o : Nat) : Bool :=
  let v := pageNat ws
  match o with
  | 0 => within 0 1 (v 0)
  | 1 => within 500 20000 (v 1) && decide (v 4 ≤ v 1) && (List.range 16).all fun l => decide (v (8 + l) ≤ v 1)
  | 2 => decide (v 2 < v 3)
  | 3 => decide (v 3 < v 4)
  | 4 => true
  | 5 => within 0 2000 (v 5)
  | 6 => within 0 2000 (v 6)
  | 7 => within 0 1 (v 7)
  | _ =>
    if o < 23 then decide (v o ≤ v (o + 1))
    else if within 24 27 o then
      decide (bits (pageWord ws o) 0 4 ≤ 3) && decide (bits (pageWord ws o) 4 4 ≤ 1)
    else true

/-- Page 76 (R161): the life has its high part in bits 7–0 of its first word, and fails that word. -/
def filterOk (ws : List Word) (o : Nat) : Bool :=
  let v := pageNat ws
  if 24 ≤ o then true
  else
    match o % 8 with
    | 0 => within 0 1 (v o)
    | 1 => within 1 16777215 (v o % 256 * 65536 + v (o + 1))
    | 3 => within 1 100 (v o)
    | 4 => within 1 100 (v o)
    | _ => true

/-- Page 77 (R161). -/
def cycleOk (ws : List Word) (o : Nat) : Bool :=
  let v := pageNat ws
  match o with
  | 0 => within 1 7 (v 0)
  | 1 => withinInt 0 300 (pageInt ws 1)
  | 2 => within 60 3600 (v 2)
  | 3 => within 5 300 (v 3) && decide (v 3 < v 4)
  | 4 => within 30 1800 (v 4)
  | 5 => within 1 100 (v 5)
  | 6 => within 1 7 (v 6)
  | 7 => within 60 7200 (v 7)
  | 8 => within 30 3600 (v 8)
  | 9 => within 5 120 (v 9)
  | 10 => within 5 120 (v 10)
  | _ => true

/-- Page 78 (R161). -/
def controlOk (ws : List Word) (o : Nat) : Bool :=
  let v := pageNat ws
  match o with
  | 0 => within 2 120 (v 0)
  | 1 => within 1 16 (v 1)
  | 2 => within 1 15 (v 2)
  | 3 => within 0 29 (v 3)
  | 4 => within 1 63 (v 4)
  | 5 => within 1 240 (v 5)
  | 6 => within 1 240 (v 6)
  | 7 => within 0 1000 (v 7)
  | 8 => within 0 1000 (v 8)
  | 9 => within 0 500 (v 9)
  | 10 => within 1 3 (v 10)
  | _ => true

/-- R161: the word at an offset of a built page passes. -/
def wordOk (page : Nat) (ws : List Word) (o : Nat) : Bool :=
  if page ≤ 63 then translationOk ws o
  else if page = 64 then nodeMapOk ws o
  else if page ≤ 68 then scaleOk ws o
  else if page ≤ 72 then setpointOk ws o
  else
    match page with
    | 73 => allocationOk ws o
    | 74 => plantOk ws o
    | 75 => tankOk ws o
    | 76 => filterOk ws o
    | 77 => cycleOk ws o
    | 78 => controlOk ws o
    | _ => false

/-- R161, R188: the offset of the lowest word that fails, none when the built page passes. -/
def firstFailure (page : Nat) (ws : List Word) : Option Nat := (List.range 64).find? fun o => !wordOk page ws o

/-! ### The swap check (R165) -/

/-- The mapped nodes of a bank that satisfy a test. -/
def Bank.countNodes (b : Bank) (test : NodeEntry → Bool) : Nat :=
  (ringAddresses.filter fun a => (b.node a).mapped && test (b.node a)).length

/-- R165.3: at most one node each of class BLOWER, COMP, HEATER and TANK, at most one HEAD naming each zone, and a
controller address that is not the own address. -/
def Bank.swapCheck (own : Nat) (b : Bank) : Bool :=
  [classBlower, classComp, classHeater, classTank].all
    (fun c => decide (b.countNodes (fun e => e.cls == c) ≤ 1)) &&
  (List.range 8).all (fun z => decide (b.countNodes (fun e => e.cls == classHead && e.zone == some z) ≤ 1)) &&
  decide ((b.word 78 3).toNat ≠ own)

/-- R157: every page is WRITTEN. -/
def Bank.complete (b : Bank) : Bool := b.status.all (· == .written)

/-- R157: every page is EMPTY. -/
def Bank.isBlank (b : Bank) : Bool := b.status.all (· == .empty)

end Sys2Proof.Machine
end

