-- ==== Sys2Proof/Machine/Banks.lean ====
section
/-! DEFINITION. Table Banks (chapter 10): staging, the store engine, the bank swap. -/

namespace Sys2Proof.Machine

/-! ### Pages of the shadow -/

/-- A page of a bank takes words and a status. -/
def Bank.putPage (b : Bank) (page : Nat) (ws : List Word) (st : PageStatus) : Bank :=
  { b with mem := b.mem.writeList (page * 64) ws, status := b.status.set page st }

/-- R157: a page of the shadow takes words and a status. -/
def Banks.putShadow (b : Banks) (page : Nat) (ws : List Word) (st : PageStatus) : Banks :=
  b.setBank b.shadowId (b.shadow.putPage page ws st)

/-- 64 words of 0. -/
def blankPage : List Word := List.replicate 64 0#16

/-- The status of a page. -/
def Bank.pageStatus (b : Bank) (page : Nat) : PageStatus := b.status.getD page .empty

/-- R160: the built page: marked staging words, else the words of a WRITTEN shadow page, else 0. -/
def Banks.builtPage (b : Banks) (page : Nat) : List Word :=
  (List.range 64).map fun o =>
    if b.marks.getD o false then b.staging.read o
    else if b.shadow.pageStatus page = .written then b.shadow.word page o
    else 0#16

/-- Every staging mark clear (R158). -/
def noMarks : List Bool := List.replicate 64 false

/-! ### Store requests (R158–R165) -/

/-- §13.7: the engine state's code. -/
def Engine.code : Engine → Nat
  | .idle => 0
  | .committing _ _ => 1
  | .copying => 2
  | .erasing _ => 3

/-- §13.7: word 3 of READ STATUS part 6. -/
def Banks.engineWord (b : Banks) : Word :=
  word (b.engine.code + b.progress * 256 + flag b.swapPending * 32768)

/-- R159: store requests are answered BUSY. -/
def Banks.busy (b : Banks) : Bool := b.engine != .idle || b.swapPending

/-- R159: the BUSY answer, with the engine state and progress. -/
def Banks.busyAnswer (b : Banks) : Answer := { result := .busy, data := [b.engineWord] }

/-- R159: a store request is answered BUSY and changes nothing, or is settled. DESIGN CHOICE: BUSY also goes ahead of the
REFUSED(CONDITION) that R163 gives COPY LIVE while no bank is live, for which the spec states no order (log 30). -/
def State.storeRequest (f : State → State × Answer) (s : State) : State × Answer :=
  if s.banks.busy then (s, s.banks.busyAnswer) else f s

/-- R158: LOAD STAGING with arguments in range. -/
def State.loadStaging (offset : Nat) (ws : List Word) (s : State) : State × Answer :=
  (s.setBanks { s.banks with
    staging := s.banks.staging.writeList offset ws
    marks := s.banks.marks.zipIdx.map fun m => m.1 || decide (offset ≤ m.2 ∧ m.2 < offset + ws.length) },
    .plain .ok)

/-- R158: CLEAR STAGING. -/
def State.clearStaging (s : State) : State × Answer :=
  (s.setBanks { s.banks with marks := noMarks }, .plain .ok)

/-- R160: COMMIT PAGE, with CAL_EN as sampled. -/
def State.commitPage (page : Nat) (calEn : Bool) (s : State) : State × Answer :=
  if 79 ≤ page then (s, .refuse .address)
  else if 65 ≤ page ∧ page ≤ 68 ∧ !calEn then (s, .refuse .locked)
  else (s.setBanks { s.banks with engine := .committing page false, progress := 0 }, .plain .started)

/-- R163: COPY LIVE, once the engine accepts it (log 30). -/
def State.copyLive (s : State) : State × Answer :=
  if s.isLive then (s.setBanks { s.banks with engine := .copying, progress := 0 }, .plain .started)
  else (s, .refuse .condition)

/-- R164: ERASE SHADOW, with CAL_EN as sampled. -/
def State.eraseShadow (calEn : Bool) (s : State) : State × Answer :=
  (s.setBanks { s.banks with engine := .erasing (!calEn), progress := 0 }, .plain .started)

/-! ### The swap (R165–R167) -/

/-- R167: swap taken, posted to six blocks in order. -/
def swapPosts : List Instr :=
  [.ringSwapTaken, .zoneSwapTaken, .interlockSwapTaken, .waterSwapTaken, .filterSwapTaken, .rcSwapTaken]

/-- R166: the banks after a swap. -/
def Banks.swapped (b : Banks) : Banks :=
  let g := (b.generation + 1) % 65536
  { b.setBank b.shadowId { b.shadow with stamp := some g } with
    live := some b.shadowId, generation := g, swapPending := false }

/-- R166, R167: a swap is taken. Its posts go ahead of the events already in flight (log 3). -/
def State.takeSwap (s : State) : State :=
  (s.setBanks s.banks.swapped).setPosts (swapPosts ++ s.posts)

/-- R165: SWAP BANKS. -/
def State.swapBanks (s : State) : State × Answer :=
  if !s.banks.shadow.complete then (s, .refuse .notComplete)
  else if !s.banks.shadow.swapCheck s.ring.own then (s, .refuse .swapCheck)
  else if s.ring.enabled then (s.setBanks { s.banks with swapPending := true }, .plain .started)
  else (s.takeSwap, .plain .ok)

/-- R166: a pending swap is taken. -/
def State.takePending (s : State) : State := if s.banks.swapPending then s.takeSwap else s

/-- BANKS_SWEEP_BEGIN (R166). -/
def execBanksSweepBegin (n : Nat) (s : State) : Host.Outcome State Fault Refusal :=
  taking (.banksSweepBegin n) s State.takePending

/-- SWEEPS_DISABLED (R166). -/
def execSweepsDisabled (s : State) : Host.Outcome State Fault Refusal := taking .sweepsDisabled s State.takePending

/-! ### The engine's completions (R159–R164) -/

/-- R159: an operation ends with its record. -/
def Banks.ends (b : Banks) (op : StoreOp) (page : Option Nat) (o : StoreOutcome) : Banks :=
  { b with engine := .idle, record := some { op := op, page := page, outcome := o } }

/-- R161: the validation of a commit ends. -/
def State.validated (page : Nat) (s : State) : State :=
  match firstFailure page (s.banks.builtPage page) with
  | some o => (s.setBanks (s.banks.ends .commit (some page) (.failed o))).claimFlag .storeFail
  | none => s.setBanks { s.banks with engine := .committing page true }

/-- VALIDATION_COMPLETE (R161). -/
def execValidationComplete (s : State) : Host.Outcome State Fault Refusal :=
  taking .validationComplete s fun s =>
    match s.banks.engine with
    | .committing p false => s.validated p
    | .committing _ true => s
    | .idle => s
    | .copying => s
    | .erasing _ => s

/-- R160: the write of a commit completes. -/
def Banks.committed (page : Nat) (b : Banks) : Banks :=
  { (b.putShadow page (b.builtPage page) .written).ends .commit (some page) .done with
    marks := noMarks, progress := 1 }

/-- COMMIT_COMPLETE (R160). -/
def execCommitComplete (s : State) : Host.Outcome State Fault Refusal :=
  taking .commitComplete s fun s =>
    match s.banks.engine with
    | .committing p true => s.setBanks (s.banks.committed p)
    | .committing _ false => s
    | .idle => s
    | .copying => s
    | .erasing _ => s

/-- The words of a page of the live bank. -/
def Banks.livePage (b : Banks) (page : Nat) : List Word := (List.range 64).map fun o => b.liveWord page o

/-- R163, R164: the progress after a page, and the end of the operation after page 78. -/
def Banks.advance (op : StoreOp) (progress : Nat) (b : Banks) : Banks :=
  if Config.pages ≤ progress then { b.ends op none .done with progress := Config.pages }
  else { b with progress := progress }

/-- R163: one page copy completes. -/
def Banks.copied (b : Banks) : Banks :=
  (b.putShadow b.progress (b.livePage b.progress) .written).advance .copy (b.progress + 1)

/-- COPY_PAGE_COMPLETE (R163). -/
def execCopyPageComplete (s : State) : Host.Outcome State Fault Refusal :=
  taking .copyPageComplete s fun s =>
    match s.banks.engine with
    | .copying => s.setBanks s.banks.copied
    | .idle => s
    | .committing _ _ => s
    | .erasing _ => s

/-- R164: the progress after a page was erased; with CAL_EN low pages 65–68 are passed over. -/
def nextErase (keepCal : Bool) (page : Nat) : Nat := if keepCal ∧ page + 1 = 65 then 69 else page + 1

/-- R164: one page erasure completes. -/
def Banks.erased (keepCal : Bool) (b : Banks) : Banks :=
  (b.putShadow b.progress blankPage .empty).advance .erase (nextErase keepCal b.progress)

/-- ERASE_PAGE_COMPLETE (R164). -/
def execErasePageComplete (s : State) : Host.Outcome State Fault Refusal :=
  taking .erasePageComplete s fun s =>
    match s.banks.engine with
    | .erasing keepCal => s.setBanks (s.banks.erased keepCal)
    | .idle => s
    | .committing _ _ => s
    | .copying => s

/-! ### SOFT RESET (R170) -/

/-- R159, R170: the words of a page whose write was cut off: each is old or new, which the spec leaves open (log 14). -/
def tornWords (index : Nat) (old new : List Word) : List Word :=
  (List.range 64).map fun o => if Config.tornNew index o then new.getD o 0#16 else old.getD o 0#16

/-- R170: a page write of the shadow is cut off. -/
def Banks.tear (index page : Nat) (new : List Word) (b : Banks) : Banks :=
  b.putShadow page (tornWords index (b.shadow.page page) new) .torn

/-- R170: a page of a copy or an erasure is cut off. With a page completion taken just before, the next page had not begun: no
page is torn, and the record names none (log 46). -/
def Banks.cutPage (op : StoreOp) (index : Nat) (between : Bool) (new : List Word) (b : Banks) : Banks :=
  if between && b.progress != 0 then b.ends op none .torn
  else (b.tear index b.progress new).ends op (some b.progress) .torn

/-- R170: the page an operation was writing is torn, and the operation's record is TORN. -/
def Banks.cutOff (index : Nat) (between : Bool) (b : Banks) : Banks :=
  match b.engine with
  | .idle => b
  | .committing p false => b.ends .commit (some p) .torn
  | .committing p true => (b.tear index p (b.builtPage p)).ends .commit (some p) .torn
  | .copying => b.cutPage .copy index between (b.livePage b.progress)
  | .erasing _ => b.cutPage .erase index between blankPage

/-- R170: the Table Banks after SOFT RESET. -/
def Banks.softReset (index : Nat) (between : Bool) (b : Banks) : Banks :=
  { b.cutOff index between with progress := 0, swapPending := false, marks := noMarks }

end Sys2Proof.Machine
end

