-- ==== Sys2Proof/Machine/Water.lean ====
section
/-! DEFINITION. Water Monitor (chapter 7): the Tank Record, the tank state and its posts. -/

namespace Sys2Proof.Machine

/-- The fields of the live Tank page the Water Monitor uses (§7.1, §13.4.1). -/
structure TankPage where
  capacity  : Nat
  empty     : Nat
  near      : Nat
  full      : Nat
  tolerance : Nat
  margin    : Nat
  deriving DecidableEq, Repr

/-- The live Tank page. -/
def State.tankPage (s : State) : TankPage where
  capacity := s.param 75 1
  empty := s.param 75 2
  near := s.param 75 3
  full := s.param 75 4
  tolerance := s.param 75 5
  margin := s.param 75 6

/-- The kind in the live Tank page, none while no bank is live. -/
def State.pageKind (s : State) : Option TankKind :=
  if !s.isLive then none else if s.param 75 0 = 1 then some .drain else some .tank

/-- R114: the tank state a record evaluates to. A kind of none stands for no bank live (log 36). -/
def Water.evaluate (p : TankPage) (w : Water) : TankState :=
  let margin := if w.certain then 0 else p.margin
  match w.kind with
  | none => if w.float then .full else .unknown
  | some .drain => if w.float then .full else .drain
  | some .tank =>
    if w.float then .full
    else if w.removed then .out
    else if !w.known then .unknown
    else if p.full ≤ w.estimate + margin then .full
    else if p.near ≤ w.estimate + margin then .near
    else .normal

/-- R115: the states in which TANK is claimed. -/
def claimsTank : TankState → Bool
  | .full => true
  | .unknown => true
  | .out => true
  | .drain => false
  | .normal => false
  | .near => false

/-- R115.1: the post to the interlock. -/
def tankInhibitPost (old new : TankState) : List Instr :=
  if claimsTank old = claimsTank new then []
  else if claimsTank new then [.inhibitClaim .tank] else [.inhibitRelease .tank]

/-- R115.2: a condition that is true in one tank state. -/
def tankCondition (c : Condition) (at' old new : TankState) : List Instr :=
  if (old = at') = (new = at') then [] else [.conditionPost c (decide (new = at'))]

/-- R116: the tank is NEAR or FULL. -/
def TankState.wantsPump : TankState → Bool
  | .near => true
  | .full => true
  | .drain => false
  | .unknown => false
  | .normal => false
  | .out => false

/-- R116: the automatic PUMP-OUT request for a state. -/
def State.pumpOutPost (s : State) (t : TankState) : List Instr :=
  if TankState.wantsPump t && s.pumpFitted && !s.water.pumpFault then [.cycleRequest .pumpOut] else []

/-- R114, R115: the state is evaluated, and a change makes its posts in order. DESIGN CHOICE (log 51): the conditions that
changed are posted in the order R115 lists them, also when one turns true and a later one false. -/
def State.evalTank (s : State) : State :=
  let old := s.water.state
  let new := s.water.evaluate s.tankPage
  if new = old then s
  else (s.setWater { s.water with state := new }).post
    (tankInhibitPost old new ++ tankCondition .tankNear .near old new ++ tankCondition .tankFull .full old new ++
      tankCondition .tankOut .out old new ++ s.pumpOutPost new)

/-- R117: the tank report; `probe` is the level of the probe sample just taken. DESIGN CHOICE (log 52): a sample of level 0 sets
the empty indication while the kind is TANK only. -/
def State.tankReport (s : State) (probe : Option Nat) : Instr :=
  .tankReport {
    state := s.water.state
    estimate := s.water.estimate
    known := s.water.known
    certain := s.water.certain
    probe := probe
    empty := (probe == some 0 && s.water.kind == some .tank) ||
      (s.water.state == .normal && decide (s.water.estimate ≤ s.tankPage.empty)) }

/-- The record changes, the state is evaluated, and the report follows (R114, R117). -/
def State.waterEvent (probe : Option Nat) (f : Water → Water) (s : State) : State :=
  let t := (s.setWater (f s.water)).evalTank
  t.post [t.tankReport probe]

/-- The event changes nothing, and the report follows (R117, log 36). -/
def State.reportOnly (probe : Option Nat) (s : State) : State := s.post [s.tankReport probe]

/-- R109: a deposit. -/
def Water.deposit (p : TankPage) (v : Nat) (saturated : Bool) (w : Water) : Water :=
  { w with estimate := min (w.estimate + v) p.capacity, certain := w.certain && !saturated }

/-- R109: a removal. -/
def Water.remove (v : Nat) (saturated : Bool) (w : Water) : Water :=
  { w with estimate := w.estimate - v, certain := w.certain && !saturated }

/-- DEPOSIT (R109): discarded unless the kind is TANK. -/
def execDeposit (v : Nat) (saturated : Bool) (s : State) : Host.Outcome State Fault Refusal :=
  taking (.deposit v saturated) s fun s =>
    if s.water.kind = some .tank then s.waterEvent none (Water.deposit s.tankPage v saturated) else s.reportOnly none

/-- REMOVAL (R109): discarded unless the kind is TANK. -/
def execRemoval (v : Nat) (saturated : Bool) (s : State) : Host.Outcome State Fault Refusal :=
  taking (.removal v saturated) s fun s =>
    if s.water.kind = some .tank then s.waterEvent none (Water.remove v saturated) else s.reportOnly none

/-- UNCERTAIN (R110): discarded while the kind is DRAIN. -/
def execUncertain (s : State) : Host.Outcome State Fault Refusal :=
  taking .uncertain s fun s =>
    if s.water.kind = some .drain then s.reportOnly none
    else s.waterEvent none fun w => { w with certain := false }

/-- R111: a probe sample of level L, for which the probe map gives m. -/
def Water.probeAt (p : TankPage) (m level : Nat) (w : Water) : Water :=
  { w with
    estimate :=
      if !w.known then m
      else if p.tolerance < m - w.estimate ∨ p.tolerance < w.estimate - m then m
      else w.estimate
    known := true
    certain := true
    probe := some level }

/-- The probe map entry of a level in the live Tank page (§13.4.1). -/
def State.probeMap (s : State) (level : Nat) : Nat := s.param 75 (8 + level)

/-- TANK_LEVEL (R111): none is a fault report. -/
def State.takeTankLevel (sample : Option (Fin 16)) (s : State) : State :=
  match sample with
  | none =>
    if s.water.kind = some .tank then s.waterEvent none fun w => { w with certain := false } else s.reportOnly none
  | some level =>
    if s.water.kind = some .tank ∧ !s.water.removed then
      s.waterEvent (some level.val) (Water.probeAt s.tankPage (s.probeMap level.val) level.val)
    else s.reportOnly (some level.val)

/-- TANK_LEVEL (R111). -/
def execTankLevel (sample : Option (Fin 16 × Quality)) (s : State) : Host.Outcome State Fault Refusal :=
  taking (.tankLevel sample) s (State.takeTankLevel (sample.map Prod.fst))

/-- R112, R117: a change of the FLOAT line; a line that matches the float record changes nothing, and is reported. -/
def State.takeFloat (raised : Bool) (s : State) : State :=
  if s.water.float = raised then s.reportOnly none
  else s.waterEvent none fun w =>
    { w with
      float := raised
      estimate := if raised ∧ w.kind = some .tank then max w.estimate s.tankPage.full else w.estimate }

/-- TANK_OUT (R113): discarded unless the kind is TANK. -/
def execTankOut (s : State) : Host.Outcome State Fault Refusal :=
  taking .tankOut s fun s =>
    if s.water.kind = some .tank ∧ !s.water.removed then s.waterEvent none fun w => { w with removed := true }
    else s.reportOnly none

/-- R113: the record after TANK-IN. -/
def Water.reinserted (w : Water) : Water :=
  { w with removed := false, estimate := 0, known := false, probe := none, certain := false }

/-- TANK_IN (R113): discarded unless the kind is TANK. -/
def execTankIn (s : State) : Host.Outcome State Fault Refusal :=
  taking .tankIn s fun s =>
    if s.water.kind = some .tank then s.waterEvent none Water.reinserted else s.reportOnly none

/-- R119: the pump-fault latch is set: PUMP is claimed, then PUMP-FAULT is posted. -/
def State.latchPumpFault (s : State) : State :=
  if s.water.pumpFault then s
  else (s.setWater { s.water with pumpFault := true }).post [.inhibitClaim .pump, .conditionPost .pumpFault true]

/-- PUMP_OUT_OUTCOME (R118). -/
def State.takePumpOutcome (o : CycleOutcome) (s : State) : State :=
  match o with
  | .failed .noFlow => s.latchPumpFault.reportOnly none
  | .failed .airflow => s.reportOnly none
  | .failed .noData => s.reportOnly none
  | .aborted _ => s.waterEvent none fun w => { w with certain := false }
  | .none => s.reportOnly none
  | .done => s.reportOnly none
  | .doneTimed => s.reportOnly none
  | .cancelled => s.reportOnly none

/-- PUMP_OUT_OUTCOME (R118). -/
def execPumpOutOutcome (o : CycleOutcome) (s : State) : Host.Outcome State Fault Refusal :=
  taking (.pumpOutOutcome o) s (State.takePumpOutcome o)

/-- R117, R119: CLEAR FAULT (PUMP). With the latch clear it changes nothing, and is reported. -/
def State.clearPumpFault (s : State) : State :=
  if s.water.pumpFault then
    let t := (s.setWater { s.water with pumpFault := false }).post
      [.inhibitRelease .pump, .conditionPost .pumpFault false]
    (t.post (t.pumpOutPost t.water.state)).reportOnly none
  else s.reportOnly none

/-- R120: the record by the old and the new kind. -/
def Water.swapKind (p : TankPage) (new : Option TankKind) (w : Water) : Water :=
  match w.kind, new with
  | some .tank, some .tank => { w with estimate := min w.estimate p.capacity }
  | some .drain, some .drain => w
  | none, some .tank =>
    { w with kind := new, estimate := 0, known := false, certain := false, probe := none, removed := false }
  | some .drain, some .tank =>
    { w with kind := new, estimate := 0, known := false, certain := false, probe := none, removed := false }
  | none, some .drain =>
    { w with kind := new, estimate := 0, certain := true, probe := none, removed := false }
  | some .tank, some .drain =>
    { w with kind := new, estimate := 0, certain := true, probe := none, removed := false }
  | _, none => w

/-- R120: the Water Monitor takes a swap: the kinds are compared, the state is evaluated, a pump that became fitted is
asked for, and the report is last. -/
def State.waterSwap (s : State) : State :=
  let old := s.water.fitted
  let t := (s.setWater { s.water.swapKind s.tankPage s.pageKind with fitted := s.pumpFitted }).evalTank
  let u := if !old && t.pumpFitted then t.post (t.pumpOutPost t.water.state) else t
  u.reportOnly none

/-- WATER_SWAP_TAKEN (R120). -/
def execWaterSwapTaken (s : State) : Host.Outcome State Fault Refusal :=
  taking .waterSwapTaken s State.waterSwap

/-- R123: the record after SOFT RESET. -/
def State.softWater (s : State) : Water :=
  let w := { Water.atReset s.lines.float with
    kind := s.pageKind, pumpFault := s.water.pumpFault, fitted := s.pumpFitted }
  if s.pageKind = some .drain then
    { w with certain := true, state := if s.lines.float then .full else .drain }
  else w

/-- R123: the posts as a soft reset completes. -/
def State.softWaterPosts (s : State) : List Instr :=
  (if claimsTank s.water.state then [.inhibitClaim .tank] else [.inhibitRelease .tank]) ++
  (if s.water.pumpFault then [.inhibitClaim .pump] else []) ++
  (if s.water.state = .full then [.conditionPost .tankFull true] else []) ++
  (if s.water.pumpFault then [.conditionPost .pumpFault true] else []) ++
  [s.tankReport none]

end Sys2Proof.Machine
end

