-- ==== Sys2Proof/Machine/Cycles.lean ====
section
/-! DEFINITION. Cycle Engine (chapter 8): requests, preemption, steps and plans, and how cycles end. -/

namespace Sys2Proof.Machine

/-! ### Kinds -/

/-- DEFROST and PUMP-OUT are never suspended (chapter 8, table of kinds). -/
def suspendable : CycleKind → Bool
  | .defrost => false
  | .pumpOut => false
  | .regen => true
  | .profile => true

/-- A kind outranks another when its priority number is smaller (chapter 8). -/
def outranks (x y : CycleKind) : Bool := decide (CycleKind.priority x < CycleKind.priority y)

/-- A kind's outcome record. -/
def CycleEngine.record (c : CycleEngine) : CycleKind → OutcomeRecord
  | .defrost => c.defrost
  | .pumpOut => c.pumpOut
  | .regen => c.regen
  | .profile => c.profile

/-- A kind's outcome record replaced. -/
def CycleEngine.setRecord (c : CycleEngine) (k : CycleKind) (r : OutcomeRecord) : CycleEngine :=
  match k with
  | .defrost => { c with defrost := r }
  | .pumpOut => { c with pumpOut := r }
  | .regen => { c with regen := r }
  | .profile => { c with profile := r }

/-- Profile data of an instance that has none yet. -/
def ProfileData.empty : ProfileData := { top := 0, fitted := [], points := [], sums := [], waiting := false }

/-- The first step of a kind (R129–R133). -/
def firstStep : CycleKind → CycleStep
  | .defrost => .melt
  | .pumpOut => .prime
  | .regen => .heat
  | .profile => .settle 1

/-- R124: the instance a request creates. DESIGN CHOICE (log 56): the spec gives the step field as the step under way or to resume,
and a queued instance has neither; it holds, and READ CYCLE reads, the kind's first step. -/
def Cycle.queued (k : CycleKind) : Cycle where
  kind := k
  held := false
  step := firstStep k
  stepTimer := none
  cycleTimer := none
  completed := 0
  suspends := 0
  active := false
  plan := []
  endTemp := 0
  flowTime := 0
  profile := .empty

/-- R124: the queue with an instance placed by priority. -/
def enqueue (c : Cycle) : List Cycle → List Cycle
  | [] => [c]
  | x :: xs => if outranks c.kind x.kind then c :: x :: xs else x :: enqueue c xs

/-! ### Plans (R128) -/

/-- The damper claims of a plan, for each zone that has a damper port. -/
def State.damperClaims (s : State) (value : Nat → Nat) : List Claim :=
  s.banks.damperPorts.map fun x => { target := .damper x.1 x.2.1 x.2.2, value := value x.1 }

/-- Dampers of LIVE zones 100, of other zones 0. -/
def State.liveDampers (s : State) : List Claim :=
  s.damperClaims fun z => if (s.zone z).state = .live then 100 else 0

/-- R128: the claims of a step's plan. -/
def State.planOf (s : State) : CycleStep → List Claim
  | .melt =>
    [{ target := .compressor, value := 0 }, { target := .heater, value := 0 },
      { target := .blower, value := s.param 77 0 }] ++ s.liveDampers
  | .prime => [{ target := .pump, value := 1 }]
  | .drain => [{ target := .pump, value := 1 }]
  | .heat =>
    [{ target := .heater, value := s.param 77 5 }, { target := .blower, value := s.param 77 6 }] ++
      s.damperClaims fun _ => 0
  | .purge =>
    [{ target := .heater, value := 0 }, { target := .blower, value := s.param 77 6 }] ++ s.damperClaims fun _ => 0
  | .settle k =>
    [{ target := .compressor, value := 0 }, { target := .heater, value := 0 }, { target := .blower, value := k }] ++
      s.liveDampers
  | .measure k =>
    [{ target := .compressor, value := 0 }, { target := .heater, value := 0 }, { target := .blower, value := k }] ++
      s.liveDampers

/-- The running place replaced. -/
def State.setRunning (c : Option Cycle) (s : State) : State := s.setCycles { s.cycles with running := c }

/-- R128: a running cycle begins a step: the plan is read, stands for the step, and is posted (log 44). -/
def State.beginStep (c : Cycle) (s : State) : State :=
  (s.setRunning (some { c with plan := s.planOf c.step })).post [.cyclePlan c.kind (s.planOf c.step)]

/-! ### Ends (R136) -/

/-- R136.4: the outcome posted to the kind's owner; `result` is that of a DONE PROFILE (R134). -/
def outcomePost (k : CycleKind) (o : CycleOutcome) (result : List (Option Curve)) : Instr :=
  match k with
  | .defrost => .dryingCycleOutcome .defrost o
  | .pumpOut => .pumpOutOutcome o
  | .regen => .dryingCycleOutcome .regen o
  | .profile => .profileOutcome o result

/-- R136.5: a FAILED outcome claims CYCLE-FAIL. -/
def failPost : CycleOutcome → List Instr
  | .failed _ => [.flagSetClaim .cycleFail]
  | .none => []
  | .done => []
  | .doneTimed => []
  | .aborted _ => []
  | .cancelled => []

/-- R136.1: the outcome record is written. -/
def State.writeOutcome (c : Cycle) (o : CycleOutcome) (s : State) : State :=
  s.setCycles (s.cycles.setRecord c.kind { outcome := o, endSweep := s.ring.lastBegin, completed := c.completed })

/-- R136: an instance that is in no place any more has ended; `planned`: it held a plan. DEDUCED (log 33): a DEFROST that fails its
airflow check as it is picked (R127) had not posted "regime set", and posts no "regime clear". -/
def State.ended (c : Cycle) (planned : Bool) (o : CycleOutcome) (result : List (Option Curve)) (s : State) : State :=
  (s.writeOutcome c o).post
    ((if planned then [.planRelease] else []) ++
      (if planned && c.kind == .defrost then [.defrostRegimeClear] else []) ++
      (if c.active then [.regenInactive] else []) ++
      outcomePost c.kind o result :: failPost o)

/-! ### Picking (R127) -/

/-- R133, §13.4.1: the fitted stages of the live Filter page, in the order PRE, FINE, SORB. -/
def State.fittedStages (s : State) : List Bool := (List.range 3).map fun i => s.param 76 (8 * i) == 1

/-- R128–R133: an instance at the start of its first step, with the parameters read. -/
def State.started (s : State) (c : Cycle) : Cycle :=
  match c.kind with
  | .defrost => { c with step := .melt, cycleTimer := some (s.param 77 2), endTemp := s.paramInt 77 1 }
  | .pumpOut => { c with step := .prime, cycleTimer := some (s.param 77 4), flowTime := s.param 77 3 }
  | .regen => { c with step := .heat, stepTimer := some (s.param 77 7) }
  | .profile =>
    { c with
      step := .settle 1
      stepTimer := some (s.param 77 9)
      profile := { ProfileData.empty with
        top := s.param 73 16
        fitted := s.fittedStages
        points := [[], [], []] } }

/-- R131, R133: a suspended instance at its resumption. -/
def State.resumed (s : State) (c : Cycle) : Cycle :=
  if c.kind = .profile then { c with stepTimer := some (s.param 77 9) } else c

/-- R127: what starting an instance comes to: an end at its start, or the instance that runs. -/
inductive Launch where
  | ends (c : Cycle) (o : CycleOutcome)
  | runs (c : Cycle)
  deriving DecidableEq, Repr

/-- R127.1, R133: the airflow check, and a PROFILE with no stage fitted. Such an instance holds no plan (log 33). -/
def State.launch (s : State) (fresh : Bool) (c : Cycle) : Launch :=
  if c.kind ≠ .pumpOut ∧ s.inter.fault then .ends c (.failed .airflow)
  else
    let c' := if fresh then s.started c else s.resumed c
    if c.kind = .profile ∧ c'.profile.fitted.all (· == false) then .ends c' .done else .runs c'

/-- R127.2, R127.3, R132: the instance runs, and its posts are made. A REGEN that starts with the tank hold mark set is
held, with a plan of no claims (log 32); it keeps the step's plan, read now, for the moment it runs on (log 54). -/
def State.run (fresh : Bool) (c : Cycle) (s : State) : State :=
  if c.kind = .regen then
    if s.cycles.tankHold then (s.setRunning (some { c with held := true, plan := s.planOf c.step })).post [.cyclePlan .regen []]
    else (s.beginStep { c with active := true }).post [.regenActive]
  else if c.kind = .defrost ∧ fresh then (s.beginStep c).post [.defrostRegimeSet]
  else s.beginStep c

/-- R127: a picked instance starts or resumes; false when it ended at its start. -/
def State.startPicked (fresh : Bool) (c : Cycle) (s : State) : State × Bool :=
  match s.launch fresh c with
  | .ends c' o => (s.ended c' false o [], false)
  | .runs c' => (s.run fresh c', true)

/-- R127: the highest kind among the queue and the suspended place, taken out of its place. -/
def State.takeHighest (s : State) : Option (Bool × Cycle × State) :=
  match s.cycles.queue, s.cycles.suspended with
  | [], none => none
  | c :: rest, none => some (true, c, s.setCycles { s.cycles with queue := rest })
  | [], some p => some (false, p, s.setCycles { s.cycles with suspended := none })
  | c :: rest, some p =>
    if outranks p.kind c.kind then some (false, p, s.setCycles { s.cycles with suspended := none })
    else some (true, c, s.setCycles { s.cycles with queue := rest })

/-- R127: the engine picks until a cycle runs or none is left; each pick takes one instance, so the bound is never met
before that. -/
def State.pickLoop : Nat → State → State
  | 0, s => s
  | n + 1, s =>
    match s.takeHighest with
    | none => s
    | some (fresh, c, t) =>
      let r := t.startPicked fresh c
      if r.2 then r.1 else r.1.pickLoop n

/-- R127: a free engine picks. -/
def State.pick (s : State) : State :=
  if s.cycles.running.isSome then s else s.pickLoop (s.cycles.queue.length + 1)

/-- R136: the running cycle ends, and the engine picks. -/
def State.endRunning (c : Cycle) (o : CycleOutcome) (result : List (Option Curve)) (s : State) : State :=
  ((s.setRunning none).ended c true o result).pick

/-! ### Preemption and holds (R126, R132) -/

/-- R131, R133: the step a set-aside instance resumes: a PROFILE restarts its blower step from SETTLE. -/
def CycleStep.toResume : CycleStep → CycleStep
  | .settle k => .settle k
  | .measure k => .settle k
  | .melt => .melt
  | .prime => .prime
  | .drain => .drain
  | .heat => .heat
  | .purge => .purge

/-- R126, R131, R133: an instance set aside holds no plan. A REGEN keeps the rest of its step timer; a PROFILE stops it and
drops its sums. -/
def Cycle.setAside (c : Cycle) : Cycle :=
  { c with
    suspends := c.suspends + 1
    held := false
    active := false
    plan := []
    step := c.step.toResume
    stepTimer := if c.kind = .profile then none else c.stepTimer
    profile := { c.profile with sums := [], waiting := false } }

/-- R126: a queued kind preempts the running cycle when it outranks it, it is suspendable and the suspended place is
empty. The fourth preemption of an instance ends it. -/
def State.preempt (k : CycleKind) (s : State) : State :=
  match s.cycles.running with
  | none => s
  | some c =>
    if outranks k c.kind && suspendable c.kind && s.cycles.suspended.isNone then
      if c.suspends < 3 then
        ((s.setCycles { s.cycles with running := none, suspended := some c.setAside }).post
          (.planRelease :: (if c.active then [.regenInactive] else []))).pick
      else s.endRunning c (.aborted .suspendLimit) []
    else s

/-- R126: the same test when the suspended place has emptied: the highest kind of the queue preempts. -/
def State.preemptTest (s : State) : State :=
  match s.cycles.queue with
  | [] => s
  | c :: _ => s.preempt c.kind

/-- R132: a held REGEN ends when the suspended place holds a cycle and the queue holds a kind that outranks it. -/
def State.heldTest (s : State) : State :=
  match s.cycles.running with
  | none => s
  | some c =>
    if c.held && s.cycles.suspended.isSome && s.cycles.queue.any fun q => outranks q.kind c.kind then
      s.endRunning c (.aborted .held) []
    else s

/-- R132: a running REGEN is held: its plan loses its claims. -/
def State.holdRegen (c : Cycle) (s : State) : State :=
  ((s.setRunning (some { c with held := true, active := false })).post
    (.cyclePlan .regen [] :: (if c.active then [.regenInactive] else []))).heldTest

/-- R128, R132: a held REGEN runs on, with the plan of its step as it was read at the step's start. -/
def State.unholdRegen (c : Cycle) (s : State) : State :=
  (s.setRunning (some { c with held := false, active := true })).post [.cyclePlan .regen c.plan, .regenActive]

/-! ### Requests (R125) -/

/-- R125.1: the reason a request is refused for, FAULT before CONDITION. -/
def State.cycleRefusal (s : State) (k : CycleKind) : Option Reason :=
  if k = .pumpOut then
    if s.water.pumpFault then some .fault
    else if !s.isLive ∨ s.cycles.level = .unconfigured ∨ s.cycles.level = .halt ∨ !s.pumpFitted then some .condition
    else none
  else if !s.isLive ∨ s.cycles.level ≠ .active ∨ s.cycles.door then some .condition
  else none

/-- R125: a cycle request, with the answer REQUEST CYCLE gives. -/
def State.requestCycle (k : CycleKind) (s : State) : State × Result :=
  match s.cycleRefusal k with
  | some r => (s, .refused r)
  | none =>
    if s.cycles.has k then (s, .merged)
    else
      let t := s.setCycles { s.cycles with queue := enqueue (Cycle.queued k) s.cycles.queue }
      let u := if t.cycles.running.isSome then (t.preempt k).heldTest else t.pick
      (u, if u.cycles.queuedKind k then .ok else .started)

/-- CYCLE_REQUEST (R125). -/
def execCycleRequest (k : CycleKind) (s : State) : Host.Outcome State Fault Refusal :=
  taking (.cycleRequest k) s fun s => (s.requestCycle k).1

/-! ### Samples and timers (R129–R133) -/

/-- R129: a COIL-TEMP sample for MELT, against the end temperature read as MELT started (R128). -/
def State.cycleCoilTemp (v : Int) (s : State) : State :=
  match s.cycles.running with
  | none => s
  | some c =>
    if c.step = .melt ∧ c.endTemp ≤ v then s.endRunning { c with completed := 1 } .done [] else s

/-- CYCLE_COIL_TEMP (R129): a fault report is not used. -/
def execCycleCoilTemp (sample : Option (Int × Quality)) (s : State) : Host.Outcome State Fault Refusal :=
  taking (.cycleCoilTemp sample) s fun s =>
    match sample with
    | none => s
    | some (v, _) => s.cycleCoilTemp v

/-- R133: the stage is fitted, as the instance read it at its start. -/
def ProfileData.isFitted (p : ProfileData) (st : Stage) : Bool := p.fitted.getD (Stage.index st) false

/-- R133: a sample added to a stage's sum. -/
def ProfileData.addSample (st : Stage) (v : Nat) (p : ProfileData) : ProfileData :=
  { p with sums := modifyAt (fun x => (x.1 + v, x.2 + 1)) p.sums (Stage.index st) }

/-- R133: sums and counts at the start of a MEASURE. -/
def ProfileData.measureStart (p : ProfileData) : ProfileData :=
  { p with sums := [(0, 0), (0, 0), (0, 0)], waiting := false }

/-- R133: MEASURE of blower step k begins; its first sample may begin it. -/
def State.beginMeasure (c : Cycle) (k : Nat) (f : ProfileData → ProfileData) (s : State) : State :=
  s.beginStep
    { c with step := .measure k, stepTimer := some (s.param 77 10), profile := f c.profile.measureStart }

/-- R133: a DP sample for a fitted stage. -/
def State.dpSample (st : Stage) (v : Nat) (s : State) : State :=
  match s.cycles.running with
  | none => s
  | some c =>
    match c.step with
    | .measure k =>
      if !c.profile.isFitted st then s
      else if c.profile.waiting then
        if s.blowerOutput = k then s.beginMeasure c k (ProfileData.addSample st v) else s
      else s.setRunning (some { c with profile := c.profile.addSample st v })
    | .settle _ => s
    | .melt => s
    | .prime => s
    | .drain => s
    | .heat => s
    | .purge => s

/-- DP_SAMPLE (R133): a fault report is discarded. -/
def execDpSample (st : Stage) (sample : Option (Nat × Quality)) (s : State) : Host.Outcome State Fault Refusal :=
  taking (.dpSample st sample) s fun s =>
    match sample with
    | none => s
    | some (v, _) => s.dpSample st v

/-- R130: a PUMP-FLOW sample above 0 completes PRIME. -/
def State.pumpFlow (v : Nat) (s : State) : State :=
  match s.cycles.running with
  | none => s
  | some c =>
    if c.step = .prime ∧ 0 < v then s.beginStep { c with step := .drain, stepTimer := none, completed := 1 } else s

/-- PUMP_FLOW (R130): a fault report is discarded. -/
def execPumpFlow (sample : Option (Nat × Quality)) (s : State) : Host.Outcome State Fault Refusal :=
  taking (.pumpFlow sample) s fun s =>
    match sample with
    | none => s
    | some (v, _) => s.pumpFlow v

/-- R130: a tank report for a running PUMP-OUT. -/
def State.reportToPump (r : TankReport) (c : Cycle) (s : State) : State :=
  if r.empty then s.endRunning (if c.step = .drain then { c with completed := 2 } else c) .done []
  else if r.state = .out ∨ r.state = .drain then s.endRunning c (.aborted .noTank) []
  else s

/-- R132: a tank report for a running REGEN. -/
def State.reportToRegen (c : Cycle) (s : State) : State :=
  if s.cycles.tankHold && !c.held then s.holdRegen c
  else if !s.cycles.tankHold && c.held then s.unholdRegen c
  else s

/-- R124, R130, R132: a tank report sets the tank hold mark and reaches the running cycle. -/
def State.takeTankReport (r : TankReport) (s : State) : State :=
  let t := s.setCycles { s.cycles with tankHold := claimsTank r.state }
  match t.cycles.running with
  | none => t
  | some c =>
    match c.kind with
    | .pumpOut => t.reportToPump r c
    | .regen => t.reportToRegen c
    | .defrost => t
    | .profile => t

/-- TANK_REPORT (R117). -/
def execTankReport (r : TankReport) (s : State) : Host.Outcome State Fault Refusal :=
  taking (.tankReport r) s (State.takeTankReport r)

/-- CYCLE_OUTPUT_CHANGED (R130): the pump turning on starts the PRIME step timer, with the timeout read as PRIME
started (R128). -/
def execCycleOutputChanged (o : Output) (v : Nat) (s : State) : Host.Outcome State Fault Refusal :=
  taking (.cycleOutputChanged o v) s fun s =>
    match s.cycles.running with
    | none => s
    | some c =>
      if o = .pump ∧ v ≠ 0 ∧ c.step = .prime then s.setRunning (some { c with stepTimer := some c.flowTime })
      else s

/-- AIRFLOW_LOST (R135). -/
def execAirflowLost (s : State) : Host.Outcome State Fault Refusal :=
  taking .airflowLost s fun s =>
    match s.cycles.running with
    | none => s
    | some c => if c.kind = .pumpOut then s else s.endRunning c (.failed .airflow) []

/-- R133: the point a stage gains; none for a stage not fitted. -/
def gainPoint (k : Nat) (fitted : Bool) (sum : Nat × Nat) (points : Curve) : Curve :=
  if fitted then points ++ [(k, sum.1 / sum.2)] else points

/-- R133: a fitted stage has a count of 0. -/
def ProfileData.starved (p : ProfileData) : Bool :=
  (List.range 3).any fun i => p.fitted.getD i false && (p.sums.getD i (0, 0)).2 == 0

/-- R133: every fitted stage gains its point for step k. -/
def ProfileData.gain (k : Nat) (p : ProfileData) : ProfileData :=
  { p with
    points := (List.range 3).map fun i =>
      gainPoint k (p.fitted.getD i false) (p.sums.getD i (0, 0)) (p.points.getD i [])
    sums := [] }

/-- R134: the result of a PROFILE that ends DONE, per stage. -/
def ProfileData.result (p : ProfileData) : List (Option Curve) :=
  (List.range 3).map fun i => if p.fitted.getD i false then some (p.points.getD i []) else none

/-- R133: the MEASURE timer of blower step k expires. -/
def State.measureOver (c : Cycle) (k : Nat) (s : State) : State :=
  if c.profile.waiting || c.profile.starved then s.endRunning c (.failed .noData) []
  else
    let d := { c with completed := k, profile := c.profile.gain k }
    if d.profile.top ≤ k then s.endRunning d .done d.profile.result
    else s.beginStep { d with step := .settle (k + 1), stepTimer := some (s.param 77 9) }

/-- R133: the SETTLE timer of blower step k expires. DESIGN CHOICE (log 55): a MEASURE that waits is held, and read (R124), as
MEASURE of blower step k. -/
def State.settleOver (c : Cycle) (k : Nat) (s : State) : State :=
  if s.blowerOutput = k then s.beginMeasure c k id
  else
    s.setRunning (some { c with
      step := .measure k, stepTimer := some (s.param 77 10), profile := { c.profile with waiting := true } })

/-- R130, R131, R133: the expiry of a running step timer. -/
def State.stepOver (c : Cycle) (s : State) : State :=
  match c.step with
  | .prime => s.endRunning c (.failed .noFlow) []
  | .heat => s.beginStep { c with step := .purge, stepTimer := some (s.param 77 8), completed := 1 }
  | .purge => s.endRunning { c with completed := 2 } .done []
  | .settle k => s.settleOver c k
  | .measure k => s.measureOver c k
  | .melt => s
  | .drain => s

/-- STEP_TIMER_EXPIRY (R128): it occurs only while the step timer runs (log 5); a held cycle's timer is paused. -/
def execStepTimerExpiry (s : State) : Host.Outcome State Fault Refusal :=
  taking .stepTimerExpiry s fun s =>
    match s.cycles.running with
    | none => s
    | some c => if c.stepTimer.isSome && !c.held then s.stepOver c else s

/-- R129, R130: the expiry of a running cycle timer. MELT and DRAIN count as complete. -/
def State.cycleOver (c : Cycle) (s : State) : State :=
  match c.step with
  | .melt => s.endRunning { c with completed := 1 } .doneTimed []
  | .prime => s.endRunning c .doneTimed []
  | .drain => s.endRunning { c with completed := 2 } .doneTimed []
  | .heat => s
  | .purge => s
  | .settle _ => s
  | .measure _ => s

/-- CYCLE_TIMER_EXPIRY (R129, R130): it occurs only while the cycle timer runs (log 5). -/
def execCycleTimerExpiry (s : State) : Host.Outcome State Fault Refusal :=
  taking .cycleTimerExpiry s fun s =>
    match s.cycles.running with
    | none => s
    | some c => if c.cycleTimer.isSome then s.cycleOver c else s

/-! ### Aborts (R137, R138) -/

/-- R138: the running instance ends without a pick. -/
def State.abortRunning (hit : CycleKind → Bool) (r : AbortReason) (s : State) : State :=
  match s.cycles.running with
  | none => s
  | some c => if hit c.kind then (s.setRunning none).ended c true (.aborted r) [] else s

/-- R138: the suspended instance ends. -/
def State.abortSuspended (hit : CycleKind → Bool) (r : AbortReason) (s : State) : State :=
  match s.cycles.suspended with
  | none => s
  | some c =>
    if hit c.kind then (s.setCycles { s.cycles with suspended := none }).ended c false (.aborted r) [] else s

/-- R138: queued instances are cancelled in priority order. -/
def State.cancelQueued (hit : CycleKind → Bool) (s : State) : State :=
  (s.cycles.queue.filter fun c => hit c.kind).foldl (fun t c => t.ended c false .cancelled [])
    (s.setCycles { s.cycles with queue := s.cycles.queue.filter fun c => !hit c.kind })

/-- R126, R136.6: after aborts: a free engine picks; one whose suspended place emptied makes the preemption test. -/
def State.afterAborts (before : Option Cycle) (s : State) : State :=
  if s.cycles.running.isNone then s.pick
  else if before.isSome && s.cycles.suspended.isNone then s.preemptTest
  else s

/-- R138: the instances of the kinds hit end in order: running, suspended, queued. -/
def State.abortKinds (hit : CycleKind → Bool) (r : AbortReason) (s : State) : State :=
  (((s.abortRunning hit r).abortSuspended hit r).cancelQueued hit).afterAborts s.cycles.suspended

/-- R138: every kind but PUMP-OUT. -/
def airKinds : CycleKind → Bool
  | .defrost => true
  | .regen => true
  | .profile => true
  | .pumpOut => false

/-- R138: the Cycle Engine at a change of the DOOR line. -/
def State.cycleDoor (isOpen : Bool) (s : State) : State :=
  let t := s.setCycles { s.cycles with door := isOpen }
  if isOpen then t.abortKinds airKinds .door else t

/-- R138: the Cycle Engine takes a run level. -/
def State.cycleLevel (l : RunLevel) (s : State) : State :=
  if s.cycles.level = l then s
  else
    let t := s.setCycles { s.cycles with level := l }
    match l with
    | .watch => t.abortKinds airKinds .runLevel
    | .halt => t.abortKinds (fun _ => true) .runLevel
    | .unconfigured => t
    | .active => t

/-- CYCLE_RUN_LEVEL_CHANGE (R138). -/
def execCycleRunLevelChange (l : RunLevel) (s : State) : Host.Outcome State Fault Refusal :=
  taking (.cycleRunLevelChange l) s (State.cycleLevel l)

/-- R137: ABORT CYCLE of a kind. -/
def State.abortCycle (k : CycleKind) (s : State) : State × Result :=
  if s.cycles.has k then (s.abortKinds (· == k) .host, .ok) else (s, .refused .notPresent)

/-- R141: the engine after SOFT RESET: every instance ends with its record, and nothing is posted. -/
def State.softCycles (s : State) (level : RunLevel) : CycleEngine :=
  let close := fun (o : CycleOutcome) (e : CycleEngine) (c : Cycle) =>
    e.setRecord c.kind { outcome := o, endSweep := s.ring.lastBegin, completed := c.completed }
  let e := s.cycles.running.toList.foldl (close (.aborted .reset)) s.cycles
  let e := s.cycles.suspended.toList.foldl (close (.aborted .reset)) e
  let e := s.cycles.queue.foldl (close .cancelled) e
  { e with
    queue := [], running := none, suspended := none, door := s.lines.door, level := level, tankHold := true }

end Sys2Proof.Machine
end

