-- ==== Sys2Proof/Machine/Reports.lean ====
section
/-! DEFINITION. The data words of the read requests (§13.7). -/

namespace Sys2Proof.Machine

/-! ### Codes (§13.7) -/

/-- A bit field of n bits that may be none: none is all ones. -/
def fieldOrNone (n : Nat) : Option Nat → Nat
  | none => 2 ^ n - 1
  | some v => v

def ZoneState.code : ZoneState → Nat
  | .absent => 0
  | .waiting => 1
  | .live => 2
  | .stale => 3

def qualityCode : Quality → Nat
  | .none => 0
  | .good => 1
  | .clamped => 2
  | .fault => 3

/-- The drying state and, in HELD, its reason: 0 NO-METHOD, 1 FORCED. -/
def DryState.code : DryState → Nat
  | .off => 0
  | .starting => 1
  | .running => 2
  | .stopping => 3
  | .heldNoMethod => 4
  | .heldForced => 4

def DryState.reasonCode : DryState → Nat
  | .heldForced => 1
  | .heldNoMethod => 0
  | .off => 0
  | .starting => 0
  | .running => 0
  | .stopping => 0

def methodCode : Option Method → Nat
  | none => 0
  | some .compressor => 1
  | some .desiccant => 2

def tankKindWord : Option TankKind → Word
  | none => .ffff
  | some .tank => 0#16
  | some .drain => 1#16

def tankStateCode : TankState → Nat
  | .drain => 0
  | .unknown => 1
  | .normal => 2
  | .near => 3
  | .full => 4
  | .out => 5

def StageState.code : StageState → Nat
  | .fresh => 0
  | .inService => 1
  | .worn => 2
  | .spent => 3

def Verdict.code : Verdict → Nat
  | .none => 0
  | .worn => 1
  | .spent => 2

def Loader.code : Loader → Nat
  | .notRun => 0
  | .loading _ => 1
  | .loaded => 2
  | .failed _ _ => 3

def LoadFailure.code : LoadFailure → Nat
  | .noMemory => 1
  | .badSignature => 2
  | .badPage => 3
  | .validate => 4
  | .chainLimit => 5
  | .incomplete => 6
  | .swapCheck => 7

def Loader.reasonCode : Loader → Nat
  | .failed r _ => r.code
  | .notRun => 0
  | .loading _ => 0
  | .loaded => 0

/-- The descriptor index of a failure; 0 when the loader has not failed (log 31). -/
def Loader.failIndex : Loader → Nat
  | .failed _ i => i
  | .notRun => 0
  | .loading _ => 0
  | .loaded => 0

def PageStatus.code : PageStatus → Nat
  | .empty => 0
  | .written => 1
  | .torn => 2

def StoreOp.code : StoreOp → Nat
  | .commit => 1
  | .copy => 2
  | .erase => 3
  | .load => 4

def StoreOutcome.code : StoreOutcome → Nat
  | .done => 0
  | .failed _ => 1
  | .torn => 2

def StoreOutcome.offset : StoreOutcome → Option Nat
  | .failed o => some o
  | .done => none
  | .torn => none

def CycleStep.code : CycleStep → Nat
  | .melt => 0
  | .prime => 1
  | .drain => 2
  | .heat => 3
  | .purge => 4
  | .settle k => 16 + k
  | .measure k => 32 + k

def outcomeCode : CycleOutcome → Nat
  | .none => 0
  | .done => 1
  | .doneTimed => 2
  | .failed _ => 3
  | .aborted _ => 4
  | .cancelled => 5

def failCode : FailReason → Nat
  | .noFlow => 1
  | .airflow => 2
  | .noData => 3

def abortCode : AbortReason → Nat
  | .host => 1
  | .door => 2
  | .runLevel => 3
  | .reset => 4
  | .suspendLimit => 5
  | .held => 6
  | .noTank => 7

def outcomeReason : CycleOutcome → Nat
  | .failed r => failCode r
  | .aborted r => abortCode r
  | .none => 0
  | .done => 0
  | .doneTimed => 0
  | .cancelled => 0

/-- The inhibit set as bits. -/
def Inhibits.code (i : Inhibits) : Nat :=
  flag i.door + flag i.tank * 2 + flag i.airflow * 4 + flag i.run * 8 + flag i.halt * 16 + flag i.pump * 32

/-! ### READ STATUS -/

/-- READ STATUS part 0. -/
def State.status0 (s : State) : List Word :=
  [word (levelCode s.rc.level + flag s.rc.wake * 16 + flag s.lines.setup * 32 + s.ring.own * 256),
    word (s.rc.loader.code + s.rc.loader.reasonCode * 256), word s.rc.loader.failIndex, word s.ring.nextNumber,
    wordOrNone s.ring.outstanding]

/-- READ STATUS part 1. -/
def State.status1 (s : State) : List Word := [s.mu.flags, s.mu.conditions, s.mu.maskFlags, s.mu.maskConditions]

/-- READ STATUS part 2. -/
def State.status2 (s : State) : List Word :=
  match s.alloc.record with
  | none => [.ffff, 0#16, 0#16, 0#16, 0#16]
  | some r => [word r.sweep, word (flag r.idle), word r.step, word r.airflow, word (flag (!r.applied))]

/-- The commanded output of a row, or none. -/
def State.outputWord (s : State) (k : RowKind) : Word := wordOrNone ((s.inter.row k).map (·.commanded))

/-- READ STATUS part 3. -/
def State.status3 (s : State) : List Word :=
  [word (s.inter.inhibits.code + flag s.inter.fault * 256 + flag s.inter.proof * 512), s.outputWord .blower,
    s.outputWord .compressor, s.outputWord .heater, s.outputWord .pump]

/-- The commanded position of a zone's damper row, or none, in eight bits. -/
def State.positionField (s : State) (z : Nat) : Nat :=
  fieldOrNone 8 ((s.inter.row (.damper z)).map (·.commanded))

/-- READ STATUS part 4. -/
def State.status4 (s : State) : List Word :=
  (List.range 4).map fun i => word (s.positionField (2 * i) + s.positionField (2 * i + 1) * 256)

/-- READ STATUS part 5. -/
def State.status5 (s : State) : List Word :=
  [word (s.dry.state.code + s.dry.state.reasonCode * 16 + methodCode s.dry.method * 256 +
      methodCode s.dry.next * 4096 + flag s.dry.want * 32768), word s.dry.frost, word s.dry.saturation]

/-- The live selector's code; none is all ones of its bit field. -/
def selectorCode : Option BankId → Nat
  | none => 3
  | some .a => 0
  | some .b => 1

/-- The shadow status's code (R157). -/
def Bank.statusCode (b : Bank) : Nat := if b.isBlank then 0 else if b.complete then 2 else 1

/-- The number of WRITTEN pages (R157). -/
def Bank.writtenCount (b : Bank) : Nat := b.status.count .written

/-- The live bank's generation stamp, 0 while no bank is live. -/
def Banks.liveStamp (b : Banks) : Nat :=
  match b.live with
  | none => 0
  | some id => (b.bank id).stamp.getD 0

/-- READ STATUS part 6. -/
def State.status6 (s : State) : List Word :=
  [word (selectorCode s.banks.live), word s.banks.liveStamp,
    word (s.banks.shadow.statusCode + s.banks.shadow.writtenCount * 256), s.banks.engineWord,
    word (s.banks.marks.count true)]

/-- READ STATUS part 7. -/
def State.status7 (s : State) : List Word :=
  match s.banks.record with
  | none => [0#16, .ffff, .ffff]
  | some r => [word (r.op.code + r.outcome.code * 256), wordOrNone r.page, wordOrNone r.outcome.offset]

/-- READ STATUS (part). -/
def State.statusPart (s : State) (part : Nat) : List Word :=
  match part with
  | 0 => s.status0
  | 1 => s.status1
  | 2 => s.status2
  | 3 => s.status3
  | 4 => s.status4
  | 5 => s.status5
  | 6 => s.status6
  | _ => s.status7

/-! ### READ ZONE -/

/-- The whole minutes remaining of a hold timer, rounded up; 0 while the hold is off. -/
def minutesLeft : Option Nat → Nat
  | none => 0
  | some t => divUp t 60

/-- READ ZONE part 0. -/
def Zone.part0 (z : Zone) : List Word :=
  [word (z.state.code + flag z.stored * 16 + flag z.boost.isSome * 256 + flag z.window.isSome * 4096),
    wordOrNone z.head, wordOrNone z.lastSweep, word z.missed, word (minutesLeft z.boost),
    word (minutesLeft z.window)]

/-- READ ZONE part 1. -/
def Zone.part1 (z : Zone) : List Word :=
  [wordOfInt z.readings.pmFine.value, wordOfInt z.readings.pmCoarse.value, wordOfInt z.readings.rh.value,
    wordOfInt z.readings.temp.value, wordOfInt z.readings.voc.value, wordOfInt z.readings.occupancy.value]

/-- READ ZONE part 2. -/
def Zone.part2 (z : Zone) : List Word :=
  let q := fun (r : Reading) => qualityCode r.quality
  [word (q z.readings.pmFine + q z.readings.pmCoarse * 4 + q z.readings.rh * 16 + q z.readings.temp * 64 +
      q z.readings.voc * 256 + q z.readings.occupancy * 1024 + flag z.cleanMark * 4096 + flag z.dryMark * 8192),
    word z.clean, word z.dry]

/-- READ ZONE part 3. -/
def State.zonePart3 (s : State) (z : Nat) : List Word :=
  (match s.alloc.record with
    | none => [.ffff, .ffff, .ffff, .ffff]
    | some r => [word (r.effective.getD z 0), word (r.request.getD z 0), word (r.assigned.getD z 0),
        wordOrNone (r.position.getD z none)]) ++ [word (s.alloc.ages.getD z 0)]

/-- READ ZONE (z, part). -/
def State.zonePart (s : State) (z part : Nat) : List Word :=
  match part with
  | 0 => (s.zone z).part0
  | 1 => (s.zone z).part1
  | 2 => (s.zone z).part2
  | _ => s.zonePart3 z

/-! ### READ FILTER -/

/-- A field of the live tables as a word; none while no bank is live (R174). -/
def State.liveOr (s : State) (n : Nat) : Word := if s.isLive then word n else .ffff

/-- A 24-bit field of the live tables; none while no bank is live (R174, log 31). -/
def State.liveOr24 (s : State) (n : Nat) : List Word := if s.isLive then words24 n else [.ffff, .ffff]

/-- READ FILTER part 0. -/
def State.filterPart0 (s : State) (st : Stage) : List Word :=
  let r := s.filters.stage st
  [word (flag r.fitted + r.state.code * 16 + r.verdict.code * 256 + flag r.doorOpened * 4096)] ++
    words24 r.charge ++ s.liveOr24 (s.stageParams st).threshold

/-- READ FILTER part 1. -/
def State.filterPart1 (s : State) (st : Stage) : List Word :=
  [word (s.filters.stage st).runSweeps] ++ s.liveOr24 (s.stageParams st).life ++
    [s.liveOr (s.stageParams st).rise, word s.filters.derate]

/-- The points of a curve at steps, each or none. -/
def curveWords (c : Option Curve) (steps : List Nat) : List Word :=
  steps.map fun k => wordOrNone (c.bind fun c => Curve.at c k)

/-- READ FILTER (stage, part). -/
def State.filterPart (s : State) (st : Stage) (part : Nat) : List Word :=
  let r := s.filters.stage st
  match part with
  | 0 => s.filterPart0 st
  | 1 => s.filterPart1 st
  | 2 => curveWords r.baseline [1, 2, 3, 4]
  | 3 => curveWords r.baseline [5, 6, 7]
  | 4 => curveWords r.last [1, 2, 3, 4]
  | _ => curveWords r.last [5, 6, 7]

/-! ### READ TANK -/

/-- READ TANK (part). -/
def State.tankPart (s : State) (part : Nat) : List Word :=
  let w := s.water
  match part with
  | 0 =>
    [tankKindWord w.kind, word (tankStateCode w.state + flag w.known * 16 + flag (!w.certain) * 256),
      word w.estimate, wordOrNone w.probe]
  | _ => [word (flag w.float + flag w.removed * 2 + flag w.pumpFault * 4 + flag s.pumpFitted * 8)]

/-! ### READ CYCLE -/

/-- A kind's instance with the code of its place. -/
def CycleEngine.instanceOf (c : CycleEngine) (k : CycleKind) : Option (Nat × Cycle) :=
  match c.queue.find? fun x => x.kind == k with
  | some x => some (0, x)
  | none =>
    match c.running.filter fun x => x.kind == k with
    | some x => some (1, x)
    | none => (c.suspended.filter fun x => x.kind == k).map fun x => (2, x)

/-- READ CYCLE part 1. The step timer of an instance that is not running is stopped (log 31). -/
def CycleEngine.part1 (c : CycleEngine) (k : CycleKind) : List Word :=
  match c.instanceOf k with
  | none => [.ffff, 0#16, 0#16, 0#16, 0#16]
  | some (place, x) =>
    [word (place + flag x.held * 16), word x.step.code, if place = 1 then wordOrNone x.stepTimer else .ffff,
      word x.completed, word x.suspends]

/-- The code of the kind of an instance, 0 for none. -/
def kindCode (c : Option Cycle) : Nat := (c.map fun x => CycleKind.priority x.kind).getD 0

/-- READ CYCLE part 2. -/
def CycleEngine.part2 (c : CycleEngine) : List Word :=
  [word (kindCode c.running + flag (c.running.any (·.held)) * 16 + kindCode c.suspended * 256),
    word (kindCode c.queue[0]? + kindCode c.queue[1]? * 16 + kindCode c.queue[2]? * 256 + kindCode c.queue[3]? * 4096),
    word (flag c.door + flag c.tankHold * 2)]

/-- READ CYCLE (kind, part). -/
def State.cyclePart (s : State) (k : CycleKind) (part : Nat) : List Word :=
  match part with
  | 0 =>
    let r := s.cycles.record k
    [word (outcomeCode r.outcome + outcomeReason r.outcome * 256), wordOrNone r.endSweep, word r.completed]
  | 1 => s.cycles.part1 k
  | _ => s.cycles.part2

/-! ### READ TABLE (R168) -/

/-- READ TABLE of the live bank. -/
def State.readLive (s : State) (page offset count : Nat) : Answer :=
  if s.isLive then
    { result := .ok
      data := word s.banks.liveStamp :: (List.range count).map fun i => s.banks.liveWord page (offset + i) }
  else .refuse .condition

/-- A word of the shadow as READ TABLE gives it: 0 for an EMPTY page (R168). -/
def Bank.shownWord (b : Bank) (page offset : Nat) : Word :=
  if b.pageStatus page = .empty then 0#16 else b.word page offset

/-- READ TABLE of the shadow bank. -/
def State.readShadow (s : State) (page offset count : Nat) : Answer :=
  if s.banks.engine = .idle then
    { result := .ok
      data := word (s.banks.shadow.pageStatus page).code ::
        (List.range count).map fun i => s.banks.shadow.shownWord page (offset + i) }
  else s.banks.busyAnswer

/-- READ TABLE (bank, page, offset, count). DESIGN CHOICE: a page of 79 or more is REFUSED(ADDRESS) also where the shadow is
read while the engine is not IDLE, for which R168 gives BUSY too, and where the live bank is read while no bank is live, for
which R168 gives REFUSED(CONDITION) too; it states no order (log 61). -/
def State.readTable (s : State) (bank page offset count : Nat) : Answer :=
  if 79 ≤ page then .refuse .address
  else if bank = 0 then s.readLive page offset count
  else s.readShadow page offset count

end Sys2Proof.Machine
end

