-- ==== Sys2Proof/Machine/RunControl.lean ====
section
/-! DEFINITION. Run Control and the start-up loader (chapter 12): run levels, wake, the configuration memory walk. -/

namespace Sys2Proof.Machine

/-! ### Run levels (R183) -/

/-- R80, R183: the RUN and HALT posts of a change of level: the claims, then the releases (log 22). -/
def levelInhibits (old new : RunLevel) : List Instr :=
  (if new = .watch ∧ old ≠ .watch then [.inhibitClaim .run] else []) ++
  (if new = .halt ∧ old ≠ .halt then [.inhibitClaim .halt] else []) ++
  (if old = .watch ∧ new ≠ .watch then [.inhibitRelease .run] else []) ++
  (if old = .halt ∧ new ≠ .halt then [.inhibitRelease .halt] else [])

/-- R183: the new level, posted to the Cycle Engine, the Ring Interface and the Management Unit, in that order. -/
def levelNews (l : RunLevel) : List Instr := [.cycleRunLevelChange l, .ringRunLevelChange l, .muRunLevelChange l]

/-- R183: the UNCONFIGURED condition of a change of level. -/
def levelCondition (old new : RunLevel) : List Instr :=
  if (old = .unconfigured) = (new = .unconfigured) then []
  else [.conditionPost .unconfigured (decide (new = .unconfigured))]

/-- R183: the run level takes a value; naming the present level posts nothing. -/
def State.setLevel (l : RunLevel) (s : State) : State :=
  if s.rc.level = l then s
  else (s.setRc { s.rc with level := l }).post
    (levelInhibits s.rc.level l ++ levelNews l ++ levelCondition s.rc.level l)

/-- The start level of the live Control page; UNCONFIGURED while no bank is live (R183, R186). -/
def State.startLevel (s : State) : RunLevel :=
  if s.isLive then (levelOfCode (s.param 78 10)).getD .unconfigured else .unconfigured

/-- RC_SWAP_TAKEN (R183). -/
def execRcSwapTaken (s : State) : Host.Outcome State Fault Refusal :=
  taking .rcSwapTaken s fun s => if s.rc.level = .unconfigured then s.setLevel s.startLevel else s

/-- WAKE_EVENT (R184). -/
def execWakeEvent (f : ZoneField) (v : Int) (s : State) : Host.Outcome State Fault Refusal :=
  taking (.wakeEvent f v) s fun s =>
    let t := s.claimFlag .wake
    if t.rc.level = .watch ∧ t.rc.wake then t.setLevel .active else t

/-- SET RUN LEVEL (R183). -/
def State.setRunLevel (l : RunLevel) (wake : Bool) (s : State) : State × Answer :=
  if s.rc.level = .unconfigured then (s, .refuse .condition)
  else ((s.setRc { s.rc with wake := wake }).setLevel l, .plain .ok)

/-- R186: the posts of the resulting level as a soft reset completes, whatever the level before. -/
def softLevelPosts (l : RunLevel) : List Instr :=
  (if l = .watch then [.inhibitClaim .run] else []) ++ (if l = .halt then [.inhibitClaim .halt] else []) ++
  (if l = .watch then [] else [.inhibitRelease .run]) ++ (if l = .halt then [] else [.inhibitRelease .halt]) ++
  levelNews l ++ [.conditionPost .unconfigured (decide (l = .unconfigured))]

/-! ### The walk (R181, R182) -/

/-- The loader's state replaced. -/
def State.setLoader (l : Loader) (s : State) : State := s.setRc { s.rc with loader := l }

/-- R182: the walk ends in a failure. -/
def State.loadFailed (reason : LoadFailure) (index : Nat) (s : State) : State :=
  (s.setLoader (.failed reason index)).claimFlag .storeFail

/-- R181, R182: the chain has ended. -/
def State.walkEnd (index : Nat) (s : State) : State :=
  if !s.banks.shadow.complete then s.loadFailed .incomplete index
  else if !s.banks.shadow.swapCheck s.ring.own then s.loadFailed .swapCheck index
  else (s.setLoader .loaded).takeSwap

/-- n word addresses of the configuration memory from one on; after FFFFh comes 0000h (§13.5, R188). -/
def addressesFrom (first : Word) (n : Nat) : List Word := (List.range n).map fun i => first + word i

/-- R181, R188: the addresses the walk reads next, as they stand in the header and the descriptors. -/
def Walk.addresses : Walk → List Word
  | .header => addressesFrom 0#16 3
  | .descriptor _ address => addressesFrom address 3
  | .image _ _ address _ => addressesFrom address 64
  | .write _ _ _ _ => []

/-- The addresses the device reads on the configuration memory port. -/
def State.cfgAddresses (s : State) : List Word :=
  match s.rc.loader with
  | .loading w => w.addresses
  | .notRun => []
  | .loaded => []
  | .failed _ _ => []

/-- A word read from the configuration memory; a word the memory does not give reads FFFFh (log 12). -/
def readWord (ws : List Word) (i : Nat) : Word := ws.getD i .ffff

/-- R181: the header was read. -/
def State.headerRead (ws : List Word) (s : State) : State :=
  let signature := readWord ws 0
  let version := readWord ws 1
  let first := readWord ws 2
  if signature = .ffff ∧ version = .ffff ∧ first = .ffff then s.loadFailed .noMemory 0
  else if signature ≠ Config.signature ∨ version ≠ Config.formatVersion then s.loadFailed .badSignature 0
  else if first = 0#16 then s.walkEnd 0
  else s.setLoader (.loading (.descriptor 1 first))

/-- R181: a descriptor was read. -/
def State.descriptorRead (index : Nat) (ws : List Word) (s : State) : State :=
  let page := (readWord ws 0).toNat
  if 79 ≤ page then s.loadFailed .badPage index
  else s.setLoader (.loading (.image index page (readWord ws 1) (readWord ws 2)))

/-- R181: an image was read and is validated. -/
def State.imageRead (index page : Nat) (next : Word) (ws : List Word) (s : State) : State :=
  let image := (List.range 64).map (readWord ws)
  match firstFailure page image with
  | some o => (s.setBanks (s.banks.ends .load (some page) (.failed o))).loadFailed .validate index
  | none => s.setLoader (.loading (.write index page image next))

/-- LOADER_READ_COMPLETE (R181): it occurs only while the walk awaits a read (log 6). -/
def execLoaderReadComplete (ws : List Word) (s : State) : Host.Outcome State Fault Refusal :=
  taking (.loaderReadComplete ws) s fun s =>
    match s.rc.loader with
    | .loading .header => s.headerRead ws
    | .loading (.descriptor i _) => s.descriptorRead i ws
    | .loading (.image i p _ next) => s.imageRead i p next ws
    | .loading (.write _ _ _ _) => s
    | .notRun => s
    | .loaded => s
    | .failed _ _ => s

/-- R181: the page is written, and the walk goes on. -/
def State.imageWritten (index page : Nat) (image : List Word) (next : Word) (s : State) : State :=
  let t := s.setBanks ((s.banks.putShadow page image .written).ends .load (some page) .done)
  if next = 0#16 then t.walkEnd index
  else if 128 ≤ index then t.loadFailed .chainLimit index
  else t.setLoader (.loading (.descriptor (index + 1) next))

/-- LOADER_WRITE_COMPLETE (R181): it occurs only while the walk awaits a write (log 6). -/
def execLoaderWriteComplete (s : State) : Host.Outcome State Fault Refusal :=
  taking .loaderWriteComplete s fun s =>
    match s.rc.loader with
    | .loading (.write i p image next) => s.imageWritten i p image next
    | .loading .header => s
    | .loading (.descriptor _ _) => s
    | .loading (.image _ _ _ _) => s
    | .notRun => s
    | .loaded => s
    | .failed _ _ => s

end Sys2Proof.Machine
end

