-- ==== Sys2Proof/Machine/Translator.lean ====
section
/-! DEFINITION. Sample Translator (chapter 2): translation of SAMPLE frames, the regime record, the gate record and the
accumulators. -/

namespace Sys2Proof.Machine

/-! ### The regime record (R21) -/

/-- R21: the NIGHT flag takes a value; a change posts "regime changed", ahead of the events in flight, so that a zone review
uses the new cap with the demands of the new row (R74, log 3). -/
def State.setNight (on : Bool) (s : State) : State :=
  if s.trans.night = on then s
  else (s.setTrans { s.trans with night := on }).setPosts (.regimeChanged :: s.posts)

/-- R21: the DEFROST flag takes a value; a change posts "regime changed". -/
def State.setDefrost (on : Bool) (s : State) : State :=
  if s.trans.defrost = on then s
  else (s.setTrans { s.trans with defrost := on }).post [.regimeChanged]

/-- DEFROST_REGIME_SET (R21). -/
def execDefrostRegimeSet (s : State) : Host.Outcome State Fault Refusal :=
  taking .defrostRegimeSet s (State.setDefrost true)

/-- DEFROST_REGIME_CLEAR (R21). -/
def execDefrostRegimeClear (s : State) : Host.Outcome State Fault Refusal :=
  taking .defrostRegimeClear s (State.setDefrost false)

/-! ### Gates and accumulators (R31–R38) -/

/-- The definition of accumulator k in the live Tank page (§13.4.1). -/
def State.accDef (s : State) (k : Nat) : AccDef :=
  let w := s.banks.liveWord 75 (24 + k)
  { gate := (gateOfCode (bits w 0 4)).getD .compressor, removal := bits w 4 4 == 1 }

/-- A gate condition (R31). -/
def Gates.get (g : Gates) : Gate → Bool
  | .compressor => g.compressor
  | .heater => g.heater
  | .pump => g.pump
  | .regen => g.regen

/-- A gate condition replaced. -/
def Gates.set (g : Gates) (k : Gate) (b : Bool) : Gates :=
  match k with
  | .compressor => { g with compressor := b }
  | .heater => { g with heater := b }
  | .pump => { g with pump := b }
  | .regen => { g with regen := b }

/-- The post of a total: a DEPOSIT or a REMOVAL (R34, R36). -/
def waterPost (removal : Bool) (v : Nat) (saturated : Bool) : Instr :=
  if removal then .removal v saturated else .deposit v saturated

/-- R32: a CLOSED accumulator whose live definition names the gate opens. -/
def Acc.openOn (d : AccDef) (g : Gate) (a : Acc) : Acc :=
  if a.held.isNone && d.gate == g then { held := some d, sum := 0, saturated := false } else a

/-- R36: the post of an OPEN accumulator held on the gate, when its sum is above 0. -/
def Acc.closingPost (g : Gate) (a : Acc) : List Instr :=
  match a.held with
  | none => []
  | some d => if d.gate == g && decide (0 < a.sum) then [waterPost d.removal a.sum a.saturated] else []

/-- R36: an OPEN accumulator held on the gate closes. -/
def Acc.closeOn (g : Gate) (a : Acc) : Acc :=
  match a.held with
  | none => a
  | some d => if d.gate == g then Acc.closed else a

/-- R31, R32, R36: a gate condition takes a truth. Turning true opens accumulators; turning false closes them and posts
their sums in index order; no change of truth changes nothing. -/
def State.setGate (g : Gate) (truth : Bool) (s : State) : State :=
  if s.trans.gates.get g = truth then s
  else if truth then
    s.setTrans { s.trans with
      gates := s.trans.gates.set g true
      accs := s.trans.accs.zipIdx.map fun x => x.1.openOn (s.accDef x.2) g }
  else
    (s.setTrans { s.trans with
      gates := s.trans.gates.set g false
      accs := s.trans.accs.map (Acc.closeOn g) }).post (s.trans.accs.flatMap (Acc.closingPost g))

/-- The gate that follows an output (R31). -/
def Output.gate : Output → Gate
  | .compressor => .compressor
  | .heater => .heater
  | .pump => .pump

/-- TRANSLATOR_OUTPUT_CHANGED (R31). -/
def execTranslatorOutputChanged (o : Output) (v : Nat) (s : State) : Host.Outcome State Fault Refusal :=
  taking (.translatorOutputChanged o v) s (State.setGate (Output.gate o) (decide (v ≠ 0)))

/-- REGEN_ACTIVE (R31). -/
def execRegenActive (s : State) : Host.Outcome State Fault Refusal :=
  taking .regenActive s (State.setGate .regen true)

/-- REGEN_INACTIVE (R31). -/
def execRegenInactive (s : State) : Host.Outcome State Fault Refusal :=
  taking .regenInactive s (State.setGate .regen false)

/-- R33: the addition to an OPEN accumulator, saturating at 65535. -/
def Acc.add (v : Nat) (a : Acc) : Acc :=
  if a.sum + v ≤ 65535 then { a with sum := a.sum + v } else { a with sum := 65535, saturated := true }

/-- An accumulator. -/
def State.acc (s : State) (k : Nat) : Acc := s.trans.accs.getD k Acc.closed

/-- R33, R34: a scaled flow report for accumulator k: added while OPEN, posted on its own while CLOSED and above 0. -/
def State.accumulate (k v : Nat) (s : State) : State :=
  if (s.acc k).held.isSome then s.setTrans { s.trans with accs := modifyAt (Acc.add v) s.trans.accs k }
  else if v = 0 then s
  else s.post [waterPost (s.accDef k).removal v false]

/-- R38: VOID(k) zeroes an OPEN accumulator and posts "uncertain". -/
def State.voidAcc (k : Nat) (s : State) : State :=
  if (s.acc k).held.isSome then
    (s.setTrans { s.trans with
      accs := modifyAt (fun a => { a with sum := 0, saturated := false }) s.trans.accs k }).post [.uncertain]
  else s

/-! ### Scaling (R26) -/

/-- A Scale entry (§2.6). -/
structure Scale where
  gain   : Int
  offset : Int
  low    : Int
  high   : Int
  deriving DecidableEq, Repr

/-- Scale entry k of the live bank (§13.4). -/
def State.scale (s : State) (k : Nat) : Scale where
  gain := s.paramInt (65 + k / 16) (4 * (k % 16))
  offset := s.paramInt (65 + k / 16) (4 * (k % 16) + 1)
  low := s.paramInt (65 + k / 16) (4 * (k % 16) + 2)
  high := s.paramInt (65 + k / 16) (4 * (k % 16) + 3)

/-- A value held within two bounds. -/
def clampTo (low high v : Int) : Int := max low (min high v)

/-- R26: multiply by the gain, divide by 256 toward zero, add the offset, clamp to the entry's bounds and then to the unit
range; CLAMPED when either clamp changed the value. -/
def Scale.apply (e : Scale) (range : Int × Int) (raw : Nat) : Int × Quality :=
  let v := ((raw : Int) * e.gain).tdiv 256 + e.offset
  let c := clampTo e.low e.high v
  let u := clampTo range.1 range.2 c
  (u, if c = v ∧ u = c then .good else .clamped)

/-! ### Taking a frame (R20–R30, R38–R40) -/

/-- R22: the effective column, 0 BASE, 1 NIGHT, 2 BOOST, 3 DEFROST. -/
def State.column (s : State) (boost : Bool) : Nat :=
  if s.trans.defrost then 3 else if boost then 2 else if s.trans.night then 1 else 0

/-- R20: the table page of (class, page bit, channel). -/
def tablePage (cls page channel : Nat) : Nat := 8 * cls + 4 * page + channel / 16

/-- R20: the action entry of (class, page bit, channel, column) in the live bank. -/
def State.actionEntry (s : State) (cls page channel col : Nat) : Word :=
  s.banks.liveWord (tablePage cls page channel) (4 * (channel % 16) + col)

/-- The translation of a frame under way: the state, the source's boost hold as R22 counts it, and whether every pair so
far resolved to an entry that carries ABSORB (R23). -/
structure Pairs where
  s        : State
  boost    : Bool
  absorbed : Bool

/-- R22: a source has a zone when its entry is of class HEAD and names one. -/
def NodeEntry.sourceZone (e : NodeEntry) : Option Nat := if e.cls = classHead then e.zone else none

/-- A zone number as the operand of a zone event. -/
def zoneFin (z : Nat) : Fin 8 := Fin.ofNat 8 z

/-- R30: the wake threshold of a field in the live Control page, for the fields that have one. -/
def State.wakeThreshold (s : State) : ZoneField → Option Int
  | .pmFine => some (s.param 78 7)
  | .rh => some (s.param 78 8)
  | .voc => some (s.param 78 9)
  | .pmCoarse => none
  | .temp => none
  | .occupancy => none

/-- R30: the wake event of a scaled value, when its conditions hold. -/
def State.wakePosts (s : State) (wake : Bool) (f : ZoneField) (v : Int) : List Instr :=
  match s.wakeThreshold f with
  | none => []
  | some t => if wake && s.rc.level == .watch && decide (t ≤ v) then [.wakeEvent f v] else []

/-- R27, R29: the posts of a STORE to a plant field, with the value and the quality; none is a fault report. -/
def plantPosts : StoreTarget → Option (Int × Quality) → List Instr
  | .coilTemp, x => [.dryingCoilTemp x, .cycleCoilTemp x]
  | .blowerFb, x => [.blowerFbSample (x.map fun r => (r.1.toNat, r.2))]
  | .dp st, x => [.dpSample st (x.map fun r => (r.1.toNat, r.2))]
  | .tankLevel, x => [.tankLevel (x.map fun r => (Fin.ofNat 16 r.1.toNat, r.2))]
  | .pumpFlow, x => [.pumpFlow (x.map fun r => (r.1.toNat, r.2))]
  | .zone _, _ => []

/-- R27–R30: the posts of a STORE pair with this raw value from a source of this zone. -/
def State.storePosts (s : State) (zone : Option Nat) (t : StoreTarget) (scale : Nat) (wake : Bool) (raw : Word) :
    List Instr :=
  if raw = .ffff then
    match t, zone with
    | .zone f, some z => [.zoneFaultReport (zoneFin z) f]
    | .zone _, none => [.flagSetClaim .unmappedSrc]
    | t, _ => plantPosts t none
  else
    let r := (s.scale scale).apply t.unitRange raw.toNat
    match t, zone with
    | .zone f, some z => .zoneStore (zoneFin z) f r.1 r.2 :: s.wakePosts wake f r.1
    | .zone f, none => .flagSetClaim .unmappedSrc :: s.wakePosts wake f r.1
    | t, _ => plantPosts t (some r)

/-- R33–R35: an ACCUMULATE pair. -/
def State.takeFlow (k scale : Nat) (raw : Word) (s : State) : State :=
  if raw = .ffff then s.post [.uncertain]
  else s.accumulate k ((s.scale scale).apply (0, 65535) raw.toNat).1.toNat

/-- R39: a zone event, or UNMAPPED-SRC for a source without a zone. -/
def zoneEvent (zone : Option Nat) (e : Fin 8 → Instr) : List Instr :=
  match zone with
  | some z => [e (zoneFin z)]
  | none => [.flagSetClaim .unmappedSrc]

/-- The pending-page mark of a source set or cleared (R24). -/
def State.setMark (src : Nat) (b : Bool) (s : State) : State :=
  s.setTrans { s.trans with marks := s.trans.marks.set src b }

/-- R24, R38–R40: a SPECIAL pair. BOOST-TOGGLE counts for the later pairs of the frame (R22). -/
def Pairs.special (src : Nat) (zone : Option Nat) (code : Special) (p : Pairs) : Pairs :=
  match code with
  | .pageNext => { p with s := p.s.setMark src true }
  | .boostToggle => { p with s := p.s.post (zoneEvent zone .boostToggle), boost := zone.isSome && !p.boost }
  | .windowOpen => { p with s := p.s.post (zoneEvent zone .windowOpen) }
  | .windowShut => { p with s := p.s.post (zoneEvent zone .windowShut) }
  | .tankOut => { p with s := p.s.post [.tankOut] }
  | .tankIn => { p with s := p.s.post [.tankIn] }
  | .void k => { p with s := p.s.voidAcc k }

/-- R25: the action of an entry on a pair. -/
def Pairs.act (src : Nat) (zone : Option Nat) (a : Action) (raw : Word) (p : Pairs) : Pairs :=
  match a with
  | .ignore => p
  | .store t scale wake => { p with s := p.s.post (p.s.storePosts zone t scale wake raw) }
  | .accumulate k scale => { p with s := p.s.takeFlow k scale raw }
  | .special code => p.special src zone code

/-- R23, R24: one pair. A channel word with a bit of 15–6 set is a bad pair: no lookup, no action, FRAME-ERR; it consumes
the pending-page mark like any other pair. -/
def Pairs.take (src : Nat) (e : NodeEntry) (p : Pairs) (pair : Word × Word) : Pairs :=
  let page := flag (p.s.trans.marks.getD src false)
  let s := p.s.setMark src false
  if bits pair.1 6 10 ≠ 0 then { p with s := s.claimFlag .frameErr, absorbed := false }
  else
    let w := s.actionEntry e.cls page (bits pair.1 0 6) (s.column p.boost)
    Pairs.act src e.sourceZone (entryAction w) pair.2
      { s := s, boost := p.boost, absorbed := p.absorbed && entryAbsorbs w }

/-- R23: the translation of a SAMPLE frame, and whether the verdict is ABSORBED. A frame from an unmapped source is not
translated, sets UNMAPPED-SRC and passes. -/
def State.translate (f : Frame) (s : State) : State × Bool :=
  let e := s.banks.liveNode f.src
  if !e.mapped then (s.claimFlag .unmappedSrc, false)
  else
    let boost := match e.sourceZone with
      | some z => (s.zone z).boost.isSome
      | none => false
    let p := (samplePairs f.payload).foldl (Pairs.take f.src e) { s := s, boost := boost, absorbed := true }
    (p.s, p.absorbed)

end Sys2Proof.Machine
end

