-- ==== Sys2Proof/Machine/Management.lean ====
section
/-! DEFINITION. Management Unit (chapter 11): settling and executing requests, and their answers. -/

namespace Sys2Proof.Machine

/-! ### Settling (R171, R172) -/

/-- What settling a request comes to: removed unanswered, or an answer. -/
inductive Settled where
  | dropped
  | answered (s : State) (a : Answer)

/-- R172.1: the requests that go on in setup mode. -/
def setupAllows (code : Option Nat) : Bool := code == some 0x01 || code == some 0x16

/-- §13.3: the code names a request. -/
def assignedCode : Option Nat → Bool
  | none => false
  | some c => decide (1 ≤ c) && decide (c ≤ 0x17)

/-- The loader is LOADING. -/
def Loader.isLoading : Loader → Bool
  | .loading _ => true
  | .notRun => false
  | .loaded => false
  | .failed _ _ => false

/-- R172.5, R172.6: the arguments are checked and the request is executed. -/
def State.checkAndRun (r : Request) (ok : Request → Bool) (run : Request → State → State × Answer) (s : State) :
    Settled :=
  if ok r then let x := run r s; .answered x.1 x.2 else .answered s (.refuse .badArg)

/-- R172: the six steps. -/
def State.settleRequest (r : Request) (ok : Request → Bool) (run : Request → State → State × Answer) (s : State) :
    Settled :=
  if s.lines.setup then if setupAllows r.code then s.checkAndRun r ok run else .dropped
  else if !assignedCode r.code then .answered s (.refuse .badArg)
  else if s.rc.loader.isLoading && r.code != some 0x01 then .answered s (.plain .notReady)
  else if s.isLive && decide (r.src ≠ s.param 78 3) then .answered s (.refuse .source)
  else s.checkAndRun r ok run

/-- R171, R173: the MRSP of an answer, in the answering address in force. -/
def State.response (s : State) (r : Request) (a : Answer) : OriginFrame :=
  .mrsp r.src s.answering (r.payload.headD 0#16 :: a.result.word :: a.data) s.mu.softWait

/-- The request leaves the queue with a reservation held (R171). -/
def State.reserve (rest : List Request) (s : State) : State :=
  (s.setMu { s.mu with queue := rest }).setRing { s.ring with reserved := true }

/-- R171: the MRSP joins the Origin Queue tail in the reserved place, which ends the reservation. -/
def State.answerWith (r : Request) (a : Answer) (s : State) : State :=
  s.setRing { s.ring.join (s.response r a) with reserved := false }

/-- R172.1: the reservation of a removed request ends without an MRSP, and its place frees (R12). -/
def State.dropRequest (s : State) : State :=
  let t := s.setRing { s.ring with reserved := false }
  t.post t.freedPosts

/-- R171: the head request may start: one is queued, no SOFT RESET waits, and a place is free. -/
def State.headRequest (s : State) : Option (Request × List Request) :=
  match s.mu.queue with
  | [] => none
  | r :: rest => if s.mu.softWait || !s.ring.placeFree then none else some (r, rest)

/-- R171, R172: the request at the head of the queue, when it is of the row, is started, settled and answered (log 29). -/
def State.serve (mine : Request → Bool) (ok : Request → Bool) (run : Request → State → State × Answer) (s : State) :
    State :=
  match s.headRequest with
  | none => s
  | some (r, rest) =>
    if mine r then
      match (s.reserve rest).settleRequest r ok run with
      | .dropped => (s.reserve rest).dropRequest
      | .answered t a => t.answerWith r a
    else s

/-- A request row: the code it serves, the arguments it takes, and its execution. -/
def requestRow (c : Instr) (code : Nat) (ok : Request → Bool) (run : Request → State → State × Answer) (s : State) :
    Host.Outcome State Fault Refusal :=
  taking c s (State.serve (fun r => r.code == some code) ok run)

/-! ### Argument checks (§13.3, R187) -/

/-- The request carries n argument words. -/
def Request.hasArgs (r : Request) (n : Nat) : Bool := decide (r.args.length = n)

/-- The request carries one argument word, at most a bound. -/
def oneArg (bound : Nat) (r : Request) : Bool := r.hasArgs 1 && decide (r.arg 0 ≤ bound)

/-- The request carries one cycle kind. -/
def kindArg (r : Request) : Bool := r.hasArgs 1 && (cycleKindOfCode (r.arg 0)).isSome

/-- The cycle kind of argument word 0. -/
def Request.kind (r : Request) : CycleKind := (cycleKindOfCode (r.arg 0)).getD .defrost

/-- The stage of argument word 0. -/
def Request.stage (r : Request) : Stage := (stageOfCode (r.arg 0)).getD .pre

/-- A read answers OK with its data and changes no state (R174). -/
def readWith (f : Request → State → List Word) (r : Request) (s : State) : State × Answer :=
  (s, { result := .ok, data := f r s })

/-! ### The rows -/

/-- READ_STATUS (R174). -/
def execReadStatus (s : State) : Host.Outcome State Fault Refusal :=
  requestRow .readStatus 0x01 (oneArg 7) (readWith fun r s => s.statusPart (r.arg 0)) s

/-- ACK FLAGS (R175). -/
def runAckFlags (r : Request) (s : State) : State × Answer :=
  let t := s.ackFlags (r.args.getD 0 0#16)
  (t, { result := .ok, data := [t.mu.flags, t.mu.conditions] })

/-- ACK_FLAGS (R175). -/
def execAckFlags (s : State) : Host.Outcome State Fault Refusal :=
  requestRow .ackFlags 0x02 (·.hasArgs 2) runAckFlags s

/-- SET NOTE MASK (R175): the positions the mask has (log 30). -/
def runSetNoteMask (r : Request) (s : State) : State × Answer :=
  (s.setMu { s.mu with
    maskFlags := r.args.getD 0 0#16 &&& fullMaskFlags
    maskConditions := r.args.getD 1 0#16 &&& fullMaskConditions }, .plain .ok)

/-- SET_NOTE_MASK (R175). -/
def execSetNoteMask (s : State) : Host.Outcome State Fault Refusal :=
  requestRow .setNoteMask 0x03 (·.hasArgs 2) runSetNoteMask s

/-- CLEAR FAULT (R85, R119). -/
def runClearFault (r : Request) (s : State) : State × Answer :=
  (if r.arg 0 = 0 then s.clearBlowerFault else s.clearPumpFault, .plain .ok)

/-- CLEAR_FAULT (R175). -/
def execClearFault (s : State) : Host.Outcome State Fault Refusal :=
  requestRow .clearFault 0x04 (oneArg 1) runClearFault s

/-- READ_ZONE (R174). -/
def execReadZone (s : State) : Host.Outcome State Fault Refusal :=
  requestRow .readZone 0x05 (fun r => r.hasArgs 2 && decide (r.arg 0 ≤ 7) && decide (r.arg 1 ≤ 3))
    (readWith fun r s => s.zonePart (r.arg 0) (r.arg 1)) s

/-- READ_FILTER (R174). -/
def execReadFilter (s : State) : Host.Outcome State Fault Refusal :=
  requestRow .readFilter 0x06 (fun r => r.hasArgs 2 && decide (r.arg 0 ≤ 2) && decide (r.arg 1 ≤ 5))
    (readWith fun r s => s.filterPart r.stage (r.arg 1)) s

/-- SET FILTER CHARGE (R152). -/
def runSetFilterCharge (r : Request) (s : State) : State × Answer :=
  let x := s.setCharge r.stage (r.arg 1 * 65536 + r.arg 2)
  (x.1, .plain x.2)

/-- SET_FILTER_CHARGE (R152). -/
def execSetFilterCharge (s : State) : Host.Outcome State Fault Refusal :=
  requestRow .setFilterCharge 0x07 (fun r => r.hasArgs 3 && decide (r.arg 0 ≤ 2) && decide (r.arg 1 ≤ 255))
    runSetFilterCharge s

/-- FILTER RESET (R151). -/
def runFilterReset (r : Request) (s : State) : State × Answer :=
  let x := s.filterReset r.stage
  (x.1, .plain x.2)

/-- FILTER_RESET (R151). -/
def execFilterReset (s : State) : Host.Outcome State Fault Refusal :=
  requestRow .filterReset 0x08 (oneArg 2) runFilterReset s

/-- READ_TANK (R174). -/
def execReadTank (s : State) : Host.Outcome State Fault Refusal :=
  requestRow .readTank 0x09 (oneArg 1) (readWith fun r s => s.tankPart (r.arg 0)) s

/-- READ_CYCLE (R174). -/
def execReadCycle (s : State) : Host.Outcome State Fault Refusal :=
  requestRow .readCycle 0x0A
    (fun r => r.hasArgs 2 && (cycleKindOfCode (r.arg 0)).isSome && decide (r.arg 1 ≤ 2))
    (readWith fun r s => s.cyclePart r.kind (r.arg 1)) s

/-- REQUEST CYCLE (R125). -/
def runRequestCycle (r : Request) (s : State) : State × Answer :=
  let x := s.requestCycle r.kind
  (x.1, .plain x.2)

/-- REQUEST_CYCLE (R125). -/
def execRequestCycle (s : State) : Host.Outcome State Fault Refusal :=
  requestRow .requestCycle 0x0B kindArg runRequestCycle s

/-- ABORT CYCLE (R137). -/
def runAbortCycle (r : Request) (s : State) : State × Answer :=
  let x := s.abortCycle r.kind
  (x.1, .plain x.2)

/-- ABORT_CYCLE (R137). -/
def execAbortCycle (s : State) : Host.Outcome State Fault Refusal :=
  requestRow .abortCycle 0x0C kindArg runAbortCycle s

/-- SET REGIME (R21, R175). -/
def runSetRegime (r : Request) (s : State) : State × Answer := (s.setNight (decide (r.arg 0 = 1)), .plain .ok)

/-- SET_REGIME (R21). -/
def execSetRegime (s : State) : Host.Outcome State Fault Refusal :=
  requestRow .setRegime 0x0D (oneArg 1) runSetRegime s

/-- SET RUN LEVEL (R183). -/
def runSetRunLevel (r : Request) (s : State) : State × Answer :=
  s.setRunLevel ((levelOfCode (r.arg 0)).getD .unconfigured) (decide (r.arg 1 = 1))

/-- SET_RUN_LEVEL (R183). -/
def execSetRunLevel (s : State) : Host.Outcome State Fault Refusal :=
  requestRow .setRunLevel 0x0E
    (fun r => r.hasArgs 2 && decide (1 ≤ r.arg 0) && decide (r.arg 0 ≤ 3) && decide (r.arg 1 ≤ 1)) runSetRunLevel s

/-- R158, R187: the arguments of LOAD STAGING. -/
def stagingArgs (r : Request) : Bool :=
  decide (2 ≤ r.args.length) && decide (r.args.length ≤ 7) && decide (r.arg 0 ≤ 63) &&
    decide (r.arg 0 + (r.args.length - 1) ≤ 64)

/-- LOAD_STAGING (R158). -/
def execLoadStaging (s : State) : Host.Outcome State Fault Refusal :=
  requestRow .loadStaging 0x0F stagingArgs
    (fun r => State.storeRequest (State.loadStaging (r.arg 0) r.args.tail)) s

/-- CLEAR_STAGING (R158). -/
def execClearStaging (s : State) : Host.Outcome State Fault Refusal :=
  requestRow .clearStaging 0x10 (·.hasArgs 0) (fun _ => State.storeRequest State.clearStaging) s

/-- R160: the CAL_EN line is sampled as the request is taken (log 10). -/
def State.sampleCal (calEn : Bool) (s : State) : State := s.setLines { s.lines with calEn := calEn }

/-- COMMIT_PAGE (R160). -/
def execCommitPage (calEn : Bool) (s : State) : Host.Outcome State Fault Refusal :=
  requestRow (.commitPage calEn) 0x11 (·.hasArgs 1)
    (fun r s => (s.sampleCal calEn).storeRequest (State.commitPage (r.arg 0) calEn)) s

/-- COPY_LIVE (R163). -/
def execCopyLive (s : State) : Host.Outcome State Fault Refusal :=
  requestRow .copyLive 0x12 (·.hasArgs 0) (fun _ => State.storeRequest State.copyLive) s

/-- ERASE_SHADOW (R164). -/
def execEraseShadow (calEn : Bool) (s : State) : Host.Outcome State Fault Refusal :=
  requestRow (.eraseShadow calEn) 0x13 (·.hasArgs 0)
    (fun _ s => (s.sampleCal calEn).storeRequest (State.eraseShadow calEn)) s

/-- SWAP_BANKS (R165). -/
def execSwapBanks (s : State) : Host.Outcome State Fault Refusal :=
  requestRow .swapBanks 0x14 (·.hasArgs 0) (fun _ => State.storeRequest State.swapBanks) s

/-- R168, R187: the arguments of READ TABLE. -/
def tableArgs (r : Request) : Bool :=
  r.hasArgs 4 && decide (r.arg 0 ≤ 1) && decide (r.arg 2 ≤ 63) && decide (1 ≤ r.arg 3) && decide (r.arg 3 ≤ 5) &&
    decide (r.arg 2 + r.arg 3 ≤ 64)

/-- READ_TABLE (R168). -/
def execReadTable (s : State) : Host.Outcome State Fault Refusal :=
  requestRow .readTable 0x15 tableArgs (fun r s => (s, s.readTable (r.arg 0) (r.arg 1) (r.arg 2) (r.arg 3))) s

/-- SET ADDRESS (R7, R172). -/
def runSetAddress (r : Request) (s : State) : State × Answer :=
  if s.lines.setup then (s.setRing { s.ring with own := r.arg 0 }, .plain .ok) else (s, .refuse .condition)

/-- SET_ADDRESS (R7). -/
def execSetAddress (s : State) : Host.Outcome State Fault Refusal :=
  requestRow .setAddress 0x16 (oneArg 29) runSetAddress s

/-- SOFT_RESET (R178): no further request starts. -/
def execSoftReset (s : State) : Host.Outcome State Fault Refusal :=
  requestRow .softReset 0x17 (·.hasArgs 0) (fun _ s => (s.setMu { s.mu with softWait := true }, .plain .ok)) s

/-- UNASSIGNED_REQUEST (R172): a code that names no request, or an MREQ with LEN 0. -/
def execUnassignedRequest (s : State) : Host.Outcome State Fault Refusal :=
  taking .unassignedRequest s
    (State.serve (fun r => !assignedCode r.code) (fun _ => false) (fun _ s => (s, .refuse .badArg)))

/-- The command that serves a request (§13.3); CAL_EN as the line stands. -/
def commandOf (calEn : Bool) (r : Request) : Instr :=
  match r.code with
  | some 0x01 => .readStatus
  | some 0x02 => .ackFlags
  | some 0x03 => .setNoteMask
  | some 0x04 => .clearFault
  | some 0x05 => .readZone
  | some 0x06 => .readFilter
  | some 0x07 => .setFilterCharge
  | some 0x08 => .filterReset
  | some 0x09 => .readTank
  | some 0x0A => .readCycle
  | some 0x0B => .requestCycle
  | some 0x0C => .abortCycle
  | some 0x0D => .setRegime
  | some 0x0E => .setRunLevel
  | some 0x0F => .loadStaging
  | some 0x10 => .clearStaging
  | some 0x11 => .commitPage calEn
  | some 0x12 => .copyLive
  | some 0x13 => .eraseShadow calEn
  | some 0x14 => .swapBanks
  | some 0x15 => .readTable
  | some 0x16 => .setAddress
  | some 0x17 => .softReset
  | _ => .unassignedRequest

end Sys2Proof.Machine
end

