-- ==== Sys2Proof/Machine/Ring.lean ====
section
/-! DEFINITION. Ring Interface (chapter 1): receive checking and routing, the transmit arbiter, the sweep record. -/

namespace Sys2Proof.Machine

/-! ### Receiving (R1–R6, R17) -/

/-- R10: a frame to be forwarded joins the tail, or is discarded with RING-OVF when 16 are queued. -/
def State.forward (ws : List Word) (s : State) : State :=
  if s.ring.forward.length < Config.forwardCapacity then s.setRing { s.ring with forward := s.ring.forward ++ [ws] }
  else s.claimFlag .ringOvf

/-- The sweep number a POLL carries, none when it has no payload word (log 38). -/
def Frame.pollNumber (f : Frame) : Option Nat := f.payload.head?.map fun w => bits w 0 8

/-- R17: a stripped POLL closes the outstanding sweep, or is discarded. -/
def State.pollReturned (f : Frame) (s : State) : State :=
  match s.ring.outstanding with
  | none => s
  | some n =>
    if f.pollNumber = some n then
      (s.setRing { s.ring with outstanding := none, late := 0 }).post [.sweepClose n true]
    else s

/-- The BUSY answer of the Ring Interface: the echoed word 0, result BUSY, no data (R6). DESIGN CHOICE (log 47): an MREQ with
LEN 0 has no word to echo, and 0000h stands there, as R187 gives it for the REFUSED(BAD-ARG) answer alone. -/
def State.busyFrame (f : Frame) (s : State) : OriginFrame :=
  .mrsp f.src s.answering [f.payload.headD 0#16, Result.busy.word] false

/-- R6: a consumed MREQ joins the Management Request Queue, or is answered BUSY when the queue is full. -/
def State.consume (f : Frame) (s : State) : State :=
  if s.mu.queue.length < Config.requestCapacity then
    s.setMu { s.mu with queue := s.mu.queue ++ [{ src := f.src, payload := f.payload }] }
  else if s.ring.placeFree then s.setRing (s.ring.join (s.busyFrame f))
  else s.claimFlag .ringOvf

/-- R5: a broadcast SAMPLE is translated while a bank is live and SETUP is low, and forwarded unless absorbed. -/
def State.broadcastSample (f : Frame) (ws : List Word) (s : State) : State :=
  if s.isLive && !s.lines.setup then
    let r := s.translate f
    if r.2 then r.1 else r.1.forward ws
  else s.forward ws

/-- R4, steps 2–7. -/
def State.route (f : Frame) (ws : List Word) (s : State) : State :=
  let len := f.payload.length
  if f.src = Config.broadcast then s.claimFlag .frameErr
  else if f.src = s.answering then if f.kind = kindPoll then s.pollReturned f else s
  else if f.dst = s.answering then if f.kind = kindMreq then s.consume f else s.claimFlag .frameErr
  else if f.dst = Config.broadcast ∧ f.kind = kindSample ∧ len ≠ 0 ∧ len % 2 = 0 then s.broadcastSample f ws
  else if f.kind = kindSample ∧ (len = 0 ∨ len % 2 = 1) then (s.forward ws).claimFlag .frameErr
  else s.forward ws

/-- R1, R2, R4: a received run. -/
def State.receive (ws : List Word) (s : State) : State :=
  if !wellFormedRun ws then s.claimFlag .frameErr
  else if !checkOk ws then s.claimFlag .ringCrc
  else s.route (parseFrame ws) ws

/-- R9: bypassed words go to TX, behind the words of a frame that was cut off. -/
def Lines.bypass (ws : List Word) (l : Lines) : Lines :=
  { l with tx := (if l.txOpen then l.tx else []) ++ ws, txOpen := false }

/-- R1, R19: a run that ends: the one being received at a SOFT RESET is discarded without a flag. -/
def State.runEnds (ws : List Word) (s : State) : State :=
  if s.ring.discard then s.setRing { s.ring with discard := false } else s.receive ws

/-- RX_FRAME (R1). While RST_N is low the words pass to TX unchanged (R9). -/
def execRxFrame (ws : List Word) (s : State) : Host.Outcome State Fault Refusal :=
  if s.held then .next (s.setLines (s.lines.bypass ws)) else taking (.rxFrame ws) s (State.runEnds ws)

/-! ### The transmit arbiter (R13, R14) -/

/-- R14: the grant distance. -/
def State.grantDistance (s : State) : Nat := if s.isLive then s.param 78 2 else Config.defaultGrantDistance

/-- A frame takes the port; its words go out on TX. -/
def State.send (ws : List Word) (soft : Bool) (s : State) : State :=
  (s.setRing { s.ring with port := some { words := ws, soft := soft } }).setLines { s.lines with tx := ws }

/-- R14: the head of the Forward Queue is granted; the head of the Origin Queue has waited through one more frame. -/
def State.grantForward (ws : List Word) (rest : List (List Word)) (s : State) : State :=
  (s.setRing { s.ring with forward := rest, headWait := s.ring.headWait.map (· + 1) }).send ws false

/-- R12, R14: the head of the Origin Queue is granted, the next frame becomes the head, and a place frees. -/
def State.grantOrigin (f : OriginFrame) (rest : List OriginFrame) (s : State) : State :=
  let t := (s.setRing { s.ring with
    origin := rest, headWait := if rest.isEmpty then none else some 0 }).send f.words f.isSoft
  t.post t.freedPosts

/-- R14: the arbiter grants a free port. -/
def State.grant (s : State) : State :=
  match s.ring.slot with
  | some p => (s.setRing { s.ring with slot := none }).send p.words false
  | none =>
    match s.ring.forward, s.ring.origin with
    | [], [] => s
    | ws :: rest, [] => s.grantForward ws rest
    | [], f :: rest => s.grantOrigin f rest
    | ws :: wrest, f :: frest =>
      if s.grantDistance ≤ s.ring.headWait.getD 0 then s.grantOrigin f frest else s.grantForward ws wrest

/-- The port is sending the answer to SOFT RESET (R178). -/
def State.sendingSoft (s : State) : Bool := s.ring.port.any (·.soft)

/-- TRANSMIT_GRANT (R14): the port frees and is granted. After the answer to SOFT RESET the reset comes before the next
grant (R178, log 43). -/
def execTransmitGrant (s : State) : Host.Outcome State Fault Refusal :=
  taking .transmitGrant s fun s =>
    if s.sendingSoft then s else (s.setRing { s.ring with port := none }).grant

/-! ### The sweep record (R15, R16) -/

/-- R16: the next POLL is placed in the slot, marked outstanding, and sweep begin is posted. -/
def State.originate (s : State) : State :=
  let n := s.ring.nextNumber
  (s.setRing { s.ring with
    slot := some { src := s.answering, number := n, watch := s.ring.level == .watch }
    outstanding := some n
    late := 0
    nextNumber := (n + 1) % 256
    timer := some s.sweepPeriod
    lastBegin := some n }).post [.banksSweepBegin n, .interlockSweepBegin n]

/-- R16: an expiry of the sweep timer. -/
def State.sweepExpiry (s : State) : State :=
  match s.ring.outstanding with
  | none => s.originate
  | some n =>
    if s.ring.late < 2 then s.setRing { s.ring with late := s.ring.late + 1, timer := some s.sweepPeriod }
    else ((s.setRing { s.ring with outstanding := none }).post [.sweepClose n false]).originate

/-- SWEEP_TIMER_EXPIRY (R16): it occurs only while the timer runs (log 5). -/
def execSweepTimerExpiry (s : State) : Host.Outcome State Fault Refusal :=
  taking .sweepTimerExpiry s fun s => if s.ring.timer.isSome then s.sweepExpiry else s

/-- RING_RUN_LEVEL_CHANGE (R15). -/
def execRingRunLevelChange (l : RunLevel) (s : State) : Host.Outcome State Fault Refusal :=
  taking (.ringRunLevelChange l) s fun s => (s.setRing { s.ring with level := l }).evalSweeps

/-- RING_SWAP_TAKEN (R14, R15): the grant distance and the period are read from the live bank at their next use. -/
def execRingSwapTaken (s : State) : Host.Outcome State Fault Refusal := taking .ringSwapTaken s State.evalSweeps

/-- R19: the Ring Interface after SOFT RESET: the own address is kept, and a run being received is discarded as it ends. -/
def Ring.softReset (arriving : Bool) (r : Ring) : Ring := { Ring.atReset 0#5 with own := r.own, discard := arriving }

end Sys2Proof.Machine
end

