-- ==== Sys2Proof/Machine/Reset.lean ====
section
/-! DEFINITION. The resets and the lines: power-on, RST_N, SETUP, DOOR, FLOAT, and SOFT RESET taken. -/

namespace Sys2Proof.Machine

/-! ### Power-on and RST_N (R9, R180) -/

/-- The straps as read at the end of a reset (R7, R180); bypass has ended (R9). -/
def Lines.withStraps (l : Lines) (x : Straps) : Lines := { l with addr := x.addr, autold := x.autold, txOpen := false }

/-- R9: a frame on the port is cut off at the word being sent: the words sent stand on TX. A frame whose words were all out is
not cut off. -/
def Lines.cutOff (sent : Nat) (port : Option Sending) (l : Lines) : Lines :=
  match port with
  | none => l
  | some p => { l with tx := p.words.take sent, txOpen := decide (sent < p.words.length) }

/-- POWER_ON (R9): the power-on reset completes, and the device behaves as at an RST_N release (log 8). -/
def execPowerOn (x : Straps) (s : State) : Host.Outcome State Fault Refusal :=
  .next (State.atReset (s.lines.withStraps x) s.free s.pending)

/-- RST_N_RELEASE (R180): the straps are latched and every block takes its full reset state (log 8). -/
def execRstNRelease (x : Straps) (s : State) : Host.Outcome State Fault Refusal :=
  .next (State.atReset (s.lines.withStraps x) s.free s.pending)

/-- RST_N_LOW (R9): every block is held in reset, and a transmission under way is cut off. -/
def execRstNLow (s : State) (sent : Nat := 0) : Host.Outcome State Fault Refusal :=
  .next (((State.atReset (s.lines.cutOff sent s.ring.port) s.free s.pending).setPosts []).setHeld true)

/-! ### Lines -/

/-- SETUP_LINE_CHANGE (R8, R15): the answering address and the enabling of sweeps follow the line. -/
def execSetupLineChange (high : Bool) (s : State) : Host.Outcome State Fault Refusal :=
  let t := s.setLines { s.lines with setup := high }
  if s.held then .next t else taking (.setupLineChange high) t State.evalSweeps

/-- R72: the allocator's door record follows the DOOR line. -/
def State.allocDoor (isOpen : Bool) (s : State) : State := s.setAlloc { s.alloc with door := isOpen }

/-- R72, R80, R138, R150: the blocks that take the DOOR line, in the order of the table's row. -/
def State.doorTaken (isOpen : Bool) (s : State) : State :=
  (((s.interlockDoor isOpen).allocDoor isOpen).cycleDoor isOpen).filterDoor isOpen

/-- DOOR_LINE_CHANGE (R80). A level the line already has is no change (log 6). -/
def execDoorLineChange (isOpen : Bool) (s : State) : Host.Outcome State Fault Refusal :=
  let t := s.setLines { s.lines with door := isOpen }
  if s.held ∨ s.lines.door = isOpen then .next t else taking (.doorLineChange isOpen) t (State.doorTaken isOpen)

/-- FLOAT_LINE_CHANGE (R112). -/
def execFloatLineChange (raised : Bool) (s : State) : Host.Outcome State Fault Refusal :=
  let t := s.setLines { s.lines with float := raised }
  if s.held then .next t else taking (.floatLineChange raised) t (State.takeFloat raised)

/-! ### SOFT RESET (R178) -/

/-- The state of every block after SOFT RESET (R19, R41, R57, R75, R91, R108, R123, R141, R156, R170, R179, R186).
Events in flight are lost, but for a swap the Filter Monitor has still to take (log 15). -/
def State.softBlocks (arriving between : Bool) (s : State) : State :=
  let level := s.startLevel
  { s with
    ring := s.ring.softReset arriving
    trans := Translator.atReset
    zones := s.softZones
    alloc := Allocator.atReset s.lines.door
    inter := s.softInterlock
    dry := s.dry.softReset
    water := s.softWater
    cycles := s.softCycles level
    filters := s.softFilters
    banks := s.banks.softReset s.free between
    mu := { Management.atReset with
      maskFlags := s.mu.maskFlags, maskConditions := s.mu.maskConditions, level := level }
    rc := { s.rc with level := level, wake := false }
    posts := s.posts.filter (· == .filterSwapTaken)
    free := s.free + 1 }

/-- The posts of the owners as a soft reset completes (R91, R123, R156, R186, log 37). -/
def State.softPosts (faultWas : Bool) (s : State) : List Instr :=
  (if faultWas then [.conditionPost .blowerFault false] else []) ++ [.conditionPost .doorOpen s.lines.door] ++
  s.softWaterPosts ++ s.filters.softPosts ++ softLevelPosts s.rc.level

/-- R178: every block takes its soft reset state, the owners post, and the rebuilt rows are offered (R91). -/
def State.softReset (arriving between : Bool) (s : State) : State :=
  let t := s.softBlocks arriving between
  (t.post (t.softPosts s.inter.fault)).offerDirty

/-- SOFT_RESET_TAKEN (R178): it occurs only as the answer to SOFT RESET leaves the port (log 6). -/
def execSoftResetTaken (s : State) (arriving between : Bool := false) : Host.Outcome State Fault Refusal :=
  taking (.softResetTaken arriving between) s fun s => if s.sendingSoft then s.softReset arriving between else s

end Sys2Proof.Machine
end

