-- ==== Sys2Proof/Machine/Dispatch.lean ====
section
/-! DEFINITION. The meaning of every command: one arm per constructor. -/

namespace Sys2Proof.Machine

/-- The effect of a command on everything but the queue of waiting commands. -/
def exec (i : Instr) (s : State) : Host.Outcome State Fault Refusal :=
  match i with
  | .powerOn straps => Sys2Proof.Machine.execPowerOn straps s
  | .rstNLow sent => Sys2Proof.Machine.execRstNLow s sent
  | .rstNRelease straps => Sys2Proof.Machine.execRstNRelease straps s
  | .setupLineChange high => Sys2Proof.Machine.execSetupLineChange high s
  | .doorLineChange isOpen => Sys2Proof.Machine.execDoorLineChange isOpen s
  | .floatLineChange raised => Sys2Proof.Machine.execFloatLineChange raised s
  | .rxFrame words => Sys2Proof.Machine.execRxFrame words s
  | .transmitGrant => Sys2Proof.Machine.execTransmitGrant s
  | .dirtyRowOffer => Sys2Proof.Machine.execDirtyRowOffer s
  | .noteOwedOffer => Sys2Proof.Machine.execNoteOwedOffer s
  | .sweepTimerExpiry => Sys2Proof.Machine.execSweepTimerExpiry s
  | .ringRunLevelChange level => Sys2Proof.Machine.execRingRunLevelChange level s
  | .ringSwapTaken => Sys2Proof.Machine.execRingSwapTaken s
  | .softResetTaken arriving between => Sys2Proof.Machine.execSoftResetTaken s arriving between
  | .defrostRegimeSet => Sys2Proof.Machine.execDefrostRegimeSet s
  | .defrostRegimeClear => Sys2Proof.Machine.execDefrostRegimeClear s
  | .translatorOutputChanged output value => Sys2Proof.Machine.execTranslatorOutputChanged output value s
  | .regenActive => Sys2Proof.Machine.execRegenActive s
  | .regenInactive => Sys2Proof.Machine.execRegenInactive s
  | .zoneStore zone field value quality => Sys2Proof.Machine.execZoneStore zone field value quality s
  | .zoneFaultReport zone field => Sys2Proof.Machine.execZoneFaultReport zone field s
  | .boostToggle zone => Sys2Proof.Machine.execBoostToggle zone s
  | .windowOpen zone => Sys2Proof.Machine.execWindowOpen zone s
  | .windowShut zone => Sys2Proof.Machine.execWindowShut zone s
  | .regimeChanged => Sys2Proof.Machine.execRegimeChanged s
  | .sweepClose n complete => Sys2Proof.Machine.execSweepClose n complete s
  | .boostTimerExpiry zone => Sys2Proof.Machine.execBoostTimerExpiry zone s
  | .windowTimerExpiry zone => Sys2Proof.Machine.execWindowTimerExpiry zone s
  | .zoneSwapTaken => Sys2Proof.Machine.execZoneSwapTaken s
  | .zoneReview n => Sys2Proof.Machine.execZoneReview n s
  | .normalRequests step dampers => Sys2Proof.Machine.execNormalRequests step dampers s
  | .runRequest output value => Sys2Proof.Machine.execRunRequest output value s
  | .stopRequest output => Sys2Proof.Machine.execStopRequest output s
  | .cyclePlan kind claims => Sys2Proof.Machine.execCyclePlan kind claims s
  | .planRelease => Sys2Proof.Machine.execPlanRelease s
  | .inhibitClaim member => Sys2Proof.Machine.execInhibitClaim member s
  | .inhibitRelease member => Sys2Proof.Machine.execInhibitRelease member s
  | .blowerFbSample sample => Sys2Proof.Machine.execBlowerFbSample sample s
  | .minOnExpiry => Sys2Proof.Machine.execMinOnExpiry s
  | .minOffExpiry => Sys2Proof.Machine.execMinOffExpiry s
  | .settleTimerExpiry => Sys2Proof.Machine.execSettleTimerExpiry s
  | .interlockSweepBegin n => Sys2Proof.Machine.execInterlockSweepBegin n s
  | .interlockSwapTaken => Sys2Proof.Machine.execInterlockSwapTaken s
  | .dryingAllocation record => Sys2Proof.Machine.execDryingAllocation record s
  | .dryingOutputOn output => Sys2Proof.Machine.execDryingOutputOn output s
  | .dryingOutputOff output => Sys2Proof.Machine.execDryingOutputOff output s
  | .dryingCoilTemp sample => Sys2Proof.Machine.execDryingCoilTemp sample s
  | .dryingCycleOutcome kind outcome => Sys2Proof.Machine.execDryingCycleOutcome kind outcome s
  | .deposit value saturated => Sys2Proof.Machine.execDeposit value saturated s
  | .removal value saturated => Sys2Proof.Machine.execRemoval value saturated s
  | .uncertain => Sys2Proof.Machine.execUncertain s
  | .tankLevel sample => Sys2Proof.Machine.execTankLevel sample s
  | .tankOut => Sys2Proof.Machine.execTankOut s
  | .tankIn => Sys2Proof.Machine.execTankIn s
  | .pumpOutOutcome outcome => Sys2Proof.Machine.execPumpOutOutcome outcome s
  | .waterSwapTaken => Sys2Proof.Machine.execWaterSwapTaken s
  | .cycleRequest kind => Sys2Proof.Machine.execCycleRequest kind s
  | .cycleCoilTemp sample => Sys2Proof.Machine.execCycleCoilTemp sample s
  | .dpSample stage sample => Sys2Proof.Machine.execDpSample stage sample s
  | .pumpFlow sample => Sys2Proof.Machine.execPumpFlow sample s
  | .tankReport report => Sys2Proof.Machine.execTankReport report s
  | .cycleOutputChanged output value => Sys2Proof.Machine.execCycleOutputChanged output value s
  | .airflowLost => Sys2Proof.Machine.execAirflowLost s
  | .cycleRunLevelChange level => Sys2Proof.Machine.execCycleRunLevelChange level s
  | .stepTimerExpiry => Sys2Proof.Machine.execStepTimerExpiry s
  | .cycleTimerExpiry => Sys2Proof.Machine.execCycleTimerExpiry s
  | .filterAllocation record => Sys2Proof.Machine.execFilterAllocation record s
  | .profileOutcome outcome result => Sys2Proof.Machine.execProfileOutcome outcome result s
  | .filterSwapTaken => Sys2Proof.Machine.execFilterSwapTaken s
  | .banksSweepBegin n => Sys2Proof.Machine.execBanksSweepBegin n s
  | .sweepsDisabled => Sys2Proof.Machine.execSweepsDisabled s
  | .validationComplete => Sys2Proof.Machine.execValidationComplete s
  | .commitComplete => Sys2Proof.Machine.execCommitComplete s
  | .copyPageComplete => Sys2Proof.Machine.execCopyPageComplete s
  | .erasePageComplete => Sys2Proof.Machine.execErasePageComplete s
  | .loaderReadComplete words => Sys2Proof.Machine.execLoaderReadComplete words s
  | .loaderWriteComplete => Sys2Proof.Machine.execLoaderWriteComplete s
  | .flagSetClaim flag => Sys2Proof.Machine.execFlagSetClaim flag s
  | .conditionPost condition truth => Sys2Proof.Machine.execConditionPost condition truth s
  | .muRunLevelChange level => Sys2Proof.Machine.execMuRunLevelChange level s
  | .wakeEvent field value => Sys2Proof.Machine.execWakeEvent field value s
  | .rcSwapTaken => Sys2Proof.Machine.execRcSwapTaken s
  | .readStatus => Sys2Proof.Machine.execReadStatus s
  | .ackFlags => Sys2Proof.Machine.execAckFlags s
  | .setNoteMask => Sys2Proof.Machine.execSetNoteMask s
  | .clearFault => Sys2Proof.Machine.execClearFault s
  | .readZone => Sys2Proof.Machine.execReadZone s
  | .readFilter => Sys2Proof.Machine.execReadFilter s
  | .setFilterCharge => Sys2Proof.Machine.execSetFilterCharge s
  | .filterReset => Sys2Proof.Machine.execFilterReset s
  | .readTank => Sys2Proof.Machine.execReadTank s
  | .readCycle => Sys2Proof.Machine.execReadCycle s
  | .requestCycle => Sys2Proof.Machine.execRequestCycle s
  | .abortCycle => Sys2Proof.Machine.execAbortCycle s
  | .setRegime => Sys2Proof.Machine.execSetRegime s
  | .setRunLevel => Sys2Proof.Machine.execSetRunLevel s
  | .loadStaging => Sys2Proof.Machine.execLoadStaging s
  | .clearStaging => Sys2Proof.Machine.execClearStaging s
  | .commitPage calEn => Sys2Proof.Machine.execCommitPage calEn s
  | .copyLive => Sys2Proof.Machine.execCopyLive s
  | .eraseShadow calEn => Sys2Proof.Machine.execEraseShadow calEn s
  | .swapBanks => Sys2Proof.Machine.execSwapBanks s
  | .readTable => Sys2Proof.Machine.execReadTable s
  | .setAddress => Sys2Proof.Machine.execSetAddress s
  | .softReset => Sys2Proof.Machine.execSoftReset s
  | .unassignedRequest => Sys2Proof.Machine.execUnassignedRequest s

end Sys2Proof.Machine
end

