-- ==== Sys2Proof/Machine/Idle.lean ====
section
/-! DEFINITION. What the device does of its own accord on an empty queue (log 1, log 4): it takes the events in flight, starts
waiting requests, frees and grants the port, takes the expiries that are due, and counts time. -/

namespace Sys2Proof.Machine

/-- A running timer after one unit. At 0 it is due, and stays so until its expiry is taken, or its timer is stopped or
restarted (log 4). -/
def countDown (t : Nat) : Nat := t - 1

/-- One 50 ms unit of the sweep timer (R15). -/
def State.tickSweep (s : State) : State := s.setRing { s.ring with timer := s.ring.timer.map countDown }

/-- One second of the hold timers (R50). -/
def Zone.tick (z : Zone) : Zone := { z with boost := z.boost.map countDown, window := z.window.map countDown }

/-- One second of the compressor's times, which stop rising at 1023 (R81). -/
def CompClock.tick : CompClock → CompClock
  | .on t => .on (min 1023 (t + 1))
  | .off t => .off (min 1023 (t + 1))

/-- One second of the interlock (R81, R84). The settle timer is expired as it reaches 0. -/
def Interlock.tick (i : Interlock) : Interlock := { i with clock := i.clock.tick, settle := i.settle.map countDown }

/-- One second of the running cycle; a held cycle's step timer is paused (R131, R132). -/
def Cycle.tick (c : Cycle) : Cycle :=
  { c with
    stepTimer := if c.held then c.stepTimer else c.stepTimer.map countDown
    cycleTimer := c.cycleTimer.map countDown }

/-- One second of every seconds timer (§5.2). -/
def State.tickSecond (s : State) : State :=
  ((s.setZones (s.zones.map Zone.tick)).setInter s.inter.tick).setCycles
    { s.cycles with running := s.cycles.running.map Cycle.tick }

/-- One 50 ms unit of the device's time base; twenty make a second (§5.2, log 4). DESIGN CHOICE: every seconds timer counts at the
one second boundary, whose phase is 0 at a full reset and kept at SOFT RESET, so that a timer started within a second counts the
rest of it as a whole second (log 58). -/
def State.tick (s : State) : State :=
  let t := s.tickSweep
  if 19 ≤ s.subTick then (t.setSubTick 0).tickSecond else t.setSubTick (s.subTick + 1)

/-! ### Expiries (log 4) -/

/-- The expiry of a timer that is due. -/
def dueOf (e : Instr) (timer : Option Nat) : List Instr := if timer = some 0 then [e] else []

/-- The expiries due of a zone's hold timers (R52, R54). -/
def Zone.due (i : Nat) (z : Zone) : List Instr :=
  dueOf (.boostTimerExpiry (Fin.ofNat 8 i)) z.boost ++ dueOf (.windowTimerExpiry (Fin.ofNat 8 i)) z.window

/-- R81: the limit that a held stop or a pending start waits for is reached. A start without airflow proof waits on, and its
expiry would change nothing. -/
def State.clockDue (s : State) : List Instr :=
  (if s.inter.stopHeld ∧ s.plant.minOn ≤ s.inter.clock.onTime then [.minOnExpiry] else []) ++
  (if s.inter.startPending ∧ s.inter.proof ∧ s.plant.minOff ≤ s.inter.clock.offTime then [.minOffExpiry] else [])

/-- The expiries due of the running cycle's timers (R128); a held cycle's step timer is paused. -/
def Cycle.due (c : Cycle) : List Instr :=
  (if c.held then [] else dueOf .stepTimerExpiry c.stepTimer) ++ dueOf .cycleTimerExpiry c.cycleTimer

/-- The expiries due, in the order the device takes them. -/
def State.due (s : State) : List Instr :=
  dueOf .sweepTimerExpiry s.ring.timer ++ s.zones.zipIdx.flatMap (fun x => x.1.due x.2) ++ s.clockDue ++
    s.cycles.running.toList.flatMap Cycle.due

/-- The expiry the device takes next. An expiry is in flight at no time: it is read off its timer as it is taken, so a timer that an
earlier event stopped or restarted has none (R15, R54, R81, R84, R139). -/
def State.dueExpiry (s : State) : Option Instr := s.due.head?

/-- The port is sending, or a place holds a frame (R14). -/
def State.portWork (s : State) : Bool :=
  s.ring.port.isSome || s.ring.slot.isSome || !s.ring.forward.isEmpty || !s.ring.origin.isEmpty

/-- What the device does next of its own accord, as a command; none when only time passes. -/
def State.ownWork (s : State) : Option Instr :=
  match s.posts with
  | e :: _ => some e
  | [] =>
    match s.headRequest with
    | some (r, _) => some (commandOf s.lines.calEn r)
    | none =>
      if s.portWork then some (if s.sendingSoft then .softResetTaken false false else .transmitGrant)
      else s.dueExpiry

/-- A step on an empty queue: nothing while RST_N is low (R9), else the device's own work, else a unit of time. -/
def idle (s : State) : Host.Outcome State Fault Refusal :=
  if s.held then .next s
  else
    match s.ownWork with
    | some c => exec c s
    | none => .next s.tick

end Sys2Proof.Machine
end

