-- ==== Sys2Proof/Safety.lean ====
section
/-! DEFINITION. What counts as a safe state: the laws the spec's rules own, and the bounds its rules give, as properties of
one state. -/

namespace Sys2Proof.Machine

/-! ### Words the statements share -/

/-- The state once an event is in flight no more. -/
abbrev State.took (s : State) (c : Instr) : State := s.setPosts (s.posts.erase c)

/-- §11.1, R171, R172: the request at the head of the queue has this code and is settled in the last step of R172: it may
start, SETUP is low, the loader is not LOADING, and its source is the controller while a bank is live. -/
abbrev State.Serves (s : State) (code : Nat) (r : Request) (rest : List Request) : Prop :=
  s.held = false ∧ s.mu.queue = r :: rest ∧ s.mu.softWait = false ∧ s.ring.placeFree = true ∧ s.lines.setup = false ∧
    s.rc.loader.isLoading = false ∧ (s.isLive = true → r.src = s.param 78 3) ∧ r.code = some code

/-- R173: the answer of a request as it stands at the tail of the Origin Queue: the echoed word 0, the result, the data. -/
abbrev State.answerFrame (s : State) (r : Request) (result : Result) (data : List Word) : OriginFrame :=
  .mrsp r.src s.answering (r.payload.headD 0#16 :: result.word :: data) false

/-- R171: the state once the head request was taken and answered, and nothing else was changed. -/
abbrev State.served (s : State) (r : Request) (rest : List Request) (result : Result) (data : List Word) : State :=
  (s.setMu { s.mu with queue := rest }).setRing
    { s.ring.join (s.answerFrame r result data) with reserved := false }

/-- R79, R80, R85: the events that resolve every row: requests, plans, a claim or release that changes the inhibit set, a change of
the DOOR line, feedback while the table has a blower row, the expiries that end a held stop or a pending start, a swap, and CLEAR
FAULT (BLOWER) with the latch set. -/
abbrev State.Resolves (s : State) (c : Instr) : Prop :=
  (∃ step ds, c = .normalRequests step ds) ∨ (∃ o v, c = .runRequest o v) ∨ (∃ o, c = .stopRequest o) ∨
    (∃ k cs, c = .cyclePlan k cs) ∨ c = .planRelease ∨ (∃ m, c = .inhibitClaim m ∧ s.inter.inhibits.get m = false) ∨
    (∃ m, c = .inhibitRelease m ∧ s.inter.inhibits.get m = true) ∨
    (∃ x, c = .blowerFbSample x ∧ (s.inter.row .blower).isSome = true) ∨
    c = .minOnExpiry ∧ s.inter.stopHeld = true ∨ c = .minOffExpiry ∧ s.inter.startPending = true ∨
    c = .interlockSwapTaken ∨
    (∃ b, c = .doorLineChange b ∧ s.lines.door = !b ∧ s.inter.inhibits.door = !b) ∨
    c = .clearFault ∧ s.inter.fault = true ∧ ∃ r rest, s.Serves 0x04 r rest ∧ r.args.length = 1 ∧ r.arg 0 = 0

/-- R81, R82, R84, R89: what stands as a resolving event c comes to its resolution: airflow proof, the compressor's times, and the
commanded output of each kind of row. A sample settles proof first, an expiry says that its time has come (log 5), and a swap keeps
the rows that both maps call for. -/
abbrev State.StandsAt (s : State) (c : Instr) (proof : Bool) (clock : CompClock) (present : RowKind → Nat) : Prop :=
  (proof = match c with
    | .blowerFbSample y =>
      if y.map Prod.fst = some (s.inter.output .blower) then
        s.inter.proof || (decide (s.inter.output .blower ≠ 0) && !s.inter.fault)
      else s.inter.proof && (s.inter.fault || s.inter.settling || decide (s.inter.mismatch < 2))
    | .interlockSwapTaken =>
      s.inter.proof && s.inter.rows.all fun r => r.kind != .blower || s.calledRows.any (Row.same r)
    | _ => s.inter.proof) ∧
  (clock = match c, s.inter.clock with
    | .minOnExpiry, .on n => .on (max n (s.param 74 1))
    | .minOnExpiry, .off n => .off (max n (s.param 74 1))
    | .minOffExpiry, .on n => .on (max n (s.param 74 2))
    | .minOffExpiry, .off n => .off (max n (s.param 74 2))
    | .interlockSwapTaken, k =>
      if s.inter.rows.any fun r => r.kind == .compressor && r.commanded != 0 && !s.calledRows.any (Row.same r) then .off 0 else k
    | _, k => k) ∧
  ∀ k, present k = match c with
    | .interlockSwapTaken =>
      match s.calledRows.find? fun r => r.kind == k with
      | none => 0
      | some r =>
        match s.inter.rows.find? (Row.same r) with
        | none => 0
        | some o => o.commanded
    | _ => s.inter.output k

/-- R88: the posts for the outputs that change from one set of values to another, in row order: to the Sample Translator, the
Drying Controller and the Cycle Engine, each with the new value. -/
abbrev OutputNews (old new : RowKind → Nat) : List Instr :=
  [Output.compressor, .heater, .pump].flatMap fun o =>
    if old (Output.row o) = new (Output.row o) then []
    else [.translatorOutputChanged o (new (Output.row o)),
      if new (Output.row o) = 0 then .dryingOutputOff o else .dryingOutputOn o,
      .cycleOutputChanged o (new (Output.row o))]

/-- A row as an ACT names it, with its requests (§5.1). -/
abbrev Row.asked (r : Row) : RowKind × Nat × Nat × Option Nat × Option Nat := (r.kind, r.dst, r.port, r.normal, r.cycle)

/-- R87, R88: an event of the interlock changes its rows and timers, the Origin Queue and the posts; no other block. -/
abbrev State.OnlyInterlock (s t : State) : Prop :=
  ((t.setInter s.inter).setRing s.ring).setPosts s.posts = s ∧
    { t.ring with origin := s.ring.origin, headWait := s.ring.headWait } = s.ring

/-- R127, R131–R133: the suspended cycle p resumed: in its step, a PROFILE with the settle time read now, a REGEN with what was
left of its timer; a REGEN the tank holds resumes held. -/
abbrev State.Resumes (s t : State) (p : Cycle) : Prop :=
  ∃ d, t.cycles.running = some d ∧ t.cycles.suspended = none ∧ d.kind = p.kind ∧ d.step = p.step ∧
    d.suspends = p.suspends ∧ d.completed = p.completed ∧ d.profile = p.profile ∧
    d.stepTimer = (if p.kind = .profile then some (s.param 77 9) else p.stepTimer) ∧
    d.held = (p.kind == .regen && t.cycles.tankHold) ∧ d.plan = s.planOf p.step ∧
    .cyclePlan p.kind (if d.held then [] else s.planOf p.step) ∈ t.posts ∧
    (p.kind = .regen → d.held = false → d.active = true ∧ .regenActive ∈ t.posts)

/-- R136: the running cycle c ended with an outcome: its record is written, its plan released, its outcome posted, a FAILED one
with CYCLE-FAIL; a PROFILE's carries its result (R134). With nothing waiting no cycle runs. Only the Cycle Engine and the posts
change. -/
abbrev State.RunningEnds (s t : State) (c : Cycle) (o : CycleOutcome) (completed : Nat) (result : List (Option Curve)) : Prop :=
  t.cycles.record c.kind = { outcome := o, endSweep := s.ring.lastBegin, completed := completed } ∧
    .planRelease ∈ t.posts ∧
    (c.kind = .defrost → .dryingCycleOutcome .defrost o ∈ t.posts ∧ .defrostRegimeClear ∈ t.posts) ∧
    (c.kind = .regen → .dryingCycleOutcome .regen o ∈ t.posts) ∧
    (c.kind = .pumpOut → .pumpOutOutcome o ∈ t.posts) ∧
    (c.kind = .profile → .profileOutcome o result ∈ t.posts) ∧
    (c.active = true → .regenInactive ∈ t.posts) ∧
    (∀ r, o = .failed r → .flagSetClaim .cycleFail ∈ t.posts) ∧
    (s.cycles.queue = [] → s.cycles.suspended = none →
      t.cycles.running = none ∧ t.cycles.queue = [] ∧ t.cycles.suspended = none) ∧
    (t.setCycles s.cycles).setPosts s.posts = s

/-- R96, R98: a method was started: run is posted for it, and the state is classified (R97). The next method is NONE (log 60). -/
abbrev State.StartedMethod (t : State) (m : Method) : Prop :=
  t.dry.method = some m ∧ t.dry.next = none ∧
    .runRequest (Method.output m) (if m = .compressor then 1 else t.param 74 7) ∈ t.posts ∧
    t.dry.state = (if t.dry.recorded m then .running else if t.forcedOff m then .heldForced else .starting)

/-- R95, R96: the controller chose: the method of R95 was started, or with none it is HELD, NO-METHOD, and the next method is
NONE (log 60). -/
abbrev State.StartedChosen (t : State) : Prop :=
  (t.chooseMethod = none → t.dry.state = .heldNoMethod ∧ t.dry.method = none ∧ t.dry.next = none) ∧
    ∀ n, t.chooseMethod = some n → t.StartedMethod n

/-- R101: the controller switched away from the method m: stop is posted; with its output on, the controller is STOPPING and
holds the method of R95 as the next one; with it off, it starts that one. -/
abbrev State.SwitchedFrom (t : State) (m : Method) (on : Bool) : Prop :=
  .stopRequest (Method.output m) ∈ t.posts ∧
    (on = true → t.dry.state = .stopping ∧ t.dry.method = some m ∧ t.dry.next = t.chooseMethod) ∧
    (on = false → t.StartedChosen)

/-- R142: how a fitted stage stands by the live Filter page: SPENT, WORN, IN-SERVICE or FRESH, by its charge, its verdict and its
baseline; FRESH or IN-SERVICE has no door-opened mark. With a worn threshold of 0 a stage of charge 0 is WORN (log 59). -/
abbrev State.StageStands (s : State) (st : Stage) (y : StageRecord) : Prop :=
  ∀ life threshold : Nat,
    life = s.param 76 (8 * Stage.index st + 1) % 256 * 65536 + s.param 76 (8 * Stage.index st + 2) →
    threshold = life * s.param 76 (8 * Stage.index st + 3) / 100 →
    (y.verdict = .spent ∨ life ≤ y.charge → y.state = .spent) ∧
    (y.verdict ≠ .spent → y.charge < life → y.verdict = .worn ∨ threshold ≤ y.charge → y.state = .worn) ∧
    (y.verdict = .none → y.charge < life → y.charge < threshold →
      y.state = (if y.baseline.isSome then .inService else .fresh) ∧ y.doorOpened = false)

/-- R143: the condition posts an event makes: FILTER-WORN, then FILTER-SPENT, each where its truth changed; a condition is true
while a fitted stage is in its state. -/
abbrev State.FilterNews (s t : State) (news : List Instr) : Prop :=
  ∀ wornWas wornIs spentWas spentIs : Bool,
    (wornWas = true ↔ ∃ g, (s.filters.stage g).fitted = true ∧ (s.filters.stage g).state = .worn) →
    (wornIs = true ↔ ∃ g, (t.filters.stage g).fitted = true ∧ (t.filters.stage g).state = .worn) →
    (spentWas = true ↔ ∃ g, (s.filters.stage g).fitted = true ∧ (s.filters.stage g).state = .spent) →
    (spentIs = true ↔ ∃ g, (t.filters.stage g).fitted = true ∧ (t.filters.stage g).state = .spent) →
    news = (if wornIs = wornWas then [] else [.conditionPost .filterWorn wornIs]) ++
      (if spentIs = spentWas then [] else [.conditionPost .filterSpent spentIs])

/-- R149: the derate: 100 unless FINE is fitted with both curves and they share a step; else 100 × baseline ÷ last at the highest
common step, within 50–100, 100 for a last drop of 0. -/
abbrev Filters.DerateSet (f : Filters) : Prop :=
  (f.fine.fitted = false ∨ f.fine.baseline = none ∨ f.fine.last = none → f.derate = 100) ∧
  (∀ b l, f.fine.fitted = true → f.fine.baseline = some b → f.fine.last = some l → l.wf = true →
    ((∀ k, Curve.at b k = none ∨ Curve.at l k = none) → f.derate = 100) ∧
    (∀ k x y, Curve.at b k = some x → Curve.at l k = some y → (∀ j, k < j → Curve.at b j = none ∨ Curve.at l j = none) →
      f.derate = if y = 0 then 100 else max 50 (min 100 (100 * x / y)))) ∧
  50 ≤ f.derate ∧ f.derate ≤ 100

/-- §13.3, R158, R168, R187: the argument words a request takes, by its code. -/
abbrev Request.Fits (r : Request) : Prop :=
  match r.code with
  | some 0x01 => r.args.length = 1 ∧ r.arg 0 ≤ 7
  | some 0x02 => r.args.length = 2
  | some 0x03 => r.args.length = 2
  | some 0x04 => r.args.length = 1 ∧ r.arg 0 ≤ 1
  | some 0x05 => r.args.length = 2 ∧ r.arg 0 ≤ 7 ∧ r.arg 1 ≤ 3
  | some 0x06 => r.args.length = 2 ∧ r.arg 0 ≤ 2 ∧ r.arg 1 ≤ 5
  | some 0x07 => r.args.length = 3 ∧ r.arg 0 ≤ 2 ∧ r.arg 1 ≤ 255
  | some 0x08 => r.args.length = 1 ∧ r.arg 0 ≤ 2
  | some 0x09 => r.args.length = 1 ∧ r.arg 0 ≤ 1
  | some 0x0A => r.args.length = 2 ∧ 1 ≤ r.arg 0 ∧ r.arg 0 ≤ 4 ∧ r.arg 1 ≤ 2
  | some 0x0B => r.args.length = 1 ∧ 1 ≤ r.arg 0 ∧ r.arg 0 ≤ 4
  | some 0x0C => r.args.length = 1 ∧ 1 ≤ r.arg 0 ∧ r.arg 0 ≤ 4
  | some 0x0D => r.args.length = 1 ∧ r.arg 0 ≤ 1
  | some 0x0E => r.args.length = 2 ∧ 1 ≤ r.arg 0 ∧ r.arg 0 ≤ 3 ∧ r.arg 1 ≤ 1
  | some 0x0F => 2 ≤ r.args.length ∧ r.args.length ≤ 7 ∧ r.arg 0 ≤ 63 ∧ r.arg 0 + (r.args.length - 1) ≤ 64
  | some 0x10 => r.args.length = 0
  | some 0x11 => r.args.length = 1
  | some 0x12 => r.args.length = 0
  | some 0x13 => r.args.length = 0
  | some 0x14 => r.args.length = 0
  | some 0x15 => r.args.length = 4 ∧ r.arg 0 ≤ 1 ∧ r.arg 2 ≤ 63 ∧ 1 ≤ r.arg 3 ∧ r.arg 3 ≤ 5 ∧ r.arg 2 + r.arg 3 ≤ 64
  | some 0x16 => r.args.length = 1 ∧ r.arg 0 ≤ 29
  | some 0x17 => r.args.length = 0
  | _ => False

/-- The request at the head of the queue may start (R171): the device is awake, no SOFT RESET waits, and a place is free. -/
abbrev State.MayStart (s : State) (r : Request) (rest : List Request) : Prop :=
  s.held = false ∧ s.mu.queue = r :: rest ∧ s.mu.softWait = false ∧ s.ring.placeFree = true

/-! ### Validation (R161, R162, R188) -/

/-- R161, R188, §13.4: the word at offset o of a built page passes the checks of its page. `W`: the words as unsigned numbers, `I`: as
signed ones. A check of several fields is of the first word of its group, or the lowest of the words compared. Page 64 is checked in
every entry, mapped or not (log 35), bits marked 0 are not tested (log 53), and an IGNORE entry passes (log 62). -/
abbrev WordPasses (page : Nat) (ws : List Word) (o : Nat) : Prop :=
  ∀ (w : Word) (W : Nat → Nat) (I : Nat → Int), w = ws.getD o 0#16 →
    (∀ j, W j = (ws.getD j 0#16).toNat) → (∀ j, I j = (ws.getD j 0#16).toInt) →
    (page ≤ 63 → bits w 15 1 = 1 ∨ bits w 13 2 = 0 ∨ bits w 13 2 = 1 ∧ bits w 6 5 ≤ 12 ∨
      bits w 13 2 = 2 ∧ bits w 6 5 ≤ 3 ∨
      bits w 13 2 = 3 ∧ (bits w 6 5 ≤ 5 ∨ 8 ≤ bits w 6 5 ∧ bits w 6 5 ≤ 11)) ∧
    (page = 64 → ∀ (Damper : Nat → Prop) (Port : Nat → Nat → Nat),
      (∀ a, Damper a ↔ bits (ws.getD (2 * a) 0#16) 8 4 = 4) →
      (∀ a i, Port a i = bits (ws.getD (2 * a + 1) 0#16) (4 * i) 4) →
      (∀ a, o = 2 * a → bits w 8 4 ≤ 7 ∧ (bits w 0 4 ≤ 7 ∨ bits w 0 4 = 15) ∧ (Damper a ∨ ∀ i < 4, Port a i = 15)) ∧
      (∀ a, o = 2 * a + 1 → (∀ i < 4, Port a i ≤ 7 ∨ Port a i = 15) ∧
        (Damper a → ∀ i < 4, Port a i ≤ 7 → (∀ j < i, Port a j ≠ Port a i) ∧
          ∀ b < a, Damper b → ∀ j < 4, Port b j ≠ Port a i))) ∧
    (65 ≤ page → page ≤ 68 → o % 4 = 1 → I (o + 1) ≤ I (o + 2)) ∧
    (69 ≤ page → page ≤ 72 →
      (o % 8 = 0 ∨ o % 8 = 2 → W o ≤ 1000) ∧ (o % 8 = 1 ∨ o % 8 = 3 → 1 ≤ W o ∧ W o ≤ 1000) ∧ (o % 8 = 4 → W o ≤ 500) ∧
      (o % 8 = 5 → 1 ≤ W o ∧ W o ≤ 500) ∧ (6 ≤ o % 8 → W o ≤ 100)) ∧
    (page = 73 → (o ≤ 14 → 1 ≤ W o ∧ W o ≤ 2000) ∧ (o ≤ 5 → W o ≤ W (o + 1)) ∧ (o = 15 → W o ≤ 100) ∧
      (o = 16 ∨ o = 17 → 1 ≤ W o ∧ W o ≤ 7) ∧ (o = 16 → W 17 ≤ W 16)) ∧
    (page = 74 → (o = 0 → 1 ≤ W o ∧ W o ≤ 7) ∧ (o = 1 ∨ o = 2 → W o ≤ 1023) ∧ (o = 3 → 1 ≤ W o ∧ W o ≤ 120) ∧
      (o = 4 → 1 ≤ W o ∧ W o ≤ 100 ∧ W 5 < W 4) ∧ (o = 5 → W o ≤ 99) ∧ (o = 6 → -400 ≤ I o ∧ I o ≤ 850) ∧
      (o = 7 → 1 ≤ W o ∧ W o ≤ 100) ∧ (o = 8 ∨ o = 9 → 1 ≤ W o ∧ W o ≤ 1000)) ∧
    (page = 75 → (o = 0 ∨ o = 7 → W o ≤ 1) ∧
      (o = 1 → 500 ≤ W o ∧ W o ≤ 20000 ∧ W 4 ≤ W 1 ∧ ∀ l < 16, W (8 + l) ≤ W 1) ∧ (o = 2 → W 2 < W 3) ∧ (o = 3 → W 3 < W 4) ∧
      (o = 5 ∨ o = 6 → W o ≤ 2000) ∧ (8 ≤ o → o ≤ 22 → W o ≤ W (o + 1)) ∧
      (24 ≤ o → o ≤ 27 → bits w 0 4 ≤ 3 ∧ bits w 4 4 ≤ 1)) ∧
    (page = 76 → o < 24 → (o % 8 = 0 → W o ≤ 1) ∧
      (o % 8 = 1 → 1 ≤ W o % 256 * 65536 + W (o + 1)) ∧
      (o % 8 = 3 ∨ o % 8 = 4 → 1 ≤ W o ∧ W o ≤ 100)) ∧
    (page = 77 → (o = 0 ∨ o = 6 → 1 ≤ W o ∧ W o ≤ 7) ∧ (o = 1 → 0 ≤ I o ∧ I o ≤ 300) ∧ (o = 2 → 60 ≤ W o ∧ W o ≤ 3600) ∧
      (o = 3 → 5 ≤ W o ∧ W o ≤ 300 ∧ W 3 < W 4) ∧ (o = 4 → 30 ≤ W o ∧ W o ≤ 1800) ∧ (o = 5 → 1 ≤ W o ∧ W o ≤ 100) ∧
      (o = 7 → 60 ≤ W o ∧ W o ≤ 7200) ∧ (o = 8 → 30 ≤ W o ∧ W o ≤ 3600) ∧ (o = 9 ∨ o = 10 → 5 ≤ W o ∧ W o ≤ 120)) ∧
    (page = 78 → (o = 0 → 2 ≤ W o ∧ W o ≤ 120) ∧ (o = 1 → 1 ≤ W o ∧ W o ≤ 16) ∧ (o = 2 → 1 ≤ W o ∧ W o ≤ 15) ∧
      (o = 3 → W o ≤ 29) ∧ (o = 4 → 1 ≤ W o ∧ W o ≤ 63) ∧ (o = 5 ∨ o = 6 → 1 ≤ W o ∧ W o ≤ 240) ∧
      (o = 7 ∨ o = 8 → W o ≤ 1000) ∧ (o = 9 → W o ≤ 500) ∧ (o = 10 → 1 ≤ W o ∧ W o ≤ 3))

/-! ### Memory -/

/-- Both banks and the staging buffer are in the canonical form. -/
abbrev State.MemoriesWf (s : State) : Prop :=
  Memory.wf s.banks.a.mem ∧ Memory.wf s.banks.b.mem ∧ Memory.wf s.banks.staging

/-! ### The ring (chapter 1) -/

/-- The output an ACT frame is for; none for another frame (R11). -/
def OriginFrame.actKey : OriginFrame → Option (Nat × Nat × Nat)
  | .act d _ f p _ => some (d, f, p)
  | .mrsp .. => none
  | .note .. => none

/-- R6, R10, R11, R12, R14: the capacities of the queues; no two ACTs for one output and no two NOTEs in the Origin Queue;
a wait count while the Origin Queue has a head; no reservation between commands. -/
abbrev State.QueuesBounded (s : State) : Prop :=
  s.ring.forward.length ≤ 16 ∧ s.ring.origin.length ≤ 24 ∧ s.mu.queue.length ≤ 8 ∧ s.ring.reserved = false ∧
    (s.ring.origin.filterMap OriginFrame.actKey).Nodup ∧ (s.ring.origin.filter OriginFrame.isNote).length ≤ 1 ∧
    s.ring.headWait.isSome = !s.ring.origin.isEmpty

/-- R15, R16: the timer runs exactly while sweeps are enabled; while they are disabled no POLL waits or is outstanding. -/
abbrev State.SweepRecordSound (s : State) : Prop :=
  s.ring.timer.isSome = s.ring.enabled ∧ s.ring.late ≤ 2 ∧ s.ring.nextNumber < 256 ∧
    (s.ring.enabled = false → s.ring.slot = none ∧ s.ring.outstanding = none ∧ s.ring.late = 0) ∧
    (s.ring.outstanding = none → s.ring.late = 0)

/-! ### Translator and zones (chapters 2, 3) -/

/-- §2.8: four accumulators; a CLOSED one holds sum 0 and no saturated mark; no sum exceeds 65535. -/
abbrev State.AccumulatorsSound (s : State) : Prop :=
  s.trans.accs.length = 4 ∧
    ∀ a ∈ s.trans.accs, a.sum ≤ 65535 ∧ (a.held = none → a.sum = 0 ∧ a.saturated = false)

/-- §3.1, R49: eight zones; an ABSENT one is fresh, without a head; one that is not LIVE has both demands 0 and both hysteresis
marks clear. -/
abbrev State.ZonesSound (s : State) : Prop :=
  s.zones.length = 8 ∧ ∀ z ∈ s.zones, (z.state = .absent → z = .absentZone) ∧ (z.state ≠ .live →
    z.clean = 0 ∧ z.dry = 0 ∧ z.cleanMark = false ∧ z.dryMark = false)

/-! ### The interlock (chapter 5) -/

/-- R80: while the DOOR inhibit is claimed, the blower output is step 0 and every damper output is 0. -/
abbrev State.DoorLaw (s : State) : Prop :=
  s.inter.inhibits.door = true →
    ∀ r ∈ s.inter.rows, r.kind ≠ .compressor → r.kind ≠ .heater → r.kind ≠ .pump → r.commanded = 0

/-- R82: the compressor or heater output is on only with airflow proven and DOOR, TANK, AIRFLOW, RUN and HALT released. -/
abbrev State.ProofLaw (s : State) : Prop :=
  ∀ r ∈ s.inter.rows, (r.kind = .compressor ∨ r.kind = .heater) → r.commanded ≠ 0 →
    s.inter.proof = true ∧ s.inter.inhibits.door = false ∧ s.inter.inhibits.tank = false ∧
      s.inter.inhibits.airflow = false ∧ s.inter.inhibits.run = false ∧ s.inter.inhibits.halt = false

/-- R83: while the compressor or heater output is on, the blower output is at or above the dry min step. -/
abbrev State.FloorLaw (s : State) : Prop :=
  ∀ r ∈ s.inter.rows, (r.kind = .compressor ∨ r.kind = .heater) → r.commanded ≠ 0 →
    s.param 74 0 ≤ s.inter.output .blower

/-- R82: airflow is proven only while the table has a blower row. -/
abbrev State.ProofHasBlower (s : State) : Prop := s.inter.proof = true → (s.inter.row .blower).isSome

/-- R82, R84: airflow is not proven while the blower-fault latch is set, and the mismatch count is below 3. -/
abbrev State.FaultSound (s : State) : Prop := (s.inter.fault = true → s.inter.proof = false) ∧ s.inter.mismatch ≤ 2

/-- R11, R76, R89: no two rows of the table, those leaving included, are for one destination, function and port. -/
abbrev State.RowsDistinct (s : State) : Prop :=
  ((s.inter.rows ++ s.inter.leaving).map fun r => (r.dst, r.kind.function, r.port)).Nodup

/-! ### Water, cycles, filters, drying (chapters 6–9) -/

/-- R114: while the float record is ASSERTED the tank state is FULL. -/
abbrev State.FloatLaw (s : State) : Prop := s.water.float = true → s.water.state = .full

/-- R114: the estimate lies within 0 and the capacity of the live Tank page, but for the moment between a swap and the Water
Monitor's taking of it; a device without a tank has the estimate 0, and one without live tables no tank kind. -/
abbrev State.TankLaw (s : State) : Prop :=
  (s.banks.live = none → s.water.kind = none) ∧ (s.water.kind ≠ some .tank → s.water.estimate = 0) ∧
    (s.water.estimate ≤ s.param 75 1 ∨ .waterSwapTaken ∈ s.posts)

/-- R142: a fitted stage whose charge is at or above its life is SPENT, and at or above its worn threshold WORN or SPENT, but for
the moment between a swap and the Filter Monitor's taking of it; no stage is fitted without live tables. -/
abbrev State.FilterLaw (s : State) : Prop :=
  (s.banks.live = none → ∀ st, (s.filters.stage st).fitted = false) ∧
    (.filterSwapTaken ∈ s.posts ∨ ∀ st life, (s.filters.stage st).fitted = true →
      life = s.param 76 (8 * Stage.index st + 1) % 256 * 65536 + s.param 76 (8 * Stage.index st + 2) →
      (life ≤ (s.filters.stage st).charge → (s.filters.stage st).state = .spent) ∧
      (life * s.param 76 (8 * Stage.index st + 3) / 100 ≤ (s.filters.stage st).charge →
        (s.filters.stage st).state = .worn ∨ (s.filters.stage st).state = .spent))

/-- The kinds of the cycles present. -/
def CycleEngine.kinds (c : CycleEngine) : List CycleKind :=
  c.queue.map (·.kind) ++ c.running.toList.map (·.kind) ++ c.suspended.toList.map (·.kind)

/-- R129–R131, R133: the step is one of the cycle's kind. -/
def Cycle.stepFits (c : Cycle) : Bool :=
  match c.kind, c.step with
  | .defrost, .melt => true
  | .pumpOut, .prime => true
  | .pumpOut, .drain => true
  | .regen, .heat => true
  | .regen, .purge => true
  | .profile, .settle _ => true
  | .profile, .measure _ => true
  | _, _ => false

/-- R124: each kind at most once across the queue, the running and the suspended place; the queue in priority order;
DEFROST and PUMP-OUT never suspended; the running and the suspended cycle in a step of their kind. -/
abbrev State.CycleLaw (s : State) : Prop :=
  s.cycles.kinds.Nodup ∧
    (s.cycles.queue.map fun c => CycleKind.priority c.kind).Pairwise (· < ·) ∧
    (∀ c ∈ s.cycles.suspended, c.kind = .regen ∨ c.kind = .profile) ∧
    (∀ c ∈ s.cycles.running, c.stepFits = true) ∧ ∀ c ∈ s.cycles.suspended, c.stepFits = true

/-- R102, R104, R144, R146, R149: the bounds of the estimates, the charges, the run sweeps and the derate. -/
abbrev State.EstimatesBounded (s : State) : Prop :=
  s.dry.frost ≤ 1000 ∧ s.dry.saturation ≤ 1000 ∧ 50 ≤ s.filters.derate ∧ s.filters.derate ≤ 100 ∧
    ∀ st ∈ [Stage.pre, .fine, .sorb],
      (s.filters.stage st).charge ≤ 16777215 ∧ (s.filters.stage st).runSweeps ≤ 65535

/-! ### Banks (chapter 10) -/

/-- §10.1: 79 pages in each bank. R157: every page of the LIVE bank is WRITTEN. R165: while a swap is pending, the shadow is COMPLETE and the engine
IDLE, and the loader is not LOADING. -/
abbrev State.BankLaw (s : State) : Prop :=
  s.banks.a.status.length = 79 ∧ s.banks.b.status.length = 79 ∧
  (∀ id ∈ s.banks.live, ∀ p < 79, (s.banks.bank id).status[p]? = some .written) ∧
    (s.banks.swapPending = true →
      (∀ p < 79, s.banks.shadow.status[p]? = some .written) ∧ s.banks.engine = .idle ∧
        s.rc.loader.isLoading = false)

/-- R159, R161, R163, R181: every WRITTEN page of either bank passes validation; so do the built page a commit is writing and the
image the loader is writing; a copy has a live bank; and the loader works with no bank live and the engine IDLE. -/
abbrev State.TablesValid (s : State) : Prop :=
  (∀ id p, p < 79 → (s.banks.bank id).status[p]? = some .written → firstFailure p ((s.banks.bank id).page p) = none) ∧
    (∀ p w, s.banks.engine = .committing p w →
      p < 79 ∧ (w = true → firstFailure p (s.banks.builtPage p) = none)) ∧
    (s.banks.engine = .copying → s.banks.live ≠ none) ∧
    (∀ i p image next, s.rc.loader = .loading (.write i p image next) →
      p < 79 ∧ image.length = 64 ∧ firstFailure p image = none) ∧
    (∀ i p a next, s.rc.loader = .loading (.image i p a next) → p < 79) ∧
    (s.rc.loader.isLoading = true → s.banks.live = none ∧ s.banks.engine = .idle)

/-- Every law above. -/
abbrev State.Laws (s : State) : Prop :=
  s.MemoriesWf ∧ s.QueuesBounded ∧ s.SweepRecordSound ∧ s.AccumulatorsSound ∧ s.ZonesSound ∧ s.DoorLaw ∧ s.ProofLaw ∧
    s.FloorLaw ∧ s.ProofHasBlower ∧ s.FaultSound ∧ s.RowsDistinct ∧ s.FloatLaw ∧ s.TankLaw ∧ s.FilterLaw ∧ s.CycleLaw ∧
    s.EstimatesBounded ∧ s.BankLaw ∧ s.TablesValid

end Sys2Proof.Machine
end

