-- ==== Sys2Proof/Certificates/Slice0/Obligations.lean ====
section
/-! DEFINITION. The statements about the device, for the provers. Operands and states are all the hypotheses name; `s.took c` is
the state once the event c is in flight no more. -/

open Sys2Proof Sys2Proof.Machine

/-! ### The machine as a whole -/

/-- A step with a command at the front of the queue is that command on the queue's rest. The queue is the model's (log 1). -/
def Obligations.StepRunsFrontCommand : Prop :=
  ∀ (c : Instr) (rest : List Instr) (s : State), s.pending = c :: rest → step s = exec c (s.setPending rest)

/-- On an empty queue the device does its own work first (the events in flight, the head request, the port, the expiries that are
due) and lets time pass last: the model's choice (log 1, log 2, log 4). It takes a SOFT RESET with no run being received and no page
completion beside it (log 46). -/
def Obligations.EmptyQueueRunsOwnWork : Prop :=
  ∀ s : State, s.pending = [] →
    (s.held = true → step s = .next s) ∧
    (s.held = false →
      (∀ e es, s.posts = e :: es → step s = exec e s) ∧
      (s.posts = [] →
        (∀ r rest, s.headRequest = some (r, rest) → step s = exec (commandOf s.lines.calEn r) s) ∧
        (s.headRequest = none →
          (s.portWork = true → s.sendingSoft = true → step s = exec (.softResetTaken false false) s) ∧
          (s.portWork = true → s.sendingSoft = false → step s = exec .transmitGrant s) ∧
          (s.portWork = false → (∀ c, s.dueExpiry = some c → step s = exec c s) ∧
            (s.dueExpiry = none → step s = .next s.tick)))))

/-- Every command completes on every state, and no command touches the queue of waiting commands: the queue is the model's
(log 1), and that an expiry without its timer and an event without its subject complete, changing nothing, is the model's choice
(log 5, log 6). -/
def Obligations.EveryCommandCompletes : Prop :=
  ∀ (c : Instr) (s : State), ∃ t, exec c s = .next t ∧ t.pending = s.pending

/-- R9: RST_N low puts every block into its reset state and drops the events in flight, and holds the blocks there (log 7): until a
release or power-on no command changes any block; only the lines follow. A frame on the port is cut off after the words sent so far,
whose number the command gives (log 11). A received run passes to TX, behind the words of a frame that was cut off. -/
def Obligations.ResetLineHoldsEveryBlock : Prop :=
  (∀ (n : Nat) (s : State) (l : Lines),
    (s.ring.port = none → l = s.lines) →
    (∀ p, s.ring.port = some p → l = { s.lines with tx := p.words.take n, txOpen := decide (n < p.words.length) }) →
    exec (.rstNLow n) s = .next { State.atReset l s.free s.pending with posts := [], held := true }) ∧
  ∀ (c : Instr) (s : State), s.held = true → (∀ x, c ≠ .powerOn x) → (∀ x, c ≠ .rstNRelease x) → (∀ n, c ≠ .rstNLow n) →
    ∃ t, exec c s = .next t ∧ t.setLines s.lines = s ∧
      (∀ ws, c = .rxFrame ws →
        t.lines = { s.lines with tx := (if s.lines.txOpen then s.lines.tx else []) ++ ws, txOpen := false }) ∧
      (∀ b, c = .doorLineChange b → t.lines = { s.lines with door := b }) ∧
      (∀ b, c = .floatLineChange b → t.lines = { s.lines with float := b }) ∧
      (∀ b, c = .setupLineChange b → t.lines = { s.lines with setup := b })

/-- One 50 ms unit of time (log 4; the phase of the seconds is the model's, log 58): the sweep timer falls by one; at every twentieth unit the hold timers, the settle timer and
the running cycle's timers fall by one second (a held cycle's step timer does not), none below 0, and the compressor's times rise by
one second up to 1023 (R81); nothing else changes, and nothing is posted. An expiry is due exactly while its running timer stands
at 0, and the compressor's while its limit is reached; the device takes one that is due, and none when none is. -/
def Obligations.TimePassesInUnits : Prop :=
  ∀ s : State,
    s.tick.ring = { s.ring with timer := s.ring.timer.map fun t => t - 1 } ∧
    (s.subTick < 19 → (s.tick.setRing s.ring).setSubTick s.subTick = s ∧ s.tick.subTick = s.subTick + 1) ∧
    (19 ≤ s.subTick →
      s.tick.subTick = 0 ∧
      s.tick.zones = s.zones.map (fun z => { z with
        boost := z.boost.map fun t => t - 1
        window := z.window.map fun t => t - 1 }) ∧
      s.tick.inter = { s.inter with
        settle := s.inter.settle.map (fun t => t - 1)
        clock := match s.inter.clock with
          | .on n => .on (min 1023 (n + 1))
          | .off n => .off (min 1023 (n + 1)) } ∧
      s.tick.cycles = { s.cycles with running := s.cycles.running.map fun c => { c with
        stepTimer := if c.held then c.stepTimer else c.stepTimer.map fun t => t - 1
        cycleTimer := c.cycleTimer.map fun t => t - 1 } } ∧
      ((((s.tick.setRing s.ring).setZones s.zones).setInter s.inter).setCycles s.cycles).setSubTick s.subTick = s) ∧
    (.sweepTimerExpiry ∈ s.due ↔ s.ring.timer = some 0) ∧
    (s.zones.length = 8 → ∀ i : Fin 8,
      (.boostTimerExpiry i ∈ s.due ↔ ∃ z, s.zones[i.val]? = some z ∧ z.boost = some 0) ∧
      (.windowTimerExpiry i ∈ s.due ↔ ∃ z, s.zones[i.val]? = some z ∧ z.window = some 0)) ∧
    (.minOnExpiry ∈ s.due ↔ s.inter.stopHeld = true ∧ s.param 74 1 ≤ s.inter.clock.onTime) ∧
    (.minOffExpiry ∈ s.due ↔
      s.inter.startPending = true ∧ s.inter.proof = true ∧ s.param 74 2 ≤ s.inter.clock.offTime) ∧
    (.stepTimerExpiry ∈ s.due ↔ ∃ c, s.cycles.running = some c ∧ c.held = false ∧ c.stepTimer = some 0) ∧
    (.cycleTimerExpiry ∈ s.due ↔ ∃ c, s.cycles.running = some c ∧ c.cycleTimer = some 0) ∧
    (∀ e, s.dueExpiry = some e → e ∈ s.due) ∧ (s.dueExpiry = none ↔ s.due = [])

/-! ### Resets and lines -/

/-- The full reset (R7, R18, R41, R75, R90, R107, R122, R140, R155, R179, R180): the values the rules' tables give for the blocks
but the Zone Table and the Table Banks, from the lines and straps as they stand, and the posts the blocks make as it completes, in
the order of the chapters (log 37). -/
def Obligations.FullResetGivesTheTables : Prop :=
  ∀ (x : Straps) (s : State), ∃ t, exec (.powerOn x) s = .next t ∧ exec (.rstNRelease x) s = .next t ∧
    t.lines = { s.lines with addr := x.addr, autold := x.autold, txOpen := false } ∧ t.held = false ∧
    t.ring.own = (if 29 < x.addr.toNat then 29 else x.addr.toNat) ∧ t.ring.forward = [] ∧ t.ring.origin = [] ∧
    t.ring.reserved = false ∧ t.ring.slot = none ∧ t.ring.headWait = none ∧ t.ring.port = none ∧ t.ring.nextNumber = 0 ∧
    t.ring.outstanding = none ∧ t.ring.late = 0 ∧ t.ring.timer = none ∧ t.ring.enabled = false ∧
    t.ring.discard = false ∧
    t.trans.marks = List.replicate 32 false ∧ t.trans.night = false ∧ t.trans.defrost = false ∧
    (∀ g, t.trans.gates.get g = false) ∧
    t.trans.accs = List.replicate 4 { held := none, sum := 0, saturated := false } ∧
    t.alloc = { record := none, order := [], ages := List.replicate 8 0, door := s.lines.door } ∧
    t.inter.rows = [] ∧ t.inter.leaving = [] ∧ t.inter.inhibits.door = s.lines.door ∧ t.inter.inhibits.tank = false ∧
    t.inter.inhibits.airflow = false ∧ t.inter.inhibits.run = false ∧ t.inter.inhibits.halt = false ∧
    t.inter.inhibits.pump = false ∧ t.inter.proof = false ∧ t.inter.mismatch = 0 ∧ t.inter.settle = none ∧
    t.inter.fault = false ∧ t.inter.clock = .off 0 ∧ t.inter.heldBlower = none ∧ t.inter.heldComp = none ∧
    t.inter.heldHeater = none ∧
    t.dry = { state := .off, want := false, method := none, next := none, compOn := false, heaterOn := false,
              frost := 0, saturation := 0 } ∧
    t.water.kind = none ∧ t.water.state = (if s.lines.float then .full else .unknown) ∧ t.water.estimate = 0 ∧
    t.water.known = false ∧ t.water.certain = false ∧ t.water.probe = none ∧ t.water.float = s.lines.float ∧
    t.water.removed = false ∧ t.water.pumpFault = false ∧
    t.cycles.queue = [] ∧ t.cycles.running = none ∧ t.cycles.suspended = none ∧
    (∀ k, t.cycles.record k = { outcome := .none, endSweep := none, completed := 0 }) ∧ t.cycles.door = s.lines.door ∧
    t.cycles.level = .unconfigured ∧ t.cycles.tankHold = true ∧
    (∀ st, t.filters.stage st = { fitted := false, state := .fresh, charge := 0, verdict := .none, baseline := none,
                                  last := none, doorOpened := false, runSweeps := 0 }) ∧
    t.filters.door = s.lines.door ∧ t.filters.derate = 100 ∧ t.filters.baselineReq = true ∧
    t.mu.queue = [] ∧ t.mu.flags = 0#16 ∧ t.mu.conditions = 0#16 ∧ t.mu.level = .unconfigured ∧
    t.mu.maskFlags = 0x807F#16 ∧ t.mu.maskConditions = 0x03FF#16 ∧ t.mu.owed = false ∧
    t.rc.level = .unconfigured ∧ t.rc.wake = false ∧ t.rc.autold = x.autold ∧
    t.rc.loader = (if x.autold then .loading .header else .notRun) ∧
    t.posts = [.conditionPost .doorOpen s.lines.door, .inhibitClaim .tank] ++
      (if s.lines.float then [.conditionPost .tankFull true] else []) ++
      [.muRunLevelChange .unconfigured, .conditionPost .unconfigured true]

/-- R56: after a full reset all eight zones are absent and fresh, and nothing is posted for them; a zone gains its head from the
first swap (R55). -/
def Obligations.ZoneTableAfterFullReset : Prop :=
  (∀ (x : Straps) (s : State), ∃ t, exec (.powerOn x) s = .next t ∧ exec (.rstNRelease x) s = .next t ∧
    t.banks.live = none ∧ t.zones.length = 8 ∧
    (∀ z ∈ t.zones, z.state = .absent ∧ z.head = none ∧ z.boost = none ∧ z.window = none ∧ z.stored = false ∧
      z.lastSweep = none ∧ z.missed = 0 ∧ z.cleanMark = false ∧ z.dryMark = false ∧ z.clean = 0 ∧ z.dry = 0 ∧
      ∀ f, z.readings.get f = { value := 0, quality := .none }) ∧
    (∀ n, .zoneReview n ∉ t.posts)) ∧
  (∀ (s : State) (i a : Nat), s.held = false → i < 8 → s.zones = List.replicate 8 .absentZone →
    s.banks.headOf i = some a →
    ∃ t, exec .zoneSwapTaken s = .next t ∧ (t.zone i).state = .waiting ∧ (t.zone i).head = some a)

/-- R169: the Table Banks after a full reset; the loader's success makes bank A live with stamp 1. -/
def Obligations.TableBanksAfterFullReset : Prop :=
  (∀ (x : Straps) (s : State), ∃ t, exec (.powerOn x) s = .next t ∧ exec (.rstNRelease x) s = .next t ∧
    t.banks.live = none ∧ t.banks.generation = 0 ∧ t.banks.a.stamp = none ∧ t.banks.b.stamp = none ∧
    (∀ id, (t.banks.bank id).mem = [] ∧ (t.banks.bank id).status = List.replicate 79 .empty) ∧
    (∀ o, t.banks.staging.read o = 0#16) ∧ t.banks.marks = List.replicate 64 false ∧ t.banks.engine = .idle ∧
    t.banks.progress = 0 ∧ t.banks.swapPending = false ∧ t.banks.record = none ∧
    t.rc.loader = (if x.autold then .loading .header else .notRun)) ∧
  (∀ (s : State) (i p : Nat) (image : List Word), s.held = false → s.banks.live = none → s.banks.generation = 0 →
    s.rc.loader = .loading (.write i p image 0#16) →
    (s.banks.a.putPage p image .written).complete = true →
    (s.banks.a.putPage p image .written).swapCheck s.ring.own = true →
    ∃ t, exec .loaderWriteComplete s = .next t ∧ t.banks.live = some .a ∧ t.banks.generation = 1 ∧
      t.banks.a.stamp = some 1 ∧ t.rc.loader = .loaded)

/-- R72, R80, R138, R150: a change of the DOOR line reaches the interlock, the allocator, the Cycle Engine and the Filter
Monitor; with the door open the blower and every damper are at 0 and no cycle but PUMP-OUT is present: a running or a suspended
one ended ABORTED(DOOR), a queued one CANCELLED; every fitted stage that is WORN or SPENT has its door-opened mark set. A closing
door ends nothing. -/
def Obligations.DoorLineReachesFourBlocks : Prop :=
  ∀ (b : Bool) (s : State), s.held = false → s.lines.door = !b → s.DoorLaw →
    ∃ t, exec (.doorLineChange b) s = .next t ∧ t.lines = { s.lines with door := b } ∧
      t.inter.inhibits = { s.inter.inhibits with door := b } ∧ t.alloc = { s.alloc with door := b } ∧
      t.cycles.door = b ∧ t.filters.door = b ∧ .conditionPost .doorOpen b ∈ t.posts ∧
      (b = true → t.DoorLaw ∧ (∀ k ∈ t.cycles.kinds, k = .pumpOut)) ∧
      (b = true → s.CycleLaw →
        (∀ c, s.cycles.running = some c ∨ s.cycles.suspended = some c → c.kind ≠ .pumpOut → t.cycles.record c.kind =
          { outcome := .aborted .door, endSweep := s.ring.lastBegin, completed := c.completed }) ∧
        (∀ c ∈ s.cycles.queue, c.kind ≠ .pumpOut → t.cycles.record c.kind =
          { outcome := .cancelled, endSweep := s.ring.lastBegin, completed := c.completed }) ∧
        (∀ c, s.cycles.running = some c → c.kind ≠ .pumpOut → .planRelease ∈ t.posts) ∧
        (∀ c, s.cycles.running = some c → c.kind = .pumpOut → t.cycles.running = some c)) ∧
      (b = false → t.cycles = { s.cycles with door := false }) ∧
      (∀ st x, x = s.filters.stage st → t.filters.stage st = { x with doorOpened :=
        x.doorOpened || (b && !s.filters.door && x.fitted && (x.state == .worn || x.state == .spent)) }) ∧
      t.zones = s.zones ∧ t.trans = s.trans ∧ t.dry = s.dry ∧ t.water = s.water ∧ t.banks = s.banks ∧ t.mu = s.mu ∧
      t.rc = s.rc

/-- R112, R117: a change of the FLOAT line sets the float record; raised, the state is FULL at once, and a tank's estimate is at
least the full mark. A line that matches the record changes no record (log 36). A tank report is posted last in either case. -/
def Obligations.FloatLineForcesFull : Prop :=
  ∀ (b : Bool) (s : State), s.held = false → ∃ t r, exec (.floatLineChange b) s = .next t ∧
    t.lines = { s.lines with float := b } ∧ t.water.float = b ∧
    (s.water.float ≠ b → b = true → t.water.state = .full ∧
      t.water.estimate = (if s.water.kind = some .tank then max s.water.estimate (s.param 75 4) else s.water.estimate)) ∧
    (s.water.float ≠ b → b = false → t.water.estimate = s.water.estimate ∧
      t.water.state = ({ s.water with float := false }).evaluate s.tankPage) ∧
    (s.water.float = b → t.water = s.water) ∧
    t.posts.getLast? = some (.tankReport r) ∧ r.state = t.water.state ∧ r.estimate = t.water.estimate ∧
    r.known = t.water.known ∧ r.certain = t.water.certain ∧ r.probe = none ∧
    ((t.setWater s.water).setLines s.lines).setPosts s.posts = s

/-! ### The ring (chapter 1) -/

/-- R1, R2, R4 steps 1 and 2, R19: a run that is no well-formed frame sets FRAME-ERR, one whose CHECK differs sets RING-CRC, one from
address 31 sets FRAME-ERR; nothing else changes. The
run that was being received at a SOFT RESET is discarded without a flag. A frame the device builds is well-formed with its CHECK right. -/
def Obligations.FaultyRunsAreDiscarded : Prop :=
  (∀ (ws : List Word) (s : State), s.held = false → s.ring.discard = true →
    exec (.rxFrame ws) s = .next ((s.took (.rxFrame ws)).setRing { s.ring with discard := false })) ∧
  (∀ (ws : List Word) (s : State), s.held = false → s.ring.discard = false →
    (¬ (3 ≤ ws.length ∧ ws.length ≤ 11 ∧ bits (ws.getD 1 0#16) 0 4 ≤ 8 ∧ ws.length = bits (ws.getD 1 0#16) 0 4 + 3) →
      exec (.rxFrame ws) s = .next ((s.took (.rxFrame ws)).claimFlag .frameErr)) ∧
    (3 ≤ ws.length ∧ ws.length ≤ 11 ∧ bits (ws.getD 1 0#16) 0 4 ≤ 8 ∧ ws.length = bits (ws.getD 1 0#16) 0 4 + 3 →
      (ws.getLast? ≠ some (check ws.dropLast) → exec (.rxFrame ws) s = .next ((s.took (.rxFrame ws)).claimFlag .ringCrc)) ∧
      (ws.getLast? = some (check ws.dropLast) → bits (ws.getD 0 0#16) 0 5 = 31 →
        exec (.rxFrame ws) s = .next ((s.took (.rxFrame ws)).claimFlag .frameErr)))) ∧
  (∀ (dst src kind : Nat) (payload : List Word), dst < 32 → src < 32 → kind < 16 → payload.length ≤ 8 →
    wellFormedRun (frameWords dst src kind payload) = true ∧ checkOk (frameWords dst src kind payload) = true ∧
    parseFrame (frameWords dst src kind payload) = { dst := dst, src := src, kind := kind, payload := payload })

/-- R4 steps 3, 4, 6 and 7, R6, R10, R17: where a frame that passed R1 and R2 goes. `f` is the frame's fields, `u` the state once
it was taken. Two points are the model's: the BUSY answer to an MREQ with LEN 0 echoes 0000h (log 47), and a returned POLL without a
payload word closes nothing (log 38). -/
def Obligations.RoutingTakesTheFirstStepThatFits : Prop :=
  ∀ (ws : List Word) (s : State) (f : Frame) (u : State), s.held = false → s.ring.discard = false →
    wellFormedRun ws = true → checkOk ws = true →
    f = parseFrame ws → u = s.took (.rxFrame ws) → f.src ≠ 31 →
    (f.src = s.answering → f.kind ≠ 1 → exec (.rxFrame ws) s = .next u) ∧
    (f.src = s.answering → f.kind = 1 →
      (∀ n, s.ring.outstanding = some n → f.pollNumber = some n →
        exec (.rxFrame ws) s =
          .next ((u.setRing { s.ring with outstanding := none, late := 0 }).post [.sweepClose n true])) ∧
      ((∀ n, s.ring.outstanding = some n → f.pollNumber ≠ some n) → exec (.rxFrame ws) s = .next u)) ∧
    (f.src ≠ s.answering → f.dst = s.answering →
      (f.kind ≠ 4 → exec (.rxFrame ws) s = .next (u.claimFlag .frameErr)) ∧
      (f.kind = 4 →
        (s.mu.queue.length < 8 →
          exec (.rxFrame ws) s =
            .next (u.setMu { s.mu with queue := s.mu.queue ++ [{ src := f.src, payload := f.payload }] })) ∧
        (8 ≤ s.mu.queue.length → s.ring.placeFree = true →
          exec (.rxFrame ws) s =
            .next (u.setRing (s.ring.join (.mrsp f.src s.answering [f.payload.headD 0#16, 0x0200#16] false)))) ∧
        (8 ≤ s.mu.queue.length → s.ring.placeFree = false → exec (.rxFrame ws) s = .next (u.claimFlag .ringOvf)))) ∧
    (f.src ≠ s.answering → f.dst ≠ s.answering →
      (f.kind = 2 → f.payload.length = 0 ∨ f.payload.length % 2 = 1 →
        exec (.rxFrame ws) s = .next ((u.forward ws).claimFlag .frameErr)) ∧
      (f.kind ≠ 2 ∨ f.dst ≠ 31 ∧ f.payload.length % 2 = 0 ∧ f.payload.length ≠ 0 →
        exec (.rxFrame ws) s = .next (u.forward ws)))

/-- R12, R13, R14: the arbiter: the POLL first; then the head of the Forward Queue, unless the head of the Origin Queue has waited
through as many forwarded frames as the grant distance; then the queue that holds a frame. The port takes the frame whole.
A grant of the Origin Queue frees a place (R12), which is offered to the dirty rows and the owed NOTE (log 23). -/
def Obligations.ArbiterGrantsByWaitCount : Prop :=
  ∀ s : State, s.held = false → s.sendingSoft = false →
    (∀ p, s.ring.slot = some p → ∃ t, exec .transmitGrant s = .next t ∧
      t.ring = { s.ring with slot := none, port := some { words := p.words, soft := false } } ∧ t.lines.tx = p.words ∧
      t.posts = s.posts.erase .transmitGrant) ∧
    (s.ring.slot = none →
      (∀ ws rest, s.ring.forward = ws :: rest →
        s.ring.origin = [] ∨ s.ring.headWait.getD 0 < (if s.isLive then s.param 78 2 else 4) →
        ∃ t, exec .transmitGrant s = .next t ∧
          t.ring = { s.ring with forward := rest, headWait := s.ring.headWait.map (· + 1),
                                 port := some { words := ws, soft := false } } ∧ t.lines.tx = ws ∧
          t.posts = s.posts.erase .transmitGrant) ∧
      (∀ f rest, s.ring.origin = f :: rest →
        s.ring.forward = [] ∨ (if s.isLive then s.param 78 2 else 4) ≤ s.ring.headWait.getD 0 →
        ∃ t, exec .transmitGrant s = .next t ∧
          t.ring = { s.ring with origin := rest, headWait := if rest = [] then none else some 0,
                                 port := some { words := f.words, soft := f.isSoft } } ∧ t.lines.tx = f.words ∧
          t.posts = s.posts.erase .transmitGrant ++
            (if (∃ r ∈ s.inter.rows ++ s.inter.leaving, r.dirty = true) then [.dirtyRowOffer] else []) ++
            (if s.mu.owed then [.noteOwedOffer] else [])) ∧
      (s.ring.forward = [] → s.ring.origin = [] → ∃ t, exec .transmitGrant s = .next t ∧
        t.ring = { s.ring with port := none } ∧ t.lines = s.lines)) ∧
    (∀ t, exec .transmitGrant s = .next t → ((t.setRing s.ring).setLines s.lines).setPosts s.posts = s)

/-- R16: an expiry of the running sweep timer: with no POLL outstanding the next one is originated; with one outstanding the
first two expiries raise the late count; the third closes the sweep LOST and originates the next. A LOST close is taken like a
COMPLETE one. -/
def Obligations.SweepExpiryOriginatesOrCounts : Prop :=
  ∀ (s u : State) (period : Nat), s.held = false → s.ring.timer.isSome = true → u = s.took .sweepTimerExpiry →
    period = s.param 78 0 * (if s.ring.level = .watch then s.param 78 1 else 1) →
    (s.ring.outstanding = none →
      exec .sweepTimerExpiry s = .next ((u.setRing { s.ring with
        slot := some { src := s.answering, number := s.ring.nextNumber, watch := s.ring.level == .watch }
        outstanding := some s.ring.nextNumber, late := 0, nextNumber := (s.ring.nextNumber + 1) % 256
        timer := some period, lastBegin := some s.ring.nextNumber }).post
          [.banksSweepBegin s.ring.nextNumber, .interlockSweepBegin s.ring.nextNumber])) ∧
    (∀ n, s.ring.outstanding = some n → s.ring.late < 2 →
      exec .sweepTimerExpiry s = .next (u.setRing { s.ring with late := s.ring.late + 1, timer := some period })) ∧
    (∀ n, s.ring.outstanding = some n → 2 ≤ s.ring.late →
      exec .sweepTimerExpiry s = .next ((u.setRing { s.ring with
        slot := some { src := s.answering, number := s.ring.nextNumber, watch := s.ring.level == .watch }
        outstanding := some s.ring.nextNumber, late := 0, nextNumber := (s.ring.nextNumber + 1) % 256
        timer := some period, lastBegin := some s.ring.nextNumber }).post
          [.sweepClose n false, .banksSweepBegin s.ring.nextNumber, .interlockSweepBegin s.ring.nextNumber])) ∧
    (∀ n, ∃ v w, exec (.sweepClose n false) s = .next v ∧ exec (.sweepClose n true) s = .next w ∧ v.zones = w.zones ∧
      .zoneReview n ∈ v.posts ∧ .zoneReview n ∈ w.posts)

/-- R8, R15: a run level posted to the Ring Interface, or a swap, enables sweeps when a bank is live, the level is ACTIVE or WATCH
and SETUP is low, starting the timer with one full period, and disables them otherwise. SETUP sets the answering address, and sweeps
follow it: high stops them, removes the POLL, clears the outstanding mark and the late count, and posts the disabling to the Table
Banks (R166); low starts the timer. Where it does not change them, the ring stands and nothing is posted. -/
def Obligations.LevelSwapAndSetupRuleSweeps : Prop :=
  (∀ (s u v : State) (l : RunLevel) (on : Bool), s.held = false →
     u = (s.took (.ringRunLevelChange l)).setRing { s.ring with level := l } → v = s.took .ringSwapTaken →
     (on = true ↔ s.isLive = true ∧ (l = .active ∨ l = .watch) ∧ s.lines.setup = false) →
     (on = s.ring.enabled → exec (.ringRunLevelChange l) s = .next u) ∧
     (on = true → s.ring.enabled = false → exec (.ringRunLevelChange l) s = .next (u.setRing { s.ring with
       level := l, enabled := true, timer := some (s.param 78 0 * (if l = .watch then s.param 78 1 else 1)) })) ∧
     (on = false → s.ring.enabled = true → exec (.ringRunLevelChange l) s = .next ((u.setRing { s.ring with
       level := l, enabled := false, timer := none, slot := none, outstanding := none, late := 0 }).post [.sweepsDisabled])) ∧
     (l = s.ring.level →
       (on = s.ring.enabled → exec .ringSwapTaken s = .next v) ∧
       (on = true → s.ring.enabled = false → exec .ringSwapTaken s = .next (v.setRing { s.ring with
         enabled := true, timer := some (s.param 78 0 * (if l = .watch then s.param 78 1 else 1)) })) ∧
       (on = false → s.ring.enabled = true → exec .ringSwapTaken s = .next ((v.setRing { s.ring with
         enabled := false, timer := none, slot := none, outstanding := none, late := 0 }).post [.sweepsDisabled])))) ∧
  (∀ (b : Bool) (s : State), s.held = false → ∃ t, exec (.setupLineChange b) s = .next t ∧
     t.lines = { s.lines with setup := b } ∧ t.answering = (if b then 30 else s.ring.own) ∧
     (b = true → s.ring.enabled = true →
       t.ring = { s.ring with enabled := false, timer := none, slot := none, outstanding := none, late := 0 } ∧
         t.posts = s.posts.erase (.setupLineChange b) ++ [.sweepsDisabled]) ∧
     (b = true → s.ring.enabled = false → t.ring = s.ring) ∧
     (b = false → s.isLive = true → (s.ring.level = .active ∨ s.ring.level = .watch) → s.ring.enabled = true →
       t.ring = s.ring) ∧
     (b = false → ¬ (s.isLive = true ∧ (s.ring.level = .active ∨ s.ring.level = .watch)) → s.ring.enabled = false →
       t.ring = s.ring) ∧
     (s.ring.enabled = false ∨ b = false ∧ s.isLive = true ∧ (s.ring.level = .active ∨ s.ring.level = .watch) →
       t.posts = s.posts.erase (.setupLineChange b)) ∧
     (b = false → s.ring.enabled = false → s.isLive = true → (s.ring.level = .active ∨ s.ring.level = .watch) →
       t.ring = { s.ring with
         enabled := true
         timer := some (if s.ring.level = .watch then s.param 78 0 * s.param 78 1 else s.param 78 0) }) ∧
     (t.setRing s.ring).setLines s.lines = s.setPosts t.posts)

/-- R11, R12, R87, R89, R177: an offer of the dirty rows completes on every state, whatever the rows, and changes only the rows and
the Origin Queue. With rows for distinct outputs, each dirty row's ACT stands in the Origin Queue with the row's commanded output and
the row is clean, or the queue has neither a place nor an ACT to merge with and the row stays as it was: no command is lost. A
leaving row goes once its ACT is taken. The owed NOTE is built from the record when it is offered; it replaces the queued NOTE's
content or takes a free place, and the mark clears; with neither it waits. -/
def Obligations.WaitingRowsAndOwedNoteAreOffered : Prop :=
  (∀ (s : State), s.held = false → ∃ t, exec .dirtyRowOffer s = .next t ∧
     t.inter.rows.map (fun r => { r with dirty := false, lastSent := none }) =
       s.inter.rows.map (fun r => { r with dirty := false, lastSent := none }) ∧
     (∀ r ∈ t.inter.rows ++ t.inter.leaving, r.dirty = true →
       t.ring.placeFree = false ∧ t.ring.hasAct r.dst r.kind.function r.port = false) ∧
     (s.RowsDistinct →
       (∀ r ∈ s.inter.rows, r.dirty = true →
         { r with dirty := false, lastSent := s.ring.lastBegin } ∈ t.inter.rows ∧
           (∃ a, .act r.dst a r.kind.function r.port r.commanded ∈ t.ring.origin) ∨
         r ∈ t.inter.rows ∧ t.ring.placeFree = false) ∧
       (∀ r ∈ s.inter.leaving, r.dirty = true →
         (∃ a, .act r.dst a r.kind.function r.port r.commanded ∈ t.ring.origin) ∨
         r ∈ t.inter.leaving ∧ t.ring.placeFree = false)) ∧
     (∀ r ∈ s.inter.rows, r.dirty = false → r ∈ t.inter.rows) ∧
     (∀ r, s.inter.leaving = [] → s.inter.rows = [r] → r.dirty = true → s.ring.placeFree = true →
       s.ring.hasAct r.dst r.kind.function r.port = false →
       t.ring.origin = s.ring.origin ++ [.act r.dst s.answering r.kind.function r.port r.commanded] ∧
       t.inter.rows = [{ r with dirty := false, lastSent := s.ring.lastBegin }]) ∧
     { t.ring with origin := s.ring.origin, headWait := s.ring.headWait } = s.ring ∧
     { t.inter with rows := s.inter.rows, leaving := s.inter.leaving } = s.inter ∧
     (t.setRing s.ring).setInter s.inter = s.took .dirtyRowOffer) ∧
  (∀ (s u : State), s.held = false → u = s.took .noteOwedOffer →
     (s.mu.owed = false → exec .noteOwedOffer s = .next u) ∧
     (s.mu.owed = true → s.ring.hasNote = false → s.ring.placeFree = true →
       exec .noteOwedOffer s = .next ((u.setRing (s.ring.join (.note (if s.isLive then s.param 78 3 else 31) s.answering
         s.mu.flags s.mu.conditions s.mu.level))).setMu { s.mu with owed := false })) ∧
     (s.mu.owed = true → s.ring.hasNote = false → s.ring.placeFree = false → exec .noteOwedOffer s = .next u) ∧
     (s.mu.owed = true → s.ring.hasNote = true → ∃ t, exec .noteOwedOffer s = .next t ∧ t.mu = { s.mu with owed := false } ∧
       t.ring.origin.length = s.ring.origin.length ∧
       (∀ f ∈ t.ring.origin, f.isNote = true → ∃ d a, f = .note d a s.mu.flags s.mu.conditions s.mu.level) ∧
       (t.setRing s.ring).setMu s.mu = u))

/-! ### Sample translation (chapter 2) -/

/-- R21: the DEFROST flag follows the Cycle Engine; a change posts "regime changed", no change posts nothing. R31, R32, R36: the
gate record follows the outputs and REGEN. A gate that turns true opens the CLOSED accumulators whose
live definition names it; one that turns false closes those that hold it and posts their sums above 0, in index order. -/
def Obligations.RegimeAndGatesFollowTheirEvents : Prop :=
  (∀ s : State, s.held = false →
    (s.trans.defrost = false → exec .defrostRegimeSet s =
      .next (((s.took .defrostRegimeSet).setTrans { s.trans with defrost := true }).post [.regimeChanged])) ∧
    (s.trans.defrost = true → exec .defrostRegimeSet s = .next (s.took .defrostRegimeSet)) ∧
    (s.trans.defrost = true → exec .defrostRegimeClear s =
      .next (((s.took .defrostRegimeClear).setTrans { s.trans with defrost := false }).post [.regimeChanged])) ∧
    (s.trans.defrost = false → exec .defrostRegimeClear s = .next (s.took .defrostRegimeClear))) ∧
  ∀ (c : Instr) (g : Gate) (truth : Bool) (s u : State), s.held = false → u = s.took c →
    (c = .translatorOutputChanged .compressor (flag truth) ∧ g = .compressor ∨
     (∃ v, c = .translatorOutputChanged .heater v ∧ g = .heater ∧ truth = decide (v ≠ 0)) ∨
     c = .translatorOutputChanged .pump (flag truth) ∧ g = .pump ∨
     c = .regenActive ∧ g = .regen ∧ truth = true ∨ c = .regenInactive ∧ g = .regen ∧ truth = false) →
    (s.trans.gates.get g = truth → exec c s = .next u) ∧
    (s.trans.gates.get g ≠ truth → ∃ t, exec c s = .next t ∧
      (∀ h, t.trans.gates.get h = if h = g then truth else s.trans.gates.get h) ∧
      (∀ (k : Nat) (a : Acc), s.trans.accs[k]? = some a →
        (truth = true → a.held = none → (s.accDef k).gate = g →
          t.trans.accs[k]? = some { held := some (s.accDef k), sum := 0, saturated := false }) ∧
        (truth = true → ¬ (a.held = none ∧ (s.accDef k).gate = g) → t.trans.accs[k]? = some a) ∧
        (truth = false → (∃ d, a.held = some d ∧ d.gate = g) →
          t.trans.accs[k]? = some { held := none, sum := 0, saturated := false }) ∧
        (truth = false → (∀ d, a.held = some d → d.gate ≠ g) → t.trans.accs[k]? = some a)) ∧
      t.posts = u.posts ++ (if truth then [] else s.trans.accs.flatMap fun a =>
        match a.held with
        | none => []
        | some d => if d.gate = g ∧ 0 < a.sum then
            [if d.removal then .removal a.sum a.saturated else .deposit a.sum a.saturated] else []) ∧
      t.trans.marks = s.trans.marks ∧ t.trans.night = s.trans.night ∧ t.trans.defrost = s.trans.defrost ∧
      (t.setTrans s.trans).setPosts s.posts = s)

/-- R26, R47, R48: scaling: multiply, divide by 256 toward zero, add the offset, hold within the entry's bounds and then within the
unit range, whichever clamp acts; CLAMPED when a clamp changed the value, else GOOD. The curve value of a GOOD reading x over target T and span S: 0 at or
below T, 100 at or above T + S, else 100 × (x − T) ÷ S with the fraction discarded; 0 for a reading of quality NONE or FAULT. -/
def Obligations.ScaledAndCurveValues : Prop :=
  (∀ (e : Scale) (lo hi : Int) (raw : Nat) (v q : Int), e.low ≤ e.high → lo ≤ hi →
     (0 ≤ (raw : Int) * e.gain → 256 * q ≤ raw * e.gain ∧ raw * e.gain < 256 * q + 256) →
     ((raw : Int) * e.gain < 0 → raw * e.gain ≤ 256 * q ∧ 256 * q - 256 < raw * e.gain) →
     v = q + e.offset →
     lo ≤ (e.apply (lo, hi) raw).1 ∧ (e.apply (lo, hi) raw).1 ≤ hi ∧
     (e.low ≤ v → v ≤ e.high → lo ≤ v → v ≤ hi → e.apply (lo, hi) raw = (v, .good)) ∧
     (¬ (e.low ≤ v ∧ v ≤ e.high ∧ lo ≤ v ∧ v ≤ hi) → (e.apply (lo, hi) raw).2 = .clamped) ∧
     (v < e.low → lo ≤ e.low → e.low ≤ hi → (e.apply (lo, hi) raw).1 = e.low) ∧
     (e.high < v → lo ≤ e.high → e.high ≤ hi → (e.apply (lo, hi) raw).1 = e.high) ∧
     (∀ c : Int, c = (if v < e.low then e.low else if e.high < v then e.high else v) →
       (e.apply (lo, hi) raw).1 = (if c < lo then lo else if hi < c then hi else c))) ∧
  (∀ (x : Int) (target span : Nat),
     (x ≤ target → curveValue { value := x, quality := .good } target span = 0) ∧
     (target < x → (target : Int) + span ≤ x → curveValue { value := x, quality := .good } target span = 100) ∧
     (target < x → x < (target : Int) + span → ∀ q : Nat, q * span ≤ 100 * (x - target).toNat →
       100 * (x - target).toNat < (q + 1) * span → curveValue { value := x, quality := .good } target span = q) ∧
     curveValue { value := x, quality := .none } target span = 0 ∧
     curveValue { value := x, quality := .fault } target span = 0)

/-- R5, R10, R23, R24: a broadcast SAMPLE of one to four pairs is forwarded untranslated while no bank is live or SETUP is high;
otherwise it is translated, and forwarded unless absorbed. Translation takes the pairs in order; a frame from an unmapped source is
not translated and sets UNMAPPED-SRC; a pair whose channel word is bad takes no action, sets FRAME-ERR and consumes the mark; with it
the frame is PASS. A forwarded frame joins the tail, or is discarded with RING-OVF when 16 are queued. -/
def Obligations.BroadcastSamplesAreTranslated : Prop :=
  ((∀ (s : State) (f : Frame), (s.banks.liveNode f.src).mapped = false →
     s.translate f = (s.post [.flagSetClaim .unmappedSrc], false)) ∧
   (∀ (s : State) (f : Frame) (e : NodeEntry) (boost : Bool), e = s.banks.liveNode f.src → e.mapped = true →
     boost = (match e.sourceZone with
       | some z => (s.zone z).boost.isSome
       | none => false) →
     ∀ (p0 : Pairs) (Take : Pairs → Word → Word → Pairs), p0 = { s := s, boost := boost, absorbed := true } →
     (∀ p c v, Take p c v = Pairs.take f.src e p (c, v)) →
     (∀ c v p, f.payload = [c, v] → p = Take p0 c v → s.translate f = (p.s, p.absorbed)) ∧
     (∀ c1 v1 c2 v2 p, f.payload = [c1, v1, c2, v2] → p = Take (Take p0 c1 v1) c2 v2 →
       s.translate f = (p.s, p.absorbed)) ∧
     (∀ c1 v1 c2 v2 c3 v3 p, f.payload = [c1, v1, c2, v2, c3, v3] → p = Take (Take (Take p0 c1 v1) c2 v2) c3 v3 →
       s.translate f = (p.s, p.absorbed)) ∧
     (∀ c1 v1 c2 v2 c3 v3 c4 v4 p, f.payload = [c1, v1, c2, v2, c3, v3, c4, v4] →
       p = Take (Take (Take (Take p0 c1 v1) c2 v2) c3 v3) c4 v4 → s.translate f = (p.s, p.absorbed))) ∧
   (∀ (src : Nat) (e : NodeEntry) (p : Pairs) (ch raw : Word), bits ch 6 10 ≠ 0 →
     (Pairs.take src e p (ch, raw)).absorbed = false ∧ (Pairs.take src e p (ch, raw)).boost = p.boost ∧
       (Pairs.take src e p (ch, raw)).s = (p.s.setMark src false).post [.flagSetClaim .frameErr])) ∧
  ((∀ (ws : List Word) (s : State) (f : Frame) (u : State), s.held = false → s.ring.discard = false →
     wellFormedRun ws = true → checkOk ws = true → f = parseFrame ws → u = s.took (.rxFrame ws) → f.src ≠ 31 →
     f.src ≠ s.answering → f.dst = 31 → f.kind = 2 →
     f.payload.length % 2 = 0 → f.payload.length ≠ 0 → s.answering ≠ 31 →
     (s.isLive = false ∨ s.lines.setup = true → exec (.rxFrame ws) s = .next (u.forward ws)) ∧
     (s.isLive = true → s.lines.setup = false →
       ((u.translate f).2 = true → exec (.rxFrame ws) s = .next (u.translate f).1) ∧
       ((u.translate f).2 = false → exec (.rxFrame ws) s = .next ((u.translate f).1.forward ws)))) ∧
   (∀ (ws : List Word) (u : State),
     (u.ring.forward.length < 16 → u.forward ws = u.setRing { u.ring with forward := u.ring.forward ++ [ws] }) ∧
     (16 ≤ u.ring.forward.length → u.forward ws = u.post [.flagSetClaim .ringOvf])))

/-- R20, R22, R24, R25, R33–R35, R38–R40: one pair whose entry w is no STORE. The entry is read in the page of the source's mark,
which is consumed, and in the effective column. `u` is the state with the mark consumed, `q` what the pair comes to. -/
def Obligations.FlowAndSpecialPairs : Prop :=
  ∀ (src : Nat) (e : NodeEntry) (p q : Pairs) (ch raw w : Word) (u : State), bits ch 6 10 = 0 →
    u = p.s.setMark src false → q = Pairs.take src e p (ch, raw) →
    w = p.s.banks.liveWord (8 * e.cls + 4 * flag (p.s.trans.marks.getD src false) + bits ch 0 6 / 16)
      (4 * (bits ch 0 6 % 16) +
        (if p.s.trans.defrost then 3 else if p.boost then 2 else if p.s.trans.night then 1 else 0)) →
    q.absorbed = (p.absorbed && !bit w 15 && bit w 12) ∧
    (bit w 15 = true ∨ bits w 13 2 = 0 → q.s = u ∧ q.boost = p.boost) ∧
    (bit w 15 = false → bits w 13 2 = 2 → bits w 6 5 < 4 → q.boost = p.boost ∧
      (raw = 0xFFFF#16 → q.s = u.post [.uncertain]) ∧
      (raw ≠ 0xFFFF#16 → ∀ v : Nat, (v : Int) = ((u.scale (bits w 0 6)).apply (0, 65535) raw.toNat).1 →
        ((u.acc (bits w 6 5)).held = none → v = 0 → q.s = u) ∧
        ((u.acc (bits w 6 5)).held = none → 0 < v → q.s =
          u.post [if (u.accDef (bits w 6 5)).removal then .removal v false else .deposit v false]) ∧
        ((u.acc (bits w 6 5)).held ≠ none → q.s.posts = u.posts ∧
          (q.s.acc (bits w 6 5)).sum = min ((u.acc (bits w 6 5)).sum + v) 65535 ∧
          (q.s.acc (bits w 6 5)).held = (u.acc (bits w 6 5)).held ∧
          (q.s.acc (bits w 6 5)).saturated =
            ((u.acc (bits w 6 5)).saturated || decide (65535 < (u.acc (bits w 6 5)).sum + v)) ∧
          (∀ k, k ≠ bits w 6 5 → q.s.acc k = u.acc k) ∧ q.s.setTrans u.trans = u))) ∧
    (bit w 15 = false → bits w 13 2 = 3 →
      (bits w 6 5 = 0 → q.s = u.setMark src true ∧ q.boost = p.boost) ∧
      (∀ z, e.cls = 2 → e.zone = some z →
        (bits w 6 5 = 1 → q.s = u.post [.boostToggle (Fin.ofNat 8 z)] ∧ q.boost = !p.boost) ∧
        (bits w 6 5 = 2 → q.s = u.post [.windowOpen (Fin.ofNat 8 z)] ∧ q.boost = p.boost) ∧
        (bits w 6 5 = 3 → q.s = u.post [.windowShut (Fin.ofNat 8 z)] ∧ q.boost = p.boost)) ∧
      (e.cls ≠ 2 ∨ e.zone = none → 1 ≤ bits w 6 5 → bits w 6 5 ≤ 3 → q.s = u.post [.flagSetClaim .unmappedSrc]) ∧
      (bits w 6 5 = 4 → q.s = u.post [.tankOut] ∧ q.boost = p.boost) ∧
      (bits w 6 5 = 5 → q.s = u.post [.tankIn] ∧ q.boost = p.boost) ∧
      (8 ≤ bits w 6 5 → bits w 6 5 ≤ 11 → q.boost = p.boost ∧
        ((u.acc (bits w 6 5 - 8)).held = none → q.s = u) ∧
        ((u.acc (bits w 6 5 - 8)).held ≠ none → q.s.posts = u.posts ++ [.uncertain] ∧
          q.s.acc (bits w 6 5 - 8) =
            { held := (u.acc (bits w 6 5 - 8)).held, sum := 0, saturated := false } ∧
          (∀ k, k ≠ bits w 6 5 - 8 → q.s.acc k = u.acc k) ∧
          (q.s.setTrans u.trans).setPosts u.posts = u)))

/-- R27–R30: one pair whose entry w is a STORE: `u`, `q` as in FlowAndSpecialPairs, `r` the scaled value with its quality, which is
sent with a plant sample; a fault report is none, the quality FAULT. A wake event follows a store of PM-FINE, RH or VOC with the
WAKE mark in WATCH at or above the field's threshold; for a source without a zone that is the model's choice (log 25). -/
def Obligations.StorePairs : Prop :=
  ∀ (src : Nat) (e : NodeEntry) (p q : Pairs) (ch raw w : Word) (u : State) (t : StoreTarget) (r : Int × Quality),
    bits ch 6 10 = 0 → u = p.s.setMark src false → q = Pairs.take src e p (ch, raw) →
    w = p.s.banks.liveWord (8 * e.cls + 4 * flag (p.s.trans.marks.getD src false) + bits ch 0 6 / 16)
      (4 * (bits ch 0 6 % 16) +
        (if p.s.trans.defrost then 3 else if p.boost then 2 else if p.s.trans.night then 1 else 0)) →
    bit w 15 = false → bits w 13 2 = 1 → targetOfCode (bits w 6 5) = some t →
    r = (u.scale (bits w 0 6)).apply t.unitRange raw.toNat →
    q.boost = p.boost ∧ q.absorbed = (p.absorbed && bit w 12) ∧
    (∀ f z, t = .zone f → e.cls = 2 → e.zone = some z →
      (raw = 0xFFFF#16 → q.s = u.post [.zoneFaultReport (Fin.ofNat 8 z) f]) ∧
      (raw ≠ 0xFFFF#16 → ∀ limit : Int,
        (f = .pmFine ∧ limit = u.param 78 7 ∨ f = .rh ∧ limit = u.param 78 8 ∨ f = .voc ∧ limit = u.param 78 9) →
        q.s = u.post (.zoneStore (Fin.ofNat 8 z) f r.1 r.2 ::
          if u.rc.level = .watch ∧ bit w 11 = true ∧ limit ≤ r.1 then [.wakeEvent f r.1] else [])) ∧
      (raw ≠ 0xFFFF#16 → (f = .pmCoarse ∨ f = .temp ∨ f = .occupancy) →
        q.s = u.post [.zoneStore (Fin.ofNat 8 z) f r.1 r.2])) ∧
    (∀ f, t = .zone f → e.cls ≠ 2 ∨ e.zone = none → u.rc.level ≠ .watch → q.s = u.post [.flagSetClaim .unmappedSrc]) ∧
    (t = .coilTemp →
      (raw = 0xFFFF#16 → q.s = u.post [.dryingCoilTemp none, .cycleCoilTemp none]) ∧
      (raw ≠ 0xFFFF#16 → q.s = u.post [.dryingCoilTemp (some (r.1, r.2)), .cycleCoilTemp (some (r.1, r.2))])) ∧
    (raw = 0xFFFF#16 →
      (t = .blowerFb → q.s = u.post [.blowerFbSample none]) ∧
      (t = .tankLevel → q.s = u.post [.tankLevel none]) ∧
      (t = .pumpFlow → q.s = u.post [.pumpFlow none]) ∧
      (∀ st, t = .dp st → q.s = u.post [.dpSample st none])) ∧
    (raw ≠ 0xFFFF#16 → ∀ v : Nat, (v : Int) = r.1 →
      (t = .blowerFb → q.s = u.post [.blowerFbSample (some (v, r.2))]) ∧
      (t = .tankLevel → ∃ l : Fin 16, l.val = v ∧ q.s = u.post [.tankLevel (some (l, r.2))]) ∧
      (t = .pumpFlow → q.s = u.post [.pumpFlow (some (v, r.2))]) ∧
      (∀ st, t = .dp st → q.s = u.post [.dpSample st (some (v, r.2))]))

/-! ### SOFT RESET (chapters 1–12) -/

/-- R19, R41, R57, R75, R91, R108, R123, R141, R156, R170, R178, R179, R186: SOFT RESET, taken as its answer leaves the port:
what is cleared, what is kept, how the cycles present and a store operation under way end, and what the owners post. A run being
received is discarded as it ends. That no row is left to leave, and the order of the posts, is the model's (log 37); the events in
flight are lost but for a swap the Filter Monitor has still to take (log 15); with a page completion taken just before, no page is
torn and the store record names none (log 46). A soft reset given at any other time does nothing (log 6). -/
def Obligations.SoftResetClearsAndKeeps : Prop :=
  (∀ (a b : Bool) (s : State), s.held = false → s.sendingSoft = false →
    exec (.softResetTaken a b) s = .next (s.took (.softResetTaken a b))) ∧
  ∀ (a b : Bool) (s : State), s.held = false → s.sendingSoft = true → ∃ t, exec (.softResetTaken a b) s = .next t ∧
    t.ring.own = s.ring.own ∧ t.ring.forward = [] ∧ t.ring.slot = none ∧ t.ring.port = none ∧ t.ring.reserved = false ∧
    t.ring.outstanding = none ∧ t.ring.late = 0 ∧ t.ring.nextNumber = 0 ∧ t.ring.timer = none ∧ t.ring.enabled = false ∧
    t.ring.discard = a ∧ (∀ f ∈ t.ring.origin, f.actKey.isSome = true) ∧
    t.trans = .atReset ∧ t.alloc = .atReset s.lines.door ∧
    (∀ z, z < 8 → t.zone z = Zone.fresh (if (s.banks.headOf z).isSome then .waiting else .absent) (s.banks.headOf z)) ∧
    t.inter.rows.map (fun r => { r with dirty := false, lastSent := none }) =
      s.calledRows.map (fun r => { r with dirty := false, lastSent := none }) ∧
    (∀ r ∈ t.inter.rows, r.commanded = 0 ∧ r.normal = none ∧ r.cycle = none) ∧ t.inter.leaving = [] ∧
    t.inter.heldBlower = none ∧ t.inter.heldComp = none ∧ t.inter.heldHeater = none ∧
    t.inter.settle = (if (s.banks.nodeOfClass 3).isSome ∧ s.isLive = true then some (s.param 74 3) else none) ∧
    t.inter.proof = false ∧ t.inter.fault = false ∧ t.inter.mismatch = 0 ∧ t.inter.clock = .off 0 ∧
    t.inter.inhibits.door = s.lines.door ∧ t.inter.inhibits.airflow = false ∧
    t.inter.inhibits.pump = (s.inter.inhibits.pump && s.water.pumpFault) ∧ t.inter.inhibits.tank = s.inter.inhibits.tank ∧
    t.inter.inhibits.run = s.inter.inhibits.run ∧ t.inter.inhibits.halt = s.inter.inhibits.halt ∧
    t.dry = { state := .off, want := false, method := none, next := none, compOn := false, heaterOn := false,
              frost := s.dry.frost, saturation := s.dry.saturation } ∧
    t.water.pumpFault = s.water.pumpFault ∧ t.water.float = s.lines.float ∧ t.water.known = false ∧
    t.water.removed = false ∧ t.water.probe = none ∧ t.water.estimate = 0 ∧
    t.water.kind = (if s.isLive then if s.param 75 0 = 1 then some .drain else some .tank else none) ∧
    (t.water.certain = true ↔ t.water.kind = some .drain) ∧
    t.water.state = (if s.lines.float then .full else if t.water.kind = some .drain then .drain else .unknown) ∧
    t.cycles.queue = [] ∧ t.cycles.running = none ∧ t.cycles.suspended = none ∧ t.cycles.door = s.lines.door ∧
    t.cycles.tankHold = true ∧ t.cycles.level = s.startLevel ∧
    (s.CycleLaw →
      (∀ c, s.cycles.running = some c ∨ s.cycles.suspended = some c → t.cycles.record c.kind =
        { outcome := .aborted .reset, endSweep := s.ring.lastBegin, completed := c.completed }) ∧
      (∀ c ∈ s.cycles.queue, t.cycles.record c.kind =
        { outcome := .cancelled, endSweep := s.ring.lastBegin, completed := c.completed }) ∧
      (∀ k, k ∉ s.cycles.kinds → t.cycles.record k = s.cycles.record k)) ∧
    (∀ st, t.filters.stage st = s.filters.stage st) ∧ t.filters.derate = s.filters.derate ∧
    t.filters.door = s.lines.door ∧ t.filters.baselineReq = true ∧
    t.banks.live = s.banks.live ∧ (∀ id, s.banks.live = some id → t.banks.bank id = s.banks.bank id) ∧
    t.banks.generation = s.banks.generation ∧ t.banks.engine = .idle ∧ t.banks.swapPending = false ∧
    t.banks.marks = List.replicate 64 false ∧ t.banks.progress = 0 ∧
    (s.banks.engine = .idle → t.banks.shadow = s.banks.shadow ∧ t.banks.record = s.banks.record) ∧
    (∀ p, s.banks.engine = .committing p false → t.banks.shadow = s.banks.shadow ∧
      t.banks.record = some { op := .commit, page := some p, outcome := .torn }) ∧
    (∀ op p, (op = .commit ∧ s.banks.engine = .committing p true ∨
        (op = .copy ∧ s.banks.engine = .copying ∨ op = .erase ∧ ∃ keep, s.banks.engine = .erasing keep) ∧
          p = s.banks.progress ∧ (b = false ∨ p = 0)) →
      t.banks.shadow.status = s.banks.shadow.status.set p .torn ∧ t.banks.shadow.stamp = s.banks.shadow.stamp ∧
      t.banks.record = some { op := op, page := some p, outcome := .torn }) ∧
    (∀ op, op = .copy ∧ s.banks.engine = .copying ∨ op = .erase ∧ (∃ keep, s.banks.engine = .erasing keep) →
      b = true → s.banks.progress ≠ 0 → t.banks.shadow = s.banks.shadow ∧
      t.banks.record = some { op := op, page := none, outcome := .torn }) ∧
    t.mu.queue = [] ∧ t.mu.flags = 0#16 ∧ t.mu.conditions = 0#16 ∧ t.mu.maskFlags = s.mu.maskFlags ∧
    t.mu.maskConditions = s.mu.maskConditions ∧ t.mu.owed = false ∧ t.mu.softWait = false ∧
    t.rc = { s.rc with level := s.startLevel, wake := false } ∧ t.lines = s.lines ∧ t.held = false ∧
    (s.inter.fault = true → .conditionPost .blowerFault false ∈ t.posts) ∧ .conditionPost .doorOpen s.lines.door ∈ t.posts ∧
    (if claimsTank t.water.state then .inhibitClaim .tank ∈ t.posts else .inhibitRelease .tank ∈ t.posts) ∧
    (s.water.pumpFault = true → .inhibitClaim .pump ∈ t.posts ∧ .conditionPost .pumpFault true ∈ t.posts) ∧
    (t.water.state = .full → .conditionPost .tankFull true ∈ t.posts) ∧
    (∃ r, .tankReport r ∈ t.posts ∧ r.state = t.water.state ∧ r.estimate = 0 ∧ r.known = false) ∧
    (∀ st, (s.filters.stage st).fitted = true →
      ((s.filters.stage st).state = .worn → .conditionPost .filterWorn true ∈ t.posts) ∧
      ((s.filters.stage st).state = .spent → .conditionPost .filterSpent true ∈ t.posts)) ∧
    (if s.startLevel = .watch then .inhibitClaim .run ∈ t.posts else .inhibitRelease .run ∈ t.posts) ∧
    (if s.startLevel = .halt then .inhibitClaim .halt ∈ t.posts else .inhibitRelease .halt ∈ t.posts) ∧
    .cycleRunLevelChange s.startLevel ∈ t.posts ∧ .ringRunLevelChange s.startLevel ∈ t.posts ∧
    .muRunLevelChange s.startLevel ∈ t.posts ∧
    .conditionPost .unconfigured (decide (s.startLevel = .unconfigured)) ∈ t.posts ∧
    (.filterSwapTaken ∈ s.posts → .filterSwapTaken ∈ t.posts)

/-! ### Zone records (chapter 3) -/

/-- R42, R43, R49: a store gives the reading its value and quality; a fault report gives it the quality FAULT and keeps its
value. Either sets the stored mark, zeroes the missed count, makes a WAITING or STALE zone LIVE, and leaves every other reading,
the holds and every other zone. An ABSENT zone takes neither (log 45). -/
def Obligations.StoresReachTheirReading : Prop :=
  ∀ (z : Fin 8) (f : ZoneField) (v : Int) (q : Quality) (s : State) (zo : Zone), s.held = false →
    s.zones[z.val]? = some zo → ∀ (c : Instr) (x : Reading),
    (c = .zoneStore z f v q ∧ x = { value := v, quality := q } ∨
      c = .zoneFaultReport z f ∧ x = { value := (zo.readings.get f).value, quality := .fault }) →
    (zo.state ≠ .absent → ∃ t zn, exec c s = .next t ∧ t.zones[z.val]? = some zn ∧
      zn.readings.get f = x ∧ (∀ g, g ≠ f → zn.readings.get g = zo.readings.get g) ∧
      zn.stored = true ∧ zn.missed = 0 ∧ zn.state = .live ∧
      zn.head = zo.head ∧ zn.lastSweep = zo.lastSweep ∧ zn.boost = zo.boost ∧ zn.window = zo.window ∧
      (∀ i, i ≠ z.val → t.zones[i]? = s.zones[i]?) ∧ t.setZones s.zones = s.took c) ∧
    (zo.state = .absent → exec c s = .next (s.took c))

/-- R46–R49: the demands of a zone that is LIVE after an event that recomputes it: a store, a fault report, a change of a hold, a
regime change, or a swap that keeps its head. `x` is the record as the event leaves it, `p` the Setpoint row of its effective regime
j, `zn` the record after: 100 clean while the boost hold is on and 0 dry while the window hold is on, else 0 while the mark is clear,
else the curve value within its cap; a mark that was set clears only at or below its targets, and one that was clear sets only by a
start test; a reading counts with quality GOOD or CLAMPED. A WINDOW-OPEN that restarts the timer alone recomputes too (log 48). A
regime change completes on every state and leaves every zone that is not LIVE. -/
def Obligations.DemandsFollowTheSetpoints : Prop :=
  (∀ s : State, s.held = false → ∃ t, exec .regimeChanged s = .next t ∧ t.setZones s.zones = s.took .regimeChanged ∧
    t.zones.length = s.zones.length ∧
    ∀ (i : Nat) (z : Zone), s.zones[i]? = some z → z.state ≠ .live → t.zones[i]? = some z) ∧
  ∀ (s : State) (i : Fin 8) (j : Nat) (c : Instr) (z x : Zone) (p : Setpoint), s.held = false →
    s.zones[i.val]? = some z → z.state ≠ .absent →
    (c = .regimeChanged ∧ x = z ∨
     (∃ f v q, c = .zoneStore i f v q ∧ x = z.heard f { value := v, quality := q }) ∨
     (∃ f, c = .zoneFaultReport i f ∧ x = z.heard f { value := (z.readings.get f).value, quality := .fault }) ∨
     c = .boostToggle i ∧ x = { z with boost := if z.boost.isSome then none else some (60 * s.param 78 5) } ∨
     c = .windowOpen i ∧ x = { z with window := some (60 * s.param 78 6) } ∨
     (c = .windowShut i ∨ c = .windowTimerExpiry i) ∧ z.window ≠ none ∧ x = { z with window := none } ∨
     c = .boostTimerExpiry i ∧ z.boost ≠ none ∧ x = { z with boost := none } ∨
     c = .zoneSwapTaken ∧ z.head ≠ none ∧ s.banks.headOf i.val = z.head ∧ x = z) →
    x.state = .live →
    j = (if s.trans.defrost then 3 else if x.boost.isSome then 2 else if s.trans.night then 1 else 0) →
    p = { rhTarget := s.param (69 + i.val / 2) (32 * (i.val % 2) + 8 * j), rhSpan := s.param (69 + i.val / 2) (32 * (i.val % 2) + 8 * j + 1),
          pmTarget := s.param (69 + i.val / 2) (32 * (i.val % 2) + 8 * j + 2), pmSpan := s.param (69 + i.val / 2) (32 * (i.val % 2) + 8 * j + 3),
          vocTarget := s.param (69 + i.val / 2) (32 * (i.val % 2) + 8 * j + 4),
          vocSpan := s.param (69 + i.val / 2) (32 * (i.val % 2) + 8 * j + 5),
          cleanCap := s.param (69 + i.val / 2) (32 * (i.val % 2) + 8 * j + 6),
          dryCap := s.param (69 + i.val / 2) (32 * (i.val % 2) + 8 * j + 7) } →
    ∃ t zn, exec c s = .next t ∧ t.zones[i.val]? = some zn ∧
      (x.boost.isSome = true → zn.clean = 100) ∧ (x.window.isSome = true → zn.dry = 0) ∧
      (x.boost = none → zn.cleanMark = false → zn.clean = 0) ∧ (zn.dryMark = false → zn.dry = 0) ∧
      (x.boost = none → zn.cleanMark = true → zn.clean = min (max (curveValue x.readings.pmFine p.pmTarget p.pmSpan)
        (curveValue x.readings.voc p.vocTarget p.vocSpan)) p.cleanCap) ∧
      (x.window = none → zn.dryMark = true → zn.dry = min (curveValue x.readings.rh p.rhTarget p.rhSpan) p.dryCap) ∧
      (∀ (Counts : Reading → Prop), (∀ r, Counts r ↔ r.quality = .good ∨ r.quality = .clamped) →
        (x.dryMark = true →
          (zn.dryMark = true ↔ Counts x.readings.rh ∧ (p.rhTarget : Int) < x.readings.rh.value)) ∧
        (x.dryMark = false →
          (zn.dryMark = true ↔ Counts x.readings.rh ∧ (p.rhSpan : Int) < 10 * (x.readings.rh.value - p.rhTarget))) ∧
        (x.cleanMark = true → (zn.cleanMark = true ↔
          Counts x.readings.pmFine ∧ (p.pmTarget : Int) < x.readings.pmFine.value ∨
          Counts x.readings.voc ∧ (p.vocTarget : Int) < x.readings.voc.value)) ∧
        (x.cleanMark = false → (zn.cleanMark = true ↔
          Counts x.readings.pmFine ∧ (p.pmSpan : Int) < 10 * (x.readings.pmFine.value - p.pmTarget) ∨
          Counts x.readings.voc ∧ (p.vocSpan : Int) < 10 * (x.readings.voc.value - p.vocTarget)))) ∧
      { zn with clean := x.clean, dry := x.dry, cleanMark := x.cleanMark, dryMark := x.dryMark } = x

/-- R51–R54: the holds. A BOOST-TOGGLE turns the hold on with the boost duration or off; WINDOW-OPEN turns the hold on with the full
time; WINDOW-SHUT and the expiries turn theirs off, and change nothing when it is off already (for an expiry the model's choice, log
5). An ABSENT zone takes none of them (log 45). -/
def Obligations.HoldsTurnOnAndOff : Prop :=
  ∀ (z : Fin 8) (s : State) (zo : Zone), s.held = false → s.zones[z.val]? = some zo →
    (∀ (c : Instr) (b w : Option Nat), zo.state ≠ .absent →
      (c = .boostToggle z ∧ b = (if zo.boost.isSome then none else some (60 * s.param 78 5)) ∧ w = zo.window ∨
       c = .windowOpen z ∧ b = zo.boost ∧ w = some (60 * s.param 78 6) ∨
       c = .windowShut z ∧ zo.window ≠ none ∧ b = zo.boost ∧ w = none ∨
       c = .windowTimerExpiry z ∧ zo.window ≠ none ∧ b = zo.boost ∧ w = none ∨
       c = .boostTimerExpiry z ∧ zo.boost ≠ none ∧ b = none ∧ w = zo.window) →
      ∃ t zn, exec c s = .next t ∧ t.zones[z.val]? = some zn ∧ zn.boost = b ∧ zn.window = w ∧
        (zo.state = .live → b.isSome = true → zn.clean = 100) ∧ (zo.state = .live → w.isSome = true → zn.dry = 0) ∧
        (zo.state ≠ .live → zn = { zo with boost := b, window := w }) ∧
        zn.readings = zo.readings ∧ zn.state = zo.state ∧ zn.head = zo.head ∧ zn.stored = zo.stored ∧
        zn.missed = zo.missed ∧ zn.lastSweep = zo.lastSweep ∧
        (∀ i, i ≠ z.val → t.zones[i]? = s.zones[i]?) ∧ t.setZones s.zones = s.took c) ∧
    (∀ c : Instr, (c = .boostToggle z ∨ c = .windowOpen z ∨ c = .windowShut z ∨ c = .windowTimerExpiry z ∨
      c = .boostTimerExpiry z) → zo.state = .absent → exec c s = .next (s.took c)) ∧
    (zo.window = none → exec (.windowShut z) s = .next (s.took (.windowShut z)) ∧
      exec (.windowTimerExpiry z) s = .next (s.took (.windowTimerExpiry z))) ∧
    (zo.boost = none → exec (.boostTimerExpiry z) s = .next (s.took (.boostTimerExpiry z)))

/-- R44, R45, R55: a sweep close, COMPLETE or LOST, takes each zone: ABSENT unchanged; one that stored a sample clears the mark
and records the sweep; another counts a miss, and at the limit turns STALE with its demands and marks cleared. One zone review is
posted. At a swap a zone whose head changed is made fresh and one that keeps its head keeps its readings. -/
def Obligations.SweepClosesAndSwapsTakeEveryZone : Prop :=
  ∀ (s : State) (i : Nat) (z : Zone), s.held = false → s.zones[i]? = some z →
    (∀ (n : Nat) (complete : Bool), ∃ t zn, exec (.sweepClose n complete) s = .next t ∧ t.zones[i]? = some zn ∧
      t.posts = s.posts.erase (.sweepClose n complete) ++ [.zoneReview n] ∧
      (t.setZones s.zones).setPosts s.posts = s ∧
      (z.state = .absent → zn = z) ∧
      (z.state ≠ .absent → z.stored = true → zn = { z with stored := false, lastSweep := some n }) ∧
      (z.state ≠ .absent → z.stored = false →
        (z.state = .stale ∨ min 255 (z.missed + 1) < s.param 78 4 → zn = { z with missed := min 255 (z.missed + 1) }) ∧
        (z.state ≠ .stale → s.param 78 4 ≤ min 255 (z.missed + 1) →
          zn = { z with missed := min 255 (z.missed + 1), state := .stale, clean := 0, dry := 0, cleanMark := false,
                        dryMark := false }))) ∧
    (∃ t zn, exec .zoneSwapTaken s = .next t ∧ t.zones[i]? = some zn ∧ t.setZones s.zones = s.took .zoneSwapTaken ∧
      (s.banks.headOf i = none → zn = Zone.fresh .absent none) ∧
      (∀ a, s.banks.headOf i = some a → z.head ≠ some a → zn = Zone.fresh .waiting (some a)) ∧
      (∀ a, s.banks.headOf i = some a → z.head = some a → z.state ≠ .live → zn = z) ∧
      (∀ a, s.banks.headOf i = some a → z.head = some a →
        { zn with clean := z.clean, dry := z.dry, cleanMark := z.cleanMark, dryMark := z.dryMark } = z))

/-! ### Airflow allocation (chapter 4) -/

/-- R60: a review builds the Service Order anew: exactly the zones whose effective demand is above 0, each once, a zone standing
before another when its demand is higher, or the demands are equal and its age before the review is higher, or both are equal and
its number is lower. The list kept from the previous review plays no part. -/
def Obligations.ServiceOrderIsSorted : Prop :=
  ∀ (n : Nat) (s : State), s.held = false → s.takesReview = true → ∃ t r, exec (.zoneReview n) s = .next t ∧
    t.alloc.record = some r ∧ (∀ z, z < 8 → r.effective.getD z 0 = s.effectiveDemand z) ∧
    (∀ z, z ∈ t.alloc.order ↔ z < 8 ∧ 0 < s.effectiveDemand z) ∧
    (t.alloc.order.Pairwise fun x y =>
      s.effectiveDemand y < s.effectiveDemand x ∨ s.effectiveDemand x = s.effectiveDemand y ∧
        (s.alloc.ages.getD y 0 < s.alloc.ages.getD x 0 ∨
          s.alloc.ages.getD x 0 = s.alloc.ages.getD y 0 ∧ x < y)) ∧
    t.alloc.order.Nodup ∧ t.alloc.order.length ≤ 8 ∧
    (∀ old, exec (.zoneReview n) (s.setAlloc { s.alloc with order := old }) = .next t)

/-- R58, R59, R65–R68, R70, R71, R73: a zone review in ACTIVE or WATCH with a bank live and SETUP low. The record is of this sweep;
a LIVE zone with a damper asks by the larger of its clean demand and, while drying is wanted, its dry demand; along the Service
Order each zone is assigned the smaller of its request and what is left, or 0 where that is below its minimum; no zone is given more
than it asked for, nor are all together given more than the step's airflow; no damper opens past 100; an IDLE record has step 0 and
assigns nothing. It is NOT-APPLIED while a DEFROST, a PROFILE or a REGEN that is not held runs (R69). The record goes to the interlock, the Filter Monitor and the Drying Controller, in that order. Otherwise the review
changes nothing (log 27). -/
def Obligations.ReviewSharesTheAirflow : Prop :=
  ∀ (n : Nat) (s : State), s.held = false →
    (s.takesReview = true ↔ s.banks.live ≠ none ∧ s.lines.setup = false ∧ (s.rc.level = .active ∨ s.rc.level = .watch)) ∧
    (s.allocationApplied = false ↔ ∃ c, s.cycles.running = some c ∧
      (c.kind = .defrost ∨ c.kind = .profile ∨ c.kind = .regen ∧ c.held = false)) ∧
    (s.takesReview = false → exec (.zoneReview n) s = .next (s.took (.zoneReview n))) ∧
    (s.takesReview = true → ∃ t r, exec (.zoneReview n) s = .next t ∧ t.alloc.record = some r ∧
      t.posts = s.posts.erase (.zoneReview n) ++
        [.normalRequests r.step (s.damperRequests r), .filterAllocation r, .dryingAllocation r] ∧
      r.sweep = n ∧ r.idle = (s.alloc.door || s.rc.level == .watch) ∧ r.applied = s.allocationApplied ∧
      r.airflow = (if r.step = 0 then 0 else s.param 73 (r.step - 1) * s.filters.derate / 100) ∧
      r.effective.length = 8 ∧ r.request.length = 8 ∧ r.assigned.length = 8 ∧ r.position.length = 8 ∧
      (∀ z : Nat, z < 8 → r.effective.getD z 0 = if (s.zone z).state = .live ∧ s.banks.damperPort z ≠ none then
        max (s.zone z).clean (if s.dry.want then (s.zone z).dry else 0) else 0) ∧
      (r.idle = false → ∀ (pre : List Nat) (z : Nat) (post : List Nat) (g : Nat), t.alloc.order = pre ++ z :: post →
        g = min (r.request.getD z 0) (r.airflow - (pre.map fun y => r.assigned.getD y 0).sum) →
        r.assigned.getD z 0 = if 0 < g ∧ (s.param 73 (7 + z) * s.param 73 15 + 99) / 100 ≤ g then g else 0) ∧
      (∀ z : Nat, z ∉ t.alloc.order → r.assigned.getD z 0 = 0) ∧
      (∀ z, z < 8 → s.banks.damperPort z ≠ none →
        r.position.getD z none = some (r.assigned.getD z 0 * 100 / s.param 73 (7 + z))) ∧
      r.assigned.sum ≤ r.airflow ∧ (∀ z, r.assigned.getD z 0 ≤ r.request.getD z 0) ∧
      (∀ z, z < 8 → r.assigned.getD z 0 ≠ 0 → s.zoneMinimum z ≤ r.assigned.getD z 0) ∧
      (s.param 73 15 ≤ 100 → (∀ z, (s.zone z).clean ≤ 100 ∧ (s.zone z).dry ≤ 100) →
        ∀ z p, r.position.getD z none = some p → p ≤ 100) ∧
      (∀ z, z < 8 → (r.position.getD z none = none ↔ s.banks.damperPort z = none)) ∧
      (∀ z, z < 8 → (s.zone z).state ≠ .live → r.effective.getD z 0 = 0) ∧
      (r.idle = true → r.step = 0 ∧ r.assigned.sum = 0) ∧
      (r.idle = true ∨ r.applied = false → t.alloc.ages = s.alloc.ages) ∧
      (r.idle = false → r.applied = true → ∀ z a, s.alloc.ages[z]? = some a → t.alloc.ages[z]? = some
        (if 0 < r.effective.getD z 0 ∧ r.assigned.getD z 0 = 0 then min 255 (a + 1) else 0)) ∧
      t.alloc.door = s.alloc.door ∧ (t.setAlloc s.alloc).setPosts s.posts = s)

/-- R61–R64: the requested step of a computed record: the smallest step from 1 to the cap whose effective airflow reaches the
total of the requests, or the cap; while drying is wanted the larger of that step and the dry min step; 0 when drying is not wanted
and nothing is asked for. -/
def Obligations.StepIsTheSmallestThatReaches : Prop :=
  ∀ (n : Nat) (s : State) (cap total : Nat), s.held = false → s.takesReview = true → s.alloc.door = false →
    s.rc.level = .active → cap = (if s.trans.night then s.param 73 17 else s.param 73 16) → 1 ≤ cap →
    ∃ t r, exec (.zoneReview n) s = .next t ∧ t.alloc.record = some r ∧
      (total = r.request.sum →
        (total = 0 → s.dry.want = false → r.step = 0) ∧
        (s.dry.want = true → ∃ k, 1 ≤ k ∧ k ≤ cap ∧
          (k < cap → total ≤ s.param 73 (k - 1) * s.filters.derate / 100) ∧
          (∀ j, 1 ≤ j → j < k → s.param 73 (j - 1) * s.filters.derate / 100 < total) ∧ r.step = max k (s.param 74 0)) ∧
        (0 < total → s.dry.want = false → 1 ≤ r.step ∧ r.step ≤ cap ∧
          (r.step < cap → total ≤ s.param 73 (r.step - 1) * s.filters.derate / 100) ∧
          (∀ k, 1 ≤ k → k < r.step → s.param 73 (k - 1) * s.filters.derate / 100 < total))) ∧
      (∀ z, z < 8 → r.request.getD z 0 = if 0 < r.effective.getD z 0 then
        max ((r.effective.getD z 0 * s.param 73 (7 + z) + 99) / 100) ((s.param 73 (7 + z) * s.param 73 15 + 99) / 100)
        else 0)

/-! ### The interlock (chapter 5) -/

/-- R77, R78, R80: what an event asks of the rows. A request for an output without a row is held for it; the pump takes no normal
request; a damper request without a row is discarded; a plan replaces every cycle request, and a claim without a row is discarded (log 57); a claim or release moves its member
of the inhibit set alone. Only the interlock, the Origin Queue and the posts change. -/
def Obligations.RequestsAndClaimsReachTheRows : Prop :=
  ∀ s : State, s.held = false →
    (∀ (o : Output) (k : RowKind) (v : Nat) (c : Instr), o ≠ .pump →
      k = (if o = .compressor then .compressor else .heater) →
      (c = .runRequest o v ∨ c = .stopRequest o ∧ v = 0) → ∃ t, exec c s = .next t ∧ s.OnlyInterlock t ∧
      t.inter.inhibits = s.inter.inhibits ∧
      t.inter.rows.map Row.asked = s.inter.rows.map
        (fun r => (r.kind, r.dst, r.port, if r.kind = k then some v else r.normal, r.cycle)) ∧
      (s.inter.row k = none → o = .compressor → t.inter.heldComp = some v ∧ t.inter.heldHeater = s.inter.heldHeater) ∧
      (s.inter.row k = none → o = .heater → t.inter.heldHeater = some v ∧ t.inter.heldComp = s.inter.heldComp) ∧
      (s.inter.row k ≠ none → t.inter.heldComp = s.inter.heldComp ∧ t.inter.heldHeater = s.inter.heldHeater) ∧
      t.inter.heldBlower = s.inter.heldBlower) ∧
    (∀ (step : Nat) (ds : List DamperRequest), ∃ t, exec (.normalRequests step ds) s = .next t ∧ s.OnlyInterlock t ∧
      t.inter.inhibits = s.inter.inhibits ∧
      t.inter.heldBlower = (if s.inter.row .blower = none then some step else s.inter.heldBlower) ∧
      t.inter.rows.map Row.asked = s.inter.rows.map (fun r => (r.kind, r.dst, r.port,
        (match r.kind with
          | .blower => some step
          | .damper _ => match ds.find? fun d => d.node == r.dst && d.port == r.port with
            | some d => some d.position
            | none => r.normal
          | _ => r.normal), r.cycle))) ∧
    (∀ (k : CycleKind) (cs : List Claim), ∃ t, exec (.cyclePlan k cs) s = .next t ∧ s.OnlyInterlock t ∧
      t.inter.inhibits = s.inter.inhibits ∧
      t.inter.rows.map Row.asked = s.inter.rows.map (fun r => (r.kind, r.dst, r.port, r.normal,
        (cs.find? fun c => Claim.names c r).map (·.value)))) ∧
    (∃ t, exec .planRelease s = .next t ∧ s.OnlyInterlock t ∧ t.inter.inhibits = s.inter.inhibits ∧
      t.inter.rows.map Row.asked = s.inter.rows.map (fun r => (r.kind, r.dst, r.port, r.normal, none))) ∧
    (∀ (m : Inhibit) (b : Bool) (c : Instr), c = (if b then .inhibitClaim m else .inhibitRelease m) →
      (s.inter.inhibits.get m = b → exec c s = .next (s.took c)) ∧
      (s.inter.inhibits.get m ≠ b → ∃ t, exec c s = .next t ∧ s.OnlyInterlock t ∧
        (∀ n, t.inter.inhibits.get n = if n = m then b else s.inter.inhibits.get n) ∧
        t.inter.rows.map Row.asked = s.inter.rows.map Row.asked))

/-- R79–R83, R85, R88: every event that resolves the rows, a change of the DOOR line and CLEAR FAULT (BLOWER) among them, leaves each row resolved to 0 while an inhibit forces it, else to its cycle
request, else to its normal request, else to 0; dampers and the pump at their resolved value; the compressor and the heater off
unless airflow is proven and no inhibit forces them, the blower then at or above the dry min step; and posts each change of the
compressor, the heater and the pump to the Sample Translator, the Drying Controller and the Cycle Engine, in row order, a swap's leaving
rows first (log 63). With neither wanted nor on, the blower is at its own resolved value. `C`, `H`: the compressor and the
heater after R81 and R82: a start waits for proof and min-off, a stop for min-on; without proof or by an inhibit it goes off at once
(log 19). `F`: R83's floor value. While the compressor would be on, a change of the blower waits, or from below the dry min step stops
it for re-proof, its off-time restarted (log 20); a heater alone is stopped for re-proof. The compressor's times restart as it turns on
or off; a change of the blower clears proof and restarts the settle timer. DOOR, RUN and HALT force
the blower, the dampers, the compressor and the heater; TANK and AIRFLOW the compressor and the heater; HALT and PUMP the pump. -/
def Obligations.EveryResolutionKeepsThePlantSafe : Prop :=
  (∀ (c : Instr) (s : State), s.held = false → s.Resolves c → ∃ t, exec c s = .next t ∧
     (∀ r ∈ t.inter.rows, r.resolved = if t.inter.inhibits.forces r.kind then 0 else r.cycle.getD (r.normal.getD 0)) ∧
     (∀ r ∈ t.inter.rows, ∀ z, (r.kind = .damper z ∨ r.kind = .pump) → r.commanded = r.resolved) ∧
     t.ProofLaw ∧ t.FloorLaw ∧ t.DoorLaw ∧
     (∀ o : Output, s.inter.output (Output.row o) ≠ t.inter.output (Output.row o) →
       .translatorOutputChanged o (t.inter.output (Output.row o)) ∈ t.posts) ∧
     ((∀ r ∈ s.inter.rows, r.kind = .compressor → r.commanded = 0) →
       (∀ r ∈ t.inter.rows, r.kind = .compressor ∨ r.kind = .heater → r.resolved = 0) →
       ∀ r, t.inter.row .blower = some r → r.commanded = r.resolved) ∧
     (∀ (proof : Bool) (clock : CompClock) (present wanted : RowKind → Nat) (C H F : Nat) (Set : Nat → Nat → Nat → Prop),
       s.StandsAt c proof clock present →
       (∀ k, wanted k = match t.inter.row k with
         | none => 0
         | some r => r.resolved) →
       (∀ comp heater blower, Set comp heater blower ↔ t.inter.output .compressor = comp ∧ t.inter.output .heater = heater ∧
         ∀ r, t.inter.row .blower = some r → r.commanded = blower) →
       (present .compressor = 0 → wanted .compressor = 0 → C = 0) →
       (present .compressor = 0 → wanted .compressor ≠ 0 →
         C = if proof = true ∧ s.param 74 2 ≤ clock.offTime then 1 else 0) →
       (present .compressor ≠ 0 → proof = false ∨ t.inter.inhibits.forces .compressor = true → C = 0) →
       (present .compressor ≠ 0 → proof = true → t.inter.inhibits.forces .compressor = false →
         C = if wanted .compressor ≠ 0 ∨ clock.onTime < s.param 74 1 then 1 else 0) →
       H = (if proof then wanted .heater else 0) →
       F = (if C ≠ 0 ∨ H ≠ 0 ∨ wanted .compressor ≠ 0 ∨ wanted .heater ≠ 0 then max (wanted .blower) (s.param 74 0)
         else wanted .blower) →
       (C ≠ 0 → F ≠ present .blower → s.param 74 0 ≤ present .blower → Set C H (present .blower)) ∧
       (C ≠ 0 → F ≠ present .blower → present .blower < s.param 74 0 → Set 0 0 F ∧ t.inter.clock = .off 0) ∧
       (C = 0 → H ≠ 0 → F ≠ present .blower → Set 0 0 F) ∧
       (C = 0 ∧ H = 0 ∨ F = present .blower → Set C H F) ∧
       (present .compressor = 0 → t.inter.output .compressor ≠ 0 → t.inter.clock = .on 0) ∧
       (present .compressor ≠ 0 → t.inter.output .compressor = 0 → t.inter.clock = .off 0) ∧
       (present .compressor = 0 → C = 0 → t.inter.clock = clock) ∧
       (present .compressor ≠ 0 → t.inter.output .compressor ≠ 0 → t.inter.clock = clock) ∧
       (t.inter.row .blower ≠ none →
         (t.inter.output .blower = present .blower → t.inter.proof = proof) ∧
         (t.inter.output .blower ≠ present .blower → t.inter.proof = false ∧ t.inter.mismatch = 0 ∧
           t.inter.settle = some (s.param 74 3))) ∧
       ∃ more, t.posts = s.posts.erase c ++ OutputNews s.inter.output present ++ OutputNews present t.inter.output ++ more ∧
         (more ≠ [] → (∃ x, c = .blowerFbSample x) ∨ (∃ b, c = .doorLineChange b) ∨ c = .clearFault) ∧
         ∀ (o : Output) (v : Nat), .translatorOutputChanged o v ∉ more ∧ .dryingOutputOn o ∉ more ∧
           .dryingOutputOff o ∉ more ∧ .cycleOutputChanged o v ∉ more)) ∧
  (∀ (i : Inhibits) (z : Nat),
     (i.forces .blower = true ↔ i.door = true ∨ i.run = true ∨ i.halt = true) ∧
     (i.forces (.damper z) = true ↔ i.door = true ∨ i.run = true ∨ i.halt = true) ∧
     (i.forces .compressor = true ↔ i.door = true ∨ i.tank = true ∨ i.airflow = true ∨ i.run = true ∨ i.halt = true) ∧
     (i.forces .heater = true ↔ i.door = true ∨ i.tank = true ∨ i.airflow = true ∨ i.run = true ∨ i.halt = true) ∧
     (i.forces .pump = true ↔ i.halt = true ∨ i.pump = true))

/-- R81, R82, R84: a feedback sample while the table has a blower row. One that agrees with a running blower proves airflow while
the latch is clear; once the settle timer has expired, one that agrees clears the count, one that does not raises it, and the third
sets the latch: AIRFLOW is claimed, proof is clear, BLOWER-FAULT and airflow lost are posted. A resolution that moves the blower
clears proof and the count and restarts the settle timer. Without a blower row the sample is discarded. The min-off expiry of a
pending start, with airflow proven and the blower at its floor, turns the compressor on; the min-on expiry of a held stop turns it
off; the settle timer's expiry is recorded. An expiry with nothing to end changes nothing (log 5). -/
def Obligations.FeedbackAndProtectionTimes : Prop :=
  (∀ (y : Option (Nat × Quality)) (x : Option Nat) (s : State), s.held = false → x = y.map Prod.fst →
     (s.inter.row .blower = none → exec (.blowerFbSample y) s = .next (s.took (.blowerFbSample y))) ∧
     (s.inter.row .blower ≠ none → ∃ t, exec (.blowerFbSample y) s = .next t ∧ s.OnlyInterlock t ∧
       (t.blowerOutput ≠ s.blowerOutput → t.inter.proof = false ∧ t.inter.mismatch = 0 ∧
         t.inter.settle = some (s.param 74 3)) ∧
       (t.blowerOutput = s.blowerOutput → t.inter.settle = s.inter.settle) ∧
       (t.blowerOutput = s.blowerOutput → x = some s.blowerOutput → s.blowerOutput ≠ 0 → s.inter.fault = false →
         t.inter.proof = true) ∧
       (t.blowerOutput = s.blowerOutput → x = some s.blowerOutput → t.inter.fault = s.inter.fault ∧
         t.inter.mismatch = if s.inter.settling then s.inter.mismatch else 0) ∧
       (t.blowerOutput = s.blowerOutput → x ≠ some s.blowerOutput → s.inter.settling = true ∨ s.inter.mismatch < 2 →
         t.inter.proof = s.inter.proof ∧ t.inter.fault = s.inter.fault ∧
         t.inter.mismatch = if s.inter.settling then s.inter.mismatch else s.inter.mismatch + 1) ∧
       (x ≠ some s.blowerOutput → s.inter.settling = false → 2 ≤ s.inter.mismatch → s.inter.fault = false →
         t.inter.fault = true ∧ t.inter.proof = false ∧ t.inter.mismatch = 0 ∧ t.inter.inhibits.airflow = true ∧
         .conditionPost .blowerFault true ∈ t.posts ∧ .airflowLost ∈ t.posts))) ∧
  (∀ s : State, s.held = false →
     (s.inter.startPending = false → exec .minOffExpiry s = .next (s.took .minOffExpiry)) ∧
     (∀ n, s.inter.startPending = true → s.inter.clock = .off n → s.inter.proof = true →
       s.inter.output .blower = max (s.inter.wanted .blower) (s.param 74 0) →
       ∃ t, exec .minOffExpiry s = .next t ∧ s.OnlyInterlock t ∧ t.inter.output .compressor = 1 ∧ t.inter.clock = .on 0) ∧
     (s.inter.stopHeld = false → exec .minOnExpiry s = .next (s.took .minOnExpiry)) ∧
     (∀ n, s.inter.stopHeld = true → s.inter.clock = .on n →
       ∃ t, exec .minOnExpiry s = .next t ∧ s.OnlyInterlock t ∧ t.inter.output .compressor = 0 ∧ t.inter.clock = .off 0) ∧
     (s.inter.settling = true →
       exec .settleTimerExpiry s = .next ((s.took .settleTimerExpiry).setInter { s.inter with settle := some 0 })) ∧
     (s.inter.settling = false → exec .settleTimerExpiry s = .next (s.took .settleTimerExpiry)))

/-- R76, R77, R84, R86, R87, R89: at a sweep begin a row last sent 16 or more sweeps ago, or never, has its ACT queued with its
commanded output, or waits dirty for a place; no output changes. At a swap the table holds the rows the live Node Map and Tank page
call for: a row that stays keeps its requests, a new row has no cycle request and the normal request held for its output and is sent,
and a row that leaves is sent 0 or waits, dirty, to be sent 0. The rows called for are those of the table of section 5.1, in its order,
none with no bank live: `Mapped a k` says that page 64, words 2a and 2a + 1, maps address a with class k, `Port z a p` that port p of a
mapped DAMPER names zone z (section 13.4); the pump needs Tank page word 7. A new blower row starts the settle timer, its mismatch count
0 (R84, log 49); with no blower row none runs; a blower row that stays as it was keeps both. Both events complete on every state; that an
ACT carries its own row's value is said of rows for distinct outputs, as every step keeps them. -/
def Obligations.RowsFollowSweepsAndSwaps : Prop :=
  ∀ s : State, s.held = false →
    (∀ n, ∃ t, exec (.interlockSweepBegin n) s = .next t ∧ s.OnlyInterlock t ∧
      t.posts = s.posts.erase (.interlockSweepBegin n) ∧
      t.inter.rows.map (fun r => { r with dirty := false, lastSent := none }) =
        s.inter.rows.map (fun r => { r with dirty := false, lastSent := none }) ∧
      (s.RowsDistinct → ∀ r ∈ s.inter.rows,
        r.dirty = true ∨ r.lastSent = none ∨ (∃ k, r.lastSent = some k ∧ 16 ≤ (n + 256 - k) % 256) →
        { r with dirty := false, lastSent := s.ring.lastBegin } ∈ t.inter.rows ∧
          (∃ a, .act r.dst a r.kind.function r.port r.commanded ∈ t.ring.origin) ∨
        { r with dirty := true } ∈ t.inter.rows ∧ t.ring.placeFree = false) ∧
      (∀ r ∈ s.inter.rows, r.dirty = false → (∃ k, r.lastSent = some k ∧ (n + 256 - k) % 256 < 16) → r ∈ t.inter.rows)) ∧
    (∀ (Mapped : Nat → Nat → Prop) (Port : Nat → Nat → Nat → Prop),
      (∀ a k, Mapped a k ↔ a < 32 ∧ bits (s.banks.liveWord 64 (2 * a)) 15 1 = 1 ∧
        bits (s.banks.liveWord 64 (2 * a)) 8 4 = k) →
      (∀ z a p, Port z a p ↔ Mapped a 4 ∧ p < 4 ∧ bits (s.banks.liveWord 64 (2 * a + 1)) (4 * p) 4 = z) →
      (∀ k a, s.banks.nodeOfClass k = some a → Mapped a k) ∧
      (∀ k, s.banks.nodeOfClass k = none → ∀ a, ¬ Mapped a k) ∧
      (∀ z, z < 8 → (∀ a, s.banks.headOf z = some a → Mapped a 2 ∧ bits (s.banks.liveWord 64 (2 * a)) 0 4 = z) ∧
        (s.banks.headOf z = none → ∀ a, Mapped a 2 → bits (s.banks.liveWord 64 (2 * a)) 0 4 ≠ z)) ∧
      (∀ z, z < 8 → (∀ a p, s.banks.damperPort z = some (a, p) → Port z a p) ∧
        (s.banks.damperPort z = none → ∀ a p, ¬ Port z a p))) ∧
    (∀ one : RowKind → Nat → List (RowKind × Nat × Nat),
      (∀ kind k, one kind k = (s.banks.nodeOfClass k).toList.map fun a => (kind, a, 0)) →
      s.calledRows.map (fun r => (r.kind, r.dst, r.port)) = if s.banks.live = none then [] else
        one .blower 3 ++
        ((List.range 8).flatMap fun z => (s.banks.damperPort z).toList.map fun x => (.damper z, x.1, x.2)) ++
        one .compressor 5 ++ one .heater 7 ++ (if s.param 75 7 = 1 then one .pump 6 else [])) ∧
    (∃ t, exec .interlockSwapTaken s = .next t ∧ s.OnlyInterlock t ∧ t.inter.inhibits = s.inter.inhibits ∧
      t.inter.rows.map (fun r => (r.kind, r.dst, r.port)) = s.calledRows.map (fun r => (r.kind, r.dst, r.port)) ∧
      (∀ r ∈ t.inter.rows, ∀ o, s.inter.rows.find? (Row.same r) = some o → r.normal = o.normal ∧ r.cycle = o.cycle) ∧
      (∀ r ∈ t.inter.rows, s.inter.rows.find? (Row.same r) = none →
        r.cycle = none ∧ r.normal = s.inter.heldFor r.kind) ∧
      ((∀ r ∈ t.inter.rows, r.kind ≠ .blower) → t.inter.settle = none) ∧
      (∀ r ∈ t.inter.rows, r.kind = .blower →
        (s.inter.rows.find? (Row.same r) = none → t.inter.settle = some (s.param 74 3) ∧ t.inter.mismatch = 0) ∧
        (∀ o, s.inter.rows.find? (Row.same r) = some o → r.commanded = o.commanded →
          t.inter.settle = s.inter.settle ∧ t.inter.mismatch = s.inter.mismatch)) ∧
      (s.RowsDistinct →
        (∀ r ∈ t.inter.rows, (s.inter.rows.find? (Row.same r) = none ∨
            ∃ o, s.inter.rows.find? (Row.same r) = some o ∧ r.commanded ≠ o.commanded) →
          (∃ a, .act r.dst a r.kind.function r.port r.commanded ∈ t.ring.origin) ∨
            r.dirty = true ∧ t.ring.placeFree = false) ∧
        (∀ r ∈ s.inter.rows, s.calledRows.any (Row.same r) = false →
          (∃ a, .act r.dst a r.kind.function r.port 0 ∈ t.ring.origin) ∨
          t.ring.placeFree = false ∧ ∃ l ∈ t.inter.leaving,
            l.dst = r.dst ∧ l.kind = r.kind ∧ l.port = r.port ∧ l.commanded = 0 ∧ l.dirty = true)))

/-! ### Drying (chapter 6) -/

/-- R93, R96, R102–R105: the want, by its two thresholds, from the largest dry demand D of the LIVE zones; the saturation
estimate, by 1 for each allocation while the heater dries; the frost estimate, by each coil sample; both cleared by the cycle that
cures them; and the DEFROST and REGEN requests. -/
def Obligations.DryingWantAndEstimates : Prop :=
  ∀ (s : State) (D : Nat), s.held = false →
    D = ((s.zones.filter fun z => z.state == .live).map (·.dry)).foldl max 0 →
    (∀ r : AllocRecord, ∃ t, exec (.dryingAllocation r) s = .next t ∧
      t.dry.want = (if s.dry.want then decide (s.param 74 5 < D) else decide (s.param 74 4 ≤ D)) ∧
      t.dry.saturation = (if s.dry.state = .running ∧ s.dry.method = some .desiccant ∧ s.dry.heaterOn = true then
        min 1000 (s.dry.saturation + 1) else s.dry.saturation) ∧
      t.dry.frost = s.dry.frost ∧ t.dry.compOn = s.dry.compOn ∧ t.dry.heaterOn = s.dry.heaterOn ∧
      (s.param 74 8 ≤ s.dry.frost → s.cycles.queuedKind .defrost = false → s.cycles.runningKind .defrost = false →
        .cycleRequest .defrost ∈ t.posts) ∧
      (s.param 74 9 ≤ t.dry.saturation → s.dry.saturation < s.param 74 9 ∨ s.cycles.has .regen = false →
        .cycleRequest .regen ∈ t.posts) ∧
      (t.setDry s.dry).setPosts s.posts = s) ∧
    exec (.dryingCoilTemp none) s = .next (s.took (.dryingCoilTemp none)) ∧
    (∀ (v : Int) (q : Quality), ∃ t, exec (.dryingCoilTemp (some (v, q))) s = .next t ∧
      (s.dry.compOn = true → v < 0 → t.dry.frost = min 1000 (s.dry.frost + 1 + ((-v) / 10).toNat)) ∧
      (s.dry.compOn = true → 0 ≤ v → t.dry.frost = s.dry.frost) ∧
      (s.dry.compOn = false → 30 ≤ v → t.dry.frost = s.dry.frost - 1) ∧
      (s.dry.compOn = false → v < 30 → t.dry.frost = s.dry.frost) ∧
      (s.dry.frost < s.param 74 8 → s.param 74 8 ≤ t.dry.frost → .cycleRequest .defrost ∈ t.posts) ∧
      t.dry.saturation = s.dry.saturation ∧ t.dry.want = s.dry.want ∧ t.dry.compOn = s.dry.compOn ∧
      t.dry.heaterOn = s.dry.heaterOn ∧ (t.setDry s.dry).setPosts s.posts = s) ∧
    (∀ (k : CycleKind) (o : CycleOutcome), ∃ t, exec (.dryingCycleOutcome k o) s = .next t ∧
      t.dry.frost = (if k = .defrost ∧ (o = .done ∨ o = .doneTimed) then 0 else s.dry.frost) ∧
      t.dry.saturation = (if k = .regen ∧ o = .done then 0 else s.dry.saturation) ∧
      t.dry.want = s.dry.want ∧ t.dry.compOn = s.dry.compOn ∧ t.dry.heaterOn = s.dry.heaterOn ∧
      (t.setDry s.dry).setPosts s.posts = s)

/-- R92, R94–R101, R105: the drying states: what an allocation, an output that comes on, one that goes off, a coil sample at the
frost limit and a cycle outcome make of them, the requests posted, and DRY-HELD posted on entering and leaving HELD. The next method
is NONE once a method is started or none is found (log 60). The rooms are cold when the sum of the GOOD and CLAMPED TEMP readings
of the LIVE zones is below the switch temperature times their number; an output is forced off by an inhibit or a cycle request of 0. The
want of an allocation's clauses is the one after it. -/
def Obligations.DryingStatesFollowTheWant : Prop :=
  ∀ (s : State) (m : Method), s.held = false →
    (s.methodAvailable .compressor = true ↔ s.inter.row .compressor ≠ none ∧ s.dry.frost < s.param 74 8 ∧
      s.cycles.queuedKind .defrost = false ∧ s.cycles.runningKind .defrost = false) ∧
    (s.methodAvailable .desiccant = true ↔ s.inter.row .heater ≠ none ∧ s.dry.saturation < s.param 74 9 ∧
      s.cycles.has .regen = false) ∧
    (∀ temps : List Int, temps = (s.zones.filter fun z => z.state == .live && (z.readings.temp.quality == .good ||
        z.readings.temp.quality == .clamped)).map (·.readings.temp.value) →
      (s.roomsCold = true ↔ temps ≠ [] ∧ temps.sum < s.paramInt 74 6 * temps.length)) ∧
    (s.forcedOff m = true ↔ s.inter.inhibits.door = true ∨ s.inter.inhibits.tank = true ∨ s.inter.inhibits.airflow = true ∨
      s.inter.inhibits.run = true ∨ s.inter.inhibits.halt = true ∨
      ∃ r, s.inter.row (if m = .compressor then .compressor else .heater) = some r ∧ r.cycle = some 0) ∧
    (s.chooseMethod = some .desiccant ↔ s.methodAvailable .desiccant = true ∧ s.roomsCold = true) ∧
    (s.chooseMethod = some .compressor ↔ ¬ (s.methodAvailable .desiccant = true ∧ s.roomsCold = true) ∧
      s.methodAvailable .compressor = true) ∧
    (∀ r : AllocRecord, ∃ t, exec (.dryingAllocation r) s = .next t ∧
      (t.dry.state.isHeld ≠ s.dry.state.isHeld → .conditionPost .dryHeld t.dry.state.isHeld ∈ t.posts) ∧
      (t.dry.want = false → s.dry.state = .off ∨ s.dry.state = .heldNoMethod → t.dry.state = .off) ∧
      (t.dry.want = false → s.dry.state = .starting ∨ s.dry.state = .heldForced → s.dry.method = some m →
        t.dry.state = .off ∧ t.dry.method = none ∧ .stopRequest (Method.output m) ∈ t.posts) ∧
      (t.dry.want = false → s.dry.state = .running → s.dry.method = some m →
        t.dry.state = .stopping ∧ t.dry.next = none ∧ .stopRequest (Method.output m) ∈ t.posts) ∧
      (t.dry.want = false → s.dry.state = .stopping → t.dry.state = .stopping ∧ t.dry.next = none) ∧
      (t.dry.want = true → s.dry.state = .off ∨ s.dry.state = .heldNoMethod → s.chooseMethod = none →
        t.dry.state = .heldNoMethod ∧ t.dry.method = none) ∧
      (t.dry.want = true → s.dry.state = .off ∨ s.dry.state = .heldNoMethod → s.chooseMethod = some m →
        t.dry.method = some m ∧ t.dry.next = none ∧
        .runRequest (Method.output m) (if m = .compressor then 1 else s.param 74 7) ∈ t.posts ∧
        t.dry.state = (if s.dry.recorded m then .running else if s.forcedOff m then .heldForced else .starting)) ∧
      (t.dry.want = true → s.dry.state = .starting ∨ s.dry.state = .heldForced → s.dry.method = some m →
        t.methodAvailable m = true → t.dry.method = some m ∧ t.dry.next = s.dry.next ∧
        t.dry.state = (if s.dry.recorded m then .running else if s.forcedOff m then .heldForced else .starting)) ∧
      (t.dry.want = true → s.dry.state = .running → s.dry.method = some m → t.methodAvailable m = true →
        t.dry.state = .running ∧ t.dry.method = some m ∧ t.dry.next = s.dry.next) ∧
      (t.dry.want = true → s.dry.state = .starting ∨ s.dry.state = .running ∨ s.dry.state = .heldForced →
        s.dry.method = some m → t.methodAvailable m = false → t.SwitchedFrom m (s.dry.recorded m)) ∧
      (t.dry.want = true → s.dry.state = .stopping → s.dry.method = some m →
        (t.chooseMethod = some m → t.dry.state = .running ∧ t.dry.method = some m ∧ t.dry.next = none ∧
          .runRequest (Method.output m) (if m = .compressor then 1 else s.param 74 7) ∈ t.posts) ∧
        (t.chooseMethod ≠ some m → t.dry.state = .stopping ∧ t.dry.method = some m ∧ t.dry.next = t.chooseMethod))) ∧
    (exec (.dryingOutputOn .pump) s = .next (s.took (.dryingOutputOn .pump)) ∧
      exec (.dryingOutputOff .pump) s = .next (s.took (.dryingOutputOff .pump))) ∧
    (s.dry.recorded m = true →
      exec (.dryingOutputOn (Method.output m)) s = .next (s.took (.dryingOutputOn (Method.output m)))) ∧
    (s.dry.recorded m = false →
      exec (.dryingOutputOff (Method.output m)) s = .next (s.took (.dryingOutputOff (Method.output m)))) ∧
    (s.dry.recorded m = false → ∃ t, exec (.dryingOutputOn (Method.output m)) s = .next t ∧ t.dry.recorded m = true ∧
      (s.dry.state = .starting ∨ s.dry.state = .heldForced → s.dry.method = some m → t.dry.state = .running) ∧
      (s.dry.state = .off ∨ s.dry.state = .heldNoMethod → t.dry.state = .stopping ∧ t.dry.method = some m) ∧
      (s.dry.state = .running ∨ s.dry.state = .stopping ∨
        (s.dry.state = .starting ∨ s.dry.state = .heldForced) ∧ s.dry.method ≠ some m → t.dry.state = s.dry.state) ∧
      (t.dry.state.isHeld ≠ s.dry.state.isHeld → .conditionPost .dryHeld t.dry.state.isHeld ∈ t.posts) ∧
      (t.setDry s.dry).setPosts s.posts = s) ∧
    (s.dry.recorded m = true → ∃ t, exec (.dryingOutputOff (Method.output m)) s = .next t ∧ t.dry.recorded m = false ∧
      (s.dry.method = some m → s.dry.state = .stopping → s.dry.want = false →
        t.dry.state = .off ∧ t.dry.method = none ∧ t.dry.next = none) ∧
      (s.dry.method = some m → s.dry.state = .running → s.methodAvailable m = true →
        t.dry.state = if s.forcedOff m then .heldForced else .starting) ∧
      (s.dry.method = some m → s.dry.state = .running → s.methodAvailable m = false → t.SwitchedFrom m false) ∧
      (s.dry.method = some m → s.dry.state = .stopping → s.dry.want = true →
        (∀ n, s.dry.next = some n → s.methodAvailable n = true → t.StartedMethod n) ∧
        ((∀ n, s.dry.next = some n → s.methodAvailable n = false) → t.StartedChosen)) ∧
      (s.dry.method ≠ some m ∨ s.dry.state ≠ .running ∧ s.dry.state ≠ .stopping → t.dry.state = s.dry.state) ∧
      (t.dry.state.isHeld ≠ s.dry.state.isHeld → .conditionPost .dryHeld t.dry.state.isHeld ∈ t.posts) ∧
      (t.setDry s.dry).setPosts s.posts = s) ∧
    (∀ (v : Int) (q : Quality), ∃ t, exec (.dryingCoilTemp (some (v, q))) s = .next t ∧
      (s.dry.frost < s.param 74 8 → s.param 74 8 ≤ t.dry.frost → s.dry.method = some .compressor →
        s.dry.state = .starting ∨ s.dry.state = .running ∨ s.dry.state = .heldForced →
        t.SwitchedFrom .compressor s.dry.compOn) ∧
      (t.dry.frost < s.param 74 8 ∨ s.param 74 8 ≤ s.dry.frost ∨ s.dry.method ≠ some .compressor ∨
          s.dry.state = .off ∨ s.dry.state = .stopping ∨ s.dry.state = .heldNoMethod →
        t.dry = { s.dry with frost := t.dry.frost }) ∧
      (t.dry.state.isHeld ≠ s.dry.state.isHeld → .conditionPost .dryHeld t.dry.state.isHeld ∈ t.posts)) ∧
    (∀ (k : CycleKind) (o : CycleOutcome), ∃ t, exec (.dryingCycleOutcome k o) s = .next t ∧
      (s.dry.state = .heldNoMethod → s.dry.want = true → t.StartedChosen) ∧
      (s.dry.state = .heldForced → s.dry.method = some m → t.dry.method = some m ∧
        t.dry.state = (if s.dry.recorded m then .running else if s.forcedOff m then .heldForced else .starting)) ∧
      (s.dry.state = .off ∨ s.dry.state = .starting ∨ s.dry.state = .running ∨ s.dry.state = .stopping ∨
          s.dry.state = .heldNoMethod ∧ s.dry.want = false →
        t.dry = { s.dry with frost := t.dry.frost, saturation := t.dry.saturation }) ∧
      (t.dry.state.isHeld ≠ s.dry.state.isHeld → .conditionPost .dryHeld t.dry.state.isHeld ∈ t.posts))

/-! ### Water (chapter 7) -/

/-- R109–R111, R113, R114, R116–R120: what each water event makes of the Tank Record: `w` is the record it leaves, before the state is
evaluated under R114; `applies`: a row of the tables takes it. One that applies has the state evaluated; any other, and a PUMP-OUT outcome
but ABORTED, leaves the state as it is, and still reports (log 36). A tank report is posted last, with the probe level of the sample just
taken and the empty indication, which a sample of level 0 sets with the kind TANK only (log 52). A swap that newly fits the pump asks for
PUMP-OUT in NEAR and FULL with the latch clear; the field it is compared with is the one last taken, which is the model's (log 18). -/
def Obligations.TankRecordTakesItsEvents : Prop :=
  ∀ (s : State) (c : Instr) (w : Water) (applies isTank : Bool), s.held = false → isTank = (s.water.kind == some .tank) →
    ((∃ v sat, c = .deposit v sat ∧ applies = isTank ∧ w = if isTank then { s.water with
        estimate := min (s.water.estimate + v) (s.param 75 1), certain := s.water.certain && !sat } else s.water) ∨
     (∃ v sat, c = .removal v sat ∧ applies = isTank ∧ w = if isTank then { s.water with
        estimate := s.water.estimate - v, certain := s.water.certain && !sat } else s.water) ∨
     (c = .uncertain ∧ applies = (s.water.kind != some .drain) ∧
      w = if s.water.kind = some .drain then s.water else { s.water with certain := false }) ∨
     (c = .tankLevel none ∧ applies = isTank ∧ w = if isTank then { s.water with certain := false } else s.water) ∨
     (∃ (l : Fin 16) (q : Quality), c = .tankLevel (some (l, q)) ∧ applies = (isTank && !s.water.removed) ∧
      w = if isTank = true ∧ s.water.removed = false then { s.water with
        estimate := (if s.water.known = false ∨ s.param 75 5 < s.param 75 (8 + l.val) - s.water.estimate ∨
          s.param 75 5 < s.water.estimate - s.param 75 (8 + l.val) then s.param 75 (8 + l.val) else s.water.estimate)
        known := true, certain := true, probe := some l.val } else s.water) ∨
     (c = .tankOut ∧ applies = (isTank && !s.water.removed) ∧
      w = if isTank then { s.water with removed := true } else s.water) ∨
     (c = .tankIn ∧ applies = isTank ∧ w = if isTank then { s.water with
        removed := false, estimate := 0, known := false, probe := none, certain := false } else s.water) ∨
     (∃ a, c = .pumpOutOutcome (.aborted a) ∧ applies = true ∧ w = { s.water with certain := false }) ∨
     (∃ o, c = .pumpOutOutcome o ∧ (∀ a, o ≠ .aborted a) ∧ applies = false ∧
      w = if o = .failed .noFlow then { s.water with pumpFault := true } else s.water) ∨
     (c = .waterSwapTaken ∧ applies = true ∧ s.water.kind = some .tank ∧ s.pageKind = some .tank ∧
      w = { s.water with estimate := min s.water.estimate (s.param 75 1), fitted := s.pumpFitted }) ∨
     (c = .waterSwapTaken ∧ applies = true ∧ s.water.kind ≠ some .tank ∧ s.pageKind = some .tank ∧ w = { s.water with
        kind := some .tank, estimate := 0, known := false, certain := false, probe := none, removed := false,
        fitted := s.pumpFitted }) ∨
     (c = .waterSwapTaken ∧ applies = true ∧ s.water.kind ≠ some .drain ∧ s.pageKind = some .drain ∧ w = { s.water with
        kind := some .drain, estimate := 0, certain := true, probe := none, removed := false,
        fitted := s.pumpFitted }) ∨
     (c = .waterSwapTaken ∧ applies = true ∧ s.water.kind = some .drain ∧ s.pageKind = some .drain ∧
      w = { s.water with fitted := s.pumpFitted })) →
    ∃ t r, exec c s = .next t ∧ { t.water with state := w.state } = w ∧
      (applies = true → t.water.state = w.evaluate s.tankPage) ∧ (applies = false → t.water.state = s.water.state) ∧
      t.posts.getLast? = some (.tankReport r) ∧ r.state = t.water.state ∧ r.estimate = t.water.estimate ∧
      r.known = t.water.known ∧ r.certain = t.water.certain ∧
      (∀ l q, c = .tankLevel (some (l, q)) → r.probe = some l.val) ∧
      ((∀ x, c ≠ .tankLevel (some x)) → r.probe = none) ∧
      (r.empty = true ↔ ((∃ q, c = .tankLevel (some (0, q))) ∧ t.water.kind = some .tank) ∨
        (t.water.state = .normal ∧ t.water.estimate ≤ s.param 75 2)) ∧
      (c = .pumpOutOutcome (.failed .noFlow) → s.water.pumpFault = false →
        t.posts = s.posts.erase c ++ [.inhibitClaim .pump, .conditionPost .pumpFault true, .tankReport r]) ∧
      (∀ newly : Bool, newly = (c == .waterSwapTaken && !s.water.fitted && s.pumpFitted) →
        (newly = true → t.water.state = .near ∨ t.water.state = .full → s.water.pumpFault = false →
          .cycleRequest .pumpOut ∈ t.posts ∧
          (t.water.state = s.water.state → t.posts = s.posts.erase c ++ [.cycleRequest .pumpOut, .tankReport r])) ∧
        (t.water.state = s.water.state → t.water.pumpFault = s.water.pumpFault →
          newly = false ∨ s.water.pumpFault = true ∨ t.water.state ≠ .near ∧ t.water.state ≠ .full →
          t.posts = s.posts.erase c ++ [.tankReport r])) ∧
      (t.setWater s.water).setPosts s.posts = s

/-- R114–R116: the tank state is read off the record: FULL while the float is up; a drain is DRAIN; a tank is OUT while removed,
UNKNOWN while its estimate is not known, and else FULL, NEAR or NORMAL by its marks, each reached a margin earlier while uncertain.
A change, by a water event or the FLOAT line, claims or releases TANK, which FULL, UNKNOWN and OUT claim, posts the conditions that changed, and asks for PUMP-OUT in
NEAR and FULL. -/
def Obligations.TankStateFollowsTheRecord : Prop :=
  (∀ (p : TankPage) (w : Water) (margin : Nat), margin = (if w.certain then 0 else p.margin) →
    (w.float = true → w.evaluate p = .full) ∧
    (w.float = false → w.kind = some .drain → w.evaluate p = .drain) ∧
    (w.float = false → w.kind = some .tank →
      (w.removed = true → w.evaluate p = .out) ∧
      (w.removed = false → w.known = false → w.evaluate p = .unknown) ∧
      (w.removed = false → w.known = true →
        (p.full ≤ w.estimate + margin → w.evaluate p = .full) ∧
        (w.estimate + margin < p.full → p.near ≤ w.estimate + margin → w.evaluate p = .near) ∧
        (w.estimate + margin < p.full → w.estimate + margin < p.near → w.evaluate p = .normal)))) ∧
  (∀ x, claimsTank x = true ↔ x = .full ∨ x = .unknown ∨ x = .out) ∧
  (∀ (c : Instr) (s : State), s.held = false →
    (∃ v b, c = .deposit v b) ∨ (∃ v b, c = .removal v b) ∨ c = .uncertain ∨ (∃ x, c = .tankLevel x) ∨ c = .tankOut ∨
      c = .tankIn ∨ (∃ o, c = .pumpOutOutcome o) ∨ c = .waterSwapTaken ∨ (∃ b, c = .floatLineChange b) →
    ∃ t, exec c s = .next t ∧ (t.water.state ≠ s.water.state →
      (claimsTank t.water.state = true → claimsTank s.water.state = false → .inhibitClaim .tank ∈ t.posts) ∧
      (claimsTank t.water.state = false → claimsTank s.water.state = true → .inhibitRelease .tank ∈ t.posts) ∧
      (t.water.state = .near ∨ s.water.state = .near →
        .conditionPost .tankNear (decide (t.water.state = .near)) ∈ t.posts) ∧
      (t.water.state = .full ∨ s.water.state = .full →
        .conditionPost .tankFull (decide (t.water.state = .full)) ∈ t.posts) ∧
      (t.water.state = .out ∨ s.water.state = .out →
        .conditionPost .tankOut (decide (t.water.state = .out)) ∈ t.posts) ∧
      (t.water.state = .near ∨ t.water.state = .full → s.pumpFitted = true → t.water.pumpFault = false →
        .cycleRequest .pumpOut ∈ t.posts)))

/-! ### Cycles (chapter 8) -/

/-- R124–R128, R132: a cycle request: refused or already present, it changes nothing; it waits behind a cycle it does not
preempt; alone, it starts with its first step and its plan, or fails at once while the blower-fault latch is set; and one that
outranks a running REGEN or PROFILE sets it aside and starts, or at its fourth preemption ends it ABORTED(SUSPEND-LIMIT). The step's
parameters are read at its start, and its plan makes the claims of R128's table, the dampers named for the zones with a damper port. -/
def Obligations.CycleRequestsQueueStartOrPreempt : Prop :=
  ∀ (k : CycleKind) (s : State), s.held = false →
    (∀ (n : Nat) (live every : List Claim),
      (∀ z a p, (z, a, p) ∈ s.banks.damperPorts ↔ z < 8 ∧ s.banks.damperPort z = some (a, p)) ∧
      (live = s.banks.damperPorts.map (fun x =>
        { target := .damper x.1 x.2.1 x.2.2, value := if (s.zone x.1).state = .live then 100 else 0 }) →
       every = s.banks.damperPorts.map (fun x => { target := .damper x.1 x.2.1 x.2.2, value := 0 }) →
       s.planOf .melt = [{ target := .compressor, value := 0 }, { target := .heater, value := 0 },
         { target := .blower, value := s.param 77 0 }] ++ live ∧
       s.planOf .prime = [{ target := .pump, value := 1 }] ∧ s.planOf .drain = [{ target := .pump, value := 1 }] ∧
       s.planOf .heat = [{ target := .heater, value := s.param 77 5 }, { target := .blower, value := s.param 77 6 }] ++ every ∧
       s.planOf .purge = [{ target := .heater, value := 0 }, { target := .blower, value := s.param 77 6 }] ++ every ∧
       ∀ step ∈ [CycleStep.settle n, .measure n], s.planOf step = [{ target := .compressor, value := 0 },
         { target := .heater, value := 0 }, { target := .blower, value := n }] ++ live)) ∧
    (s.cycleRefusal k = none ↔ s.isLive = true ∧ (if k = .pumpOut then
      s.water.pumpFault = false ∧ s.cycles.level ≠ .unconfigured ∧ s.cycles.level ≠ .halt ∧ s.pumpFitted = true
      else s.cycles.level = .active ∧ s.cycles.door = false)) ∧
    (s.cycleRefusal k ≠ none ∨ s.cycles.has k = true → exec (.cycleRequest k) s = .next (s.took (.cycleRequest k))) ∧
    (s.cycleRefusal k = none → s.cycles.has k = false →
      (∀ c, s.cycles.running = some c → c.held = false →
        outranks k c.kind = false ∨ c.kind = .defrost ∨ c.kind = .pumpOut ∨ s.cycles.suspended ≠ none →
        ∃ q, q.Perm (Cycle.queued k :: s.cycles.queue) ∧ (∀ x ∈ s.cycles.queue, x ∈ q) ∧
          exec (.cycleRequest k) s = .next ((s.took (.cycleRequest k)).setCycles { s.cycles with queue := q })) ∧
      (s.cycles.running = none → s.cycles.suspended = none → s.cycles.queue = [] → ∃ t, exec (.cycleRequest k) s = .next t ∧
        t.cycles.queue = [] ∧ t.cycles.suspended = none ∧ (t.setCycles s.cycles).setPosts s.posts = s ∧
        (k ≠ .pumpOut → s.inter.fault = true → t.cycles.running = none ∧
          t.cycles.record k = { outcome := .failed .airflow, endSweep := s.ring.lastBegin, completed := 0 } ∧
          .flagSetClaim .cycleFail ∈ t.posts) ∧
        (k = .pumpOut ∨ s.inter.fault = false → (k = .profile → ∃ i < 3, s.param 76 (8 * i) = 1) →
          ∃ c, t.cycles.running = some c ∧ c.kind = k ∧
            c.step = (match k with
              | .defrost => .melt
              | .pumpOut => .prime
              | .regen => .heat
              | .profile => .settle 1) ∧
            c.held = (k == .regen && s.cycles.tankHold) ∧ c.suspends = 0 ∧ c.completed = 0 ∧ c.plan = s.planOf c.step ∧
            (k = .defrost → c.cycleTimer = some (s.param 77 2) ∧ c.endTemp = s.paramInt 77 1 ∧ c.stepTimer = none) ∧
            (k = .pumpOut → c.cycleTimer = some (s.param 77 4) ∧ c.flowTime = s.param 77 3 ∧ c.stepTimer = none) ∧
            (k = .regen → c.cycleTimer = none ∧ c.stepTimer = some (s.param 77 7)) ∧
            (k = .profile → c.cycleTimer = none ∧ c.stepTimer = some (s.param 77 9) ∧ c.profile.top = s.param 73 16 ∧
              c.profile.points = [[], [], []] ∧ ∀ i, i < 3 → c.profile.fitted[i]? = some (s.param 76 (8 * i) == 1)) ∧
            (c.held = false → .cyclePlan k c.plan ∈ t.posts) ∧ (c.held = true → .cyclePlan k [] ∈ t.posts) ∧
            (∃ claims, .cyclePlan k claims ∈ t.posts) ∧ (k = .defrost → .defrostRegimeSet ∈ t.posts) ∧
            (k = .regen → s.cycles.tankHold = false → .regenActive ∈ t.posts))) ∧
      (∀ c, s.cycles.running = some c → outranks k c.kind = true → c.kind = .regen ∨ c.kind = .profile →
        s.cycles.suspended = none → s.cycles.queue = [] → c.suspends < 3 → k = .pumpOut ∨ s.inter.fault = false →
        ∃ t d e, exec (.cycleRequest k) s = .next t ∧ t.cycles.running = some d ∧ d.kind = k ∧
          t.cycles.suspended = some e ∧ e.kind = c.kind ∧ e.suspends = c.suspends + 1 ∧ e.held = false ∧
          (c.kind = .regen → s.CycleLaw → e.step = c.step ∧ e.stepTimer = c.stepTimer) ∧
          (c.kind = .profile → e.profile.points = c.profile.points ∧ e.profile.top = c.profile.top ∧
            e.profile.fitted = c.profile.fitted ∧ e.profile.sums = [] ∧
            ∀ k, c.step = .settle k ∨ c.step = .measure k → e.step = .settle k) ∧
          t.cycles.queue = [] ∧ .planRelease ∈ t.posts ∧ (c.active = true → .regenInactive ∈ t.posts)) ∧
      (∀ c, s.cycles.running = some c → outranks k c.kind = true → c.kind = .regen ∨ c.kind = .profile →
        s.cycles.suspended = none → s.cycles.queue = [] → 3 ≤ c.suspends → k = .pumpOut ∨ s.inter.fault = false →
        ∃ t d, exec (.cycleRequest k) s = .next t ∧ t.cycles.running = some d ∧ d.kind = k ∧ t.cycles.suspended = none ∧
          t.cycles.record c.kind =
            { outcome := .aborted .suspendLimit, endSweep := s.ring.lastBegin, completed := c.completed } ∧
          .planRelease ∈ t.posts ∧ (c.kind = .regen → .dryingCycleOutcome .regen (.aborted .suspendLimit) ∈ t.posts) ∧
          (c.kind = .profile → .profileOutcome (.aborted .suspendLimit) [] ∈ t.posts)))

/-- R128–R133: the steps of a running cycle that goes on: PRIME's timer starts as the pump turns on; the first flow ends PRIME;
HEAT gives way to PURGE; SETTLE to MEASURE, which waits while the blower is not at its step; samples are summed; MEASURE gives way
to the next SETTLE below the top step; a MEASURE that waits begins at the first sample of a fitted stage taken with the blower at its
step, and counts it. A REGEN is held while the tank holds it and runs on after, with the plan of its step as it was read (R128, log 54). A step
starts with its plan (log 44); a MEASURE that waits is held as MEASURE of its step (log 55); an expiry without a running timer, or of a held cycle's step timer, changes nothing (log 5). -/
def Obligations.RunningCycleAdvances : Prop :=
  ∀ (s : State) (c : Cycle), s.held = false → s.cycles.running = some c →
    (∀ (v : Nat), c.step = .prime → v ≠ 0 → exec (.cycleOutputChanged .pump v) s =
      .next ((s.took (.cycleOutputChanged .pump v)).setRunning (some { c with stepTimer := some c.flowTime }))) ∧
    (∀ (o : Output) (v : Nat), o ≠ .pump ∨ v = 0 ∨ c.step ≠ .prime →
      exec (.cycleOutputChanged o v) s = .next (s.took (.cycleOutputChanged o v))) ∧
    (∀ v q, c.step = .prime → 0 < v → exec (.pumpFlow (some (v, q))) s =
      .next (((s.took (.pumpFlow (some (v, q)))).setRunning (some { c with
        step := .drain, stepTimer := none, completed := 1, plan := [{ target := .pump, value := 1 }] })).post
          [.cyclePlan c.kind [{ target := .pump, value := 1 }]])) ∧
    (∀ x, c.step ≠ .prime ∨ x = none ∨ (∃ q, x = some (0, q)) → exec (.pumpFlow x) s = .next (s.took (.pumpFlow x))) ∧
    (c.step = .heat → c.held = false → c.stepTimer ≠ none → ∃ t claims, exec .stepTimerExpiry s = .next t ∧
      t = ((s.took .stepTimerExpiry).setRunning
        (some { c with step := .purge, stepTimer := some (s.param 77 8), completed := 1, plan := claims })).post
          [.cyclePlan c.kind claims] ∧
      claims = [{ target := .heater, value := 0 }, { target := .blower, value := s.param 77 6 }] ++
        s.banks.damperPorts.map fun x => { target := .damper x.1 x.2.1 x.2.2, value := 0 }) ∧
    (c.stepTimer = none ∨ c.held = true → exec .stepTimerExpiry s = .next (s.took .stepTimerExpiry)) ∧
    (c.cycleTimer = none → exec .cycleTimerExpiry s = .next (s.took .cycleTimerExpiry)) ∧
    (∀ k, c.step = .settle k → c.held = false → c.stepTimer ≠ none → ∃ t d, exec .stepTimerExpiry s = .next t ∧
      t.cycles.running = some d ∧ d.step = .measure k ∧ d.stepTimer = some (s.param 77 10) ∧
      d.profile.waiting = (if s.blowerOutput = k then false else true)) ∧
    (∀ k, c.step = .measure k → c.held = false → c.stepTimer ≠ none → c.profile.waiting = false →
      c.profile.starved = false → k < c.profile.top → ∃ t d, exec .stepTimerExpiry s = .next t ∧
      t.cycles.running = some d ∧ d.step = .settle (k + 1) ∧ d.stepTimer = some (s.param 77 9) ∧ d.completed = k ∧
      (∀ i, i < 3 → c.profile.fitted.getD i false = true → d.profile.points.getD i [] =
        c.profile.points.getD i [] ++ [(k, (c.profile.sums.getD i (0, 0)).1 / (c.profile.sums.getD i (0, 0)).2)])) ∧
    (∀ k st v q, c.step = .measure k → c.profile.fitted.getD (Stage.index st) false = true → c.profile.waiting = false →
      ∃ t d, exec (.dpSample st (some (v, q))) s = .next t ∧ t.cycles.running = some d ∧ d.step = c.step ∧
      (∀ x, c.profile.sums[Stage.index st]? = some x →
        d.profile.sums[Stage.index st]? = some (x.1 + v, x.2 + 1)) ∧
      (t.setCycles s.cycles) = s.took (.dpSample st (some (v, q)))) ∧
    (∀ k st v q, c.step = .measure k → c.profile.fitted.getD (Stage.index st) false = true → c.profile.waiting = true →
      (s.blowerOutput = k → ∃ t d, exec (.dpSample st (some (v, q))) s = .next t ∧ t.cycles.running = some d ∧
        d.step = .measure k ∧ d.profile.waiting = false ∧ d.stepTimer = some (s.param 77 10) ∧
        (∀ i, i < 3 → d.profile.sums[i]? = some (if i = Stage.index st then (v, 1) else (0, 0))) ∧
        d.profile.points = c.profile.points ∧ .cyclePlan c.kind (s.planOf (.measure k)) ∈ t.posts) ∧
      (s.blowerOutput ≠ k → exec (.dpSample st (some (v, q))) s = .next (s.took (.dpSample st (some (v, q)))))) ∧
    (∀ st v q, (∀ k, c.step ≠ .measure k) ∨ c.profile.fitted.getD (Stage.index st) false = false →
      exec (.dpSample st (some (v, q))) s = .next (s.took (.dpSample st (some (v, q))))) ∧
    (∀ st, exec (.dpSample st none) s = .next (s.took (.dpSample st none))) ∧
    (∀ r : TankReport, c.kind = .regen → c.held = false → claimsTank r.state = true →
      s.cycles.suspended = none → ∃ t, exec (.tankReport r) s = .next t ∧
      t.cycles.running = some { c with held := true, active := false } ∧ t.cycles.tankHold = true ∧
      .cyclePlan .regen [] ∈ t.posts ∧ (c.active = true → .regenInactive ∈ t.posts)) ∧
    (∀ r : TankReport, c.kind = .regen → c.held = true → claimsTank r.state = false →
      ∃ t, exec (.tankReport r) s = .next t ∧ t.cycles.running = some { c with held := false, active := true } ∧
      t.cycles.tankHold = false ∧ t.posts = s.posts.erase (.tankReport r) ++ [.cyclePlan .regen c.plan, .regenActive]) ∧
    (∀ r : TankReport, c.kind = .defrost ∨ c.kind = .profile → exec (.tankReport r) s =
      .next ((s.took (.tankReport r)).setCycles { s.cycles with tankHold := claimsTank r.state }))

/-- R126, R129–R136: how a running cycle ends: DEFROST DONE when the coil is warm and DONE-TIMED at its limit; PUMP-OUT
FAILED(NO-FLOW) when PRIME finds no flow, DONE on an empty tank, ABORTED(NO-TANK) on one taken out, the empty indication first where a
report has both (log 34); REGEN DONE after PURGE, and ABORTED(HELD) where it is held while a cycle is suspended and one that outranks
it waits; PROFILE DONE after the top step, its result the points of each fitted stage with that of the last step (R134), and FAILED(NO-DATA)
without samples; any other end has no result; every cycle but PUMP-OUT FAILED(AIRFLOW) when airflow
is lost. With nothing queued a suspended cycle then resumes, in its step. -/
def Obligations.CyclesEndWithTheirOutcome : Prop :=
  ∀ (s : State) (c : Cycle) (i : Instr) (o : CycleOutcome) (n : Nat) (result : List (Option Curve)), s.held = false → s.CycleLaw →
    s.cycles.running = some c →
    result = (match o, c.step with
      | .done, .measure k => (List.range 3).map fun i => if c.profile.fitted.getD i false = true then
          some (c.profile.points.getD i [] ++ [(k, (c.profile.sums.getD i (0, 0)).1 / (c.profile.sums.getD i (0, 0)).2)])
        else none
      | _, _ => []) →
    ((∃ (v : Int) (q : Quality), i = .cycleCoilTemp (some (v, q)) ∧ c.step = .melt ∧ c.endTemp ≤ v ∧ o = .done ∧ n = 1) ∨
     (i = .cycleTimerExpiry ∧ c.cycleTimer ≠ none ∧ o = .doneTimed ∧
       (c.step = .melt ∧ n = 1 ∨ c.step = .prime ∧ n = c.completed ∨ c.step = .drain ∧ n = 2)) ∨
     (i = .stepTimerExpiry ∧ c.stepTimer ≠ none ∧ c.held = false ∧
       (c.step = .prime ∧ o = .failed .noFlow ∧ n = c.completed ∨ c.step = .purge ∧ o = .done ∧ n = 2 ∨
        (∃ k, c.step = .measure k ∧ (c.profile.waiting = true ∨ c.profile.starved = true) ∧ o = .failed .noData ∧
          n = c.completed) ∨
        (∃ k, c.step = .measure k ∧ c.profile.waiting = false ∧ c.profile.starved = false ∧ c.profile.top ≤ k ∧
          o = .done ∧ n = k))) ∨
     (∃ r : TankReport, i = .tankReport r ∧ c.kind = .pumpOut ∧
       (r.empty = true ∧ o = .done ∧ n = (if c.step = .drain then 2 else c.completed) ∨
        r.empty = false ∧ (r.state = .out ∨ r.state = .drain) ∧ o = .aborted .noTank ∧ n = c.completed)) ∨
     (∃ r : TankReport, i = .tankReport r ∧ c.kind = .regen ∧ c.held = false ∧ claimsTank r.state = true ∧
       s.cycles.suspended ≠ none ∧ (∃ q ∈ s.cycles.queue, q.kind = .defrost ∨ q.kind = .pumpOut) ∧
       o = .aborted .held ∧ n = c.completed) ∨
     (∃ k, i = .cycleRequest k ∧ c.kind = .regen ∧ c.held = true ∧ s.cycles.suspended ≠ none ∧
       (k = .defrost ∨ k = .pumpOut) ∧ s.cycleRefusal k = none ∧ s.cycles.has k = false ∧
       o = .aborted .held ∧ n = c.completed) ∨
     (i = .airflowLost ∧ c.kind ≠ .pumpOut ∧ o = .failed .airflow ∧ n = c.completed)) →
    ∃ t, exec i s = .next t ∧ s.RunningEnds t c o n result ∧
      ((∀ k, i ≠ .cycleRequest k) → ∀ p, s.cycles.queue = [] → s.cycles.suspended = some p → p.held = false →
        s.inter.fault = false → (p.kind = .profile → true ∈ p.profile.fitted) → s.Resumes t p)

/-- R135: airflow lost ends a running DEFROST, REGEN or PROFILE, held or not, FAILED(AIRFLOW); a running PUMP-OUT and, but for
what then comes to run, queued and suspended cycles are not affected; one that comes to run while the latch is set fails then. -/
def Obligations.AirflowLostEndsTheRunningCycle : Prop :=
  (∀ (s : State) (c : Cycle), s.held = false → s.CycleLaw → s.cycles.running = some c → c.kind ≠ .pumpOut →
    ∃ t, exec .airflowLost s = .next t ∧ s.RunningEnds t c (.failed .airflow) c.completed [] ∧
      (.pumpOut ∈ s.cycles.kinds → .pumpOut ∈ t.cycles.kinds) ∧
      (s.inter.fault = false → ∀ k ∈ s.cycles.kinds, k ≠ c.kind → k ≠ .profile → k ∈ t.cycles.kinds)) ∧
  (∀ s : State, s.held = false → (s.cycles.running = none ∨ ∃ c, s.cycles.running = some c ∧ c.kind = .pumpOut) →
    exec .airflowLost s = .next (s.took .airflowLost)) ∧
  (∀ (s : State) (fresh : Bool) (c : Cycle), s.inter.fault = true → c.kind ≠ .pumpOut →
    s.launch fresh c = .ends c (.failed .airflow))

/-- R138: a run level posted to the Cycle Engine: in WATCH every cycle but PUMP-OUT ends, in HALT every cycle; a running or a
suspended one ABORTED(RUN-LEVEL), a queued one CANCELLED; other levels end nothing. In WATCH a PUMP-OUT that runs runs on unchanged, a
queued one then starts, and a request for one is accepted as in ACTIVE. -/
def Obligations.RunLevelEndsCycles : Prop :=
  ∀ (s : State) (l : RunLevel), s.held = false → s.CycleLaw → s.cycles.level ≠ l →
    ∃ t, exec (.cycleRunLevelChange l) s = .next t ∧ t.cycles.level = l ∧ (t.setCycles s.cycles).setPosts s.posts = s ∧
      (l = .halt → t.cycles.kinds = []) ∧ (l = .watch → ∀ k ∈ t.cycles.kinds, k = .pumpOut) ∧
      (l = .watch → (∀ c, s.cycles.running = some c → c.kind = .pumpOut → t.cycles.running = some c) ∧
        ((∃ c ∈ s.cycles.queue, c.kind = .pumpOut) → ∃ d, t.cycles.running = some d ∧ d.kind = .pumpOut ∧ d.step = .prime ∧
          d.cycleTimer = some (s.param 77 4) ∧ .cyclePlan .pumpOut [{ target := .pump, value := 1 }] ∈ t.posts) ∧
        (t.cycleRefusal .pumpOut = none ↔ s.isLive = true ∧ s.water.pumpFault = false ∧ s.param 75 7 = 1)) ∧
      (l = .active ∨ l = .unconfigured → t.cycles = { s.cycles with level := l }) ∧
      (∀ c, s.cycles.running = some c ∨ s.cycles.suspended = some c →
        l = .halt ∨ l = .watch ∧ c.kind ≠ .pumpOut → t.cycles.record c.kind =
          { outcome := .aborted .runLevel, endSweep := s.ring.lastBegin, completed := c.completed }) ∧
      (∀ c ∈ s.cycles.queue, l = .halt ∨ l = .watch ∧ c.kind ≠ .pumpOut → t.cycles.record c.kind =
          { outcome := .cancelled, endSweep := s.ring.lastBegin, completed := c.completed })

/-! ### Filters (chapter 9) -/

/-- R142–R146: an allocation adds each fitted stage's charge, never past 16777215: for an APPLIED record from the assigned
airflow of the zones and their readings, for a NOT-APPLIED one from the airflow of the blower's step and the mean over the LIVE zones; a
reading counts with quality GOOD or CLAMPED. The stage's state follows its charge, verdict and baseline (a worn threshold of 0: log 59); run sweeps rise while the
blower runs. A PROFILE is requested, and the run sweeps of every fitted stage restart, when a fitted stage has run the profile interval
(an interval of 0 calls for none), or the baseline request mark, which clears, finds a fitted stage without a baseline. FILTER-WORN and FILTER-SPENT are posted where their
truth changed, before the PROFILE request. -/
def Obligations.AllocationLoadsTheFilters : Prop :=
  ∀ (r : AllocRecord) (s : State) (st : Stage) (x : StageRecord) (life threshold gain : Nat)
    (conc : Zone → Stage → Nat) (Due : Prop), s.held = false →
    x = s.filters.stage st →
    life = s.param 76 (8 * Stage.index st + 1) % 256 * 65536 + s.param 76 (8 * Stage.index st + 2) →
    threshold = life * s.param 76 (8 * Stage.index st + 3) / 100 →
    (∀ (z : Zone) (val : ZoneField → Nat), (∀ f, val f = if (z.readings.get f).quality = .good ∨ (z.readings.get f).quality = .clamped then
        (z.readings.get f).value.toNat else 0) →
      conc z .pre = val .pmFine + val .pmCoarse ∧ conc z .fine = val .pmFine ∧ conc z .sorb = val .voc) →
    gain = (if r.applied then ((List.range 8).map fun z => r.assigned.getD z 0 * conc (s.zone z) st).sum
      else if s.zones.filter (fun z => z.state == .live) = [] then 0
      else (if s.blowerOutput = 0 then 0 else s.param 73 (s.blowerOutput - 1) * s.filters.derate / 100) *
        ((s.zones.filter fun z => z.state == .live).map fun z => conc z st).sum /
        (s.zones.filter fun z => z.state == .live).length) *
      (s.param 78 0 * (if s.ring.level = .watch then s.param 78 1 else 1)) *
      s.param 76 (8 * Stage.index st + 5) / 65536 →
    (Due ↔ 0 < s.param 76 24 ∧ (∃ g, (s.filters.stage g).fitted = true ∧ s.param 76 24 ≤
        (if s.blowerOutput = 0 then (s.filters.stage g).runSweeps else min ((s.filters.stage g).runSweeps + 1) 65535)) ∨
      s.filters.baselineReq = true ∧ ∃ g, (s.filters.stage g).fitted = true ∧ (s.filters.stage g).baseline = none) →
    ∃ t y, exec (.filterAllocation r) s = .next t ∧ y = t.filters.stage st ∧
      (t.setFilters s.filters).setPosts s.posts = s ∧ t.filters.derate = s.filters.derate ∧
      t.filters.door = s.filters.door ∧ t.filters.baselineReq = false ∧
      (x.fitted = false → y = x) ∧
      (x.fitted = true → y.charge = min (x.charge + gain) 16777215 ∧ y.verdict = x.verdict ∧ y.baseline = x.baseline ∧
        y.last = x.last ∧ y.fitted = true ∧
        (x.verdict = .spent ∨ life ≤ y.charge → y.state = .spent) ∧
        (x.verdict ≠ .spent → y.charge < life → x.verdict = .worn ∨ threshold ≤ y.charge → y.state = .worn) ∧
        (x.verdict = .none → y.charge < life → y.charge < threshold →
          y.state = (if x.baseline.isSome then .inService else .fresh) ∧ y.doorOpened = false) ∧
        (Due → y.runSweeps = 0) ∧
        (¬ Due → y.runSweeps = (if s.blowerOutput = 0 then x.runSweeps else min (x.runSweeps + 1) 65535))) ∧
      ∃ news, s.FilterNews t news ∧
        (Due → t.posts = s.posts.erase (.filterAllocation r) ++ news ++ [.cycleRequest .profile]) ∧
        (¬ Due → t.posts = s.posts.erase (.filterAllocation r) ++ news)

/-- R142, R143, R147–R149, R153: a DONE profile gives a fitted stage its baseline, or its last curve and the verdict of the rise: SPENT from
twice the limit, WORN from the limit where there was none; any other outcome changes no stage. The rise is the largest, over the common
steps with a baseline drop above 0, of the drop's growth in percent, the fraction discarded. The derate is 100 without both curves of
FINE or a common step, and else 100 × baseline ÷ last at the highest common step, within 50–100, 100 for a last drop of 0. A swap sets
which stages are fitted; a stage that becomes fitted sets the baseline request. After either, every fitted stage stands by its charge,
verdict and baseline (a worn threshold of 0: log 59), an unfitted one keeps its record, and FILTER-WORN and FILTER-SPENT are posted where their truth changed. -/
def Obligations.ProfilesAndSwapsSetTheStages : Prop :=
  ∀ (s : State), s.held = false →
    (∀ o rs, o ≠ .done → exec (.profileOutcome o rs) s = .next (s.took (.profileOutcome o rs))) ∧
    (∀ rs : List (Option Curve), ∃ t news, exec (.profileOutcome .done rs) s = .next t ∧
      (t.setFilters s.filters).setPosts s.posts = s ∧ s.FilterNews t news ∧
      t.posts = s.posts.erase (.profileOutcome .done rs) ++ news ∧ t.filters.DerateSet ∧
      (∀ st, (s.filters.stage st).fitted = false → t.filters.stage st = s.filters.stage st) ∧
      (∀ st, (s.filters.stage st).fitted = true → (t.filters.stage st).fitted = true ∧
        s.StageStands st (t.filters.stage st) ∧ (t.filters.stage st).runSweeps = (s.filters.stage st).runSweeps ∧
        ((t.filters.stage st).state = .worn ∨ (t.filters.stage st).state = .spent →
          (t.filters.stage st).doorOpened = (s.filters.stage st).doorOpened)) ∧
      ∀ st, rs.getD (Stage.index st) none = none ∨ (s.filters.stage st).fitted = false →
        (t.filters.stage st).baseline = (s.filters.stage st).baseline ∧
        (t.filters.stage st).last = (s.filters.stage st).last ∧
        (t.filters.stage st).verdict = (s.filters.stage st).verdict ∧
        (t.filters.stage st).charge = (s.filters.stage st).charge) ∧
    (∀ (rs : List (Option Curve)) (st : Stage) (c : Curve), rs.getD (Stage.index st) none = some c →
      (s.filters.stage st).fitted = true → ∃ t, exec (.profileOutcome .done rs) s = .next t ∧
      (t.setFilters s.filters).setPosts s.posts = s ∧
      ((s.filters.stage st).baseline = none →
        (t.filters.stage st).baseline = some c ∧ (t.filters.stage st).last = none ∧
        (t.filters.stage st).verdict = (s.filters.stage st).verdict) ∧
      (∀ b, (s.filters.stage st).baseline = some b →
        (t.filters.stage st).baseline = some b ∧ (t.filters.stage st).last = some c ∧
        (2 * (s.param 76 (8 * Stage.index st + 4) : Int) ≤ rise b c → (t.filters.stage st).verdict = .spent) ∧
        ((s.param 76 (8 * Stage.index st + 4) : Int) ≤ rise b c →
          rise b c < 2 * (s.param 76 (8 * Stage.index st + 4) : Int) → (t.filters.stage st).verdict =
            if (s.filters.stage st).verdict = .none then .worn else (s.filters.stage st).verdict) ∧
        (rise b c < s.param 76 (8 * Stage.index st + 4) →
          (t.filters.stage st).verdict = (s.filters.stage st).verdict)) ∧
      (t.filters.stage st).charge = (s.filters.stage st).charge) ∧
    (∀ (b l : Curve) (Gain : Int → Prop),
      (∀ g, Gain g ↔ ∃ (k : Nat) (x y : Nat), (k, y) ∈ l ∧ Curve.at b k = some x ∧ 0 < x ∧
        g = (((y : Int) - x) * 100).tdiv x) →
      (∀ g, Gain g → g ≤ rise b l) ∧ ((∃ g, Gain g) → Gain (rise b l)) ∧ ((∀ g, ¬ Gain g) → rise b l = 0)) ∧
    (∃ t news, exec .filterSwapTaken s = .next t ∧ (t.setFilters s.filters).setPosts s.posts = s ∧
      s.FilterNews t news ∧ t.posts = s.posts.erase .filterSwapTaken ++ news ∧ t.filters.DerateSet ∧
      (∀ st, (t.filters.stage st).fitted = true → s.StageStands st (t.filters.stage st)) ∧
      (∀ st, (t.filters.stage st).fitted = false → (t.filters.stage st).state = (s.filters.stage st).state ∧
        (t.filters.stage st).doorOpened = (s.filters.stage st).doorOpened) ∧
      (∀ st, (t.filters.stage st).verdict = (s.filters.stage st).verdict ∧
        (t.filters.stage st).runSweeps = (s.filters.stage st).runSweeps) ∧
      (∀ st, (t.filters.stage st).fitted = (s.isLive && s.param 76 (8 * Stage.index st) == 1) ∧
        (t.filters.stage st).charge = (s.filters.stage st).charge ∧
        (t.filters.stage st).baseline = (s.filters.stage st).baseline ∧
        (t.filters.stage st).last = (s.filters.stage st).last) ∧
      (∀ st, (t.filters.stage st).fitted = true → (s.filters.stage st).fitted = false →
        t.filters.baselineReq = true) ∧
      ((∀ st, (t.filters.stage st).fitted = true → (s.filters.stage st).fitted = true) →
        t.filters.baselineReq = s.filters.baselineReq))

/-! ### Table banks and start-up (chapters 10, 12) -/

/-- R157, R166, R167: no command writes the live bank: while the selector names it, its words, statuses and stamp stand. A pending
swap is taken at sweep begin or as sweeps become disabled: the shadow becomes live with the next generation, the selector flips, and
six blocks are told, in order, ahead of the events in flight (log 3); without one nothing changes. -/
def Obligations.SwapsAloneReplaceTheLiveBank : Prop :=
  (∀ (c : Instr) (s t : State) (id : BankId), exec c s = .next t → s.banks.live = some id → t.banks.live = some id →
     t.banks.bank id = s.banks.bank id) ∧
  (∀ (s : State) (c : Instr) (g : Nat), s.held = false → (∃ n, c = .banksSweepBegin n) ∨ c = .sweepsDisabled →
     g = (s.banks.generation + 1) % 65536 →
     (s.banks.swapPending = false → exec c s = .next (s.took c)) ∧
     (s.banks.swapPending = true → ∃ t, exec c s = .next t ∧
       t.banks.live = some (if s.banks.live = some .a then .b else .a) ∧ t.banks.generation = g ∧
       t.banks.swapPending = false ∧
       (∀ id, t.banks.live = some id → t.banks.bank id = { s.banks.bank id with stamp := some g }) ∧
       (∀ id, s.banks.live = some id → t.banks.bank id = s.banks.bank id) ∧
       t.posts = [.ringSwapTaken, .zoneSwapTaken, .interlockSwapTaken, .waterSwapTaken, .filterSwapTaken, .rcSwapTaken] ++
         s.posts.erase c ∧ (t.setBanks s.banks).setPosts s.posts = s))

/-- R159–R161, R163, R164: the store engine's completions: a failed validation records its offset and sets STORE-FAIL; a passed one
goes on to write; the written page holds the built page and the staging marks clear; copying and erasing take one page at a time
and end at page 78; a completion with the engine IDLE changes nothing (log 6). R162, R188: validation answers the lowest offset of a page of
64 words whose word fails the checks of its page (`WordPasses`; log 35, log 53, log 62), and a page of zeros passes only as a Translation or
Scale page. -/
def Obligations.StoreEngineWorksPageByPage : Prop :=
  (∀ (p : Nat) (ws : List Word), p < 79 → ws.length = 64 →
    (∀ o, firstFailure p ws = some o ↔ o < 64 ∧ ¬ WordPasses p ws o ∧ ∀ j < o, WordPasses p ws j) ∧
    (firstFailure p ws = none ↔ ∀ o < 64, WordPasses p ws o) ∧
    (firstFailure p (List.replicate 64 0#16) = none ↔ p ≤ 63 ∨ 65 ≤ p ∧ p ≤ 68)) ∧
  ∀ (s : State), s.held = false →
    (∀ p o, s.banks.engine = .committing p false → firstFailure p (s.banks.builtPage p) = some o →
      exec .validationComplete s = .next (((s.took .validationComplete).setBanks { s.banks with
        engine := .idle, record := some { op := .commit, page := some p, outcome := .failed o } }).post
          [.flagSetClaim .storeFail])) ∧
    (∀ p, s.banks.engine = .committing p false → firstFailure p (s.banks.builtPage p) = none →
      exec .validationComplete s =
        .next ((s.took .validationComplete).setBanks { s.banks with engine := .committing p true })) ∧
    (∀ p, s.banks.engine = .committing p true → p < 79 → s.MemoriesWf → s.banks.shadow.status.length = 79 →
      ∃ t, exec .commitComplete s = .next t ∧
      t.banks.engine = .idle ∧ t.banks.record = some { op := .commit, page := some p, outcome := .done } ∧
      t.banks.progress = 1 ∧ t.banks.marks = List.replicate 64 false ∧ t.banks.live = s.banks.live ∧
      (∀ o, o < 64 → t.banks.shadow.word p o =
        if s.banks.marks.getD o false then s.banks.staging.read o
        else if s.banks.shadow.status[p]? = some .written then s.banks.shadow.word p o else 0#16) ∧
      (∀ q o, q ≠ p → o < 64 → t.banks.shadow.word q o = s.banks.shadow.word q o) ∧
      t.banks.shadow.status[p]? = some .written ∧ (∀ q, q ≠ p → t.banks.shadow.status[q]? = s.banks.shadow.status[q]?) ∧
      t.banks.staging = s.banks.staging ∧ t.setBanks s.banks = s.took .commitComplete) ∧
    (s.banks.engine = .copying → s.banks.progress < 79 → s.MemoriesWf → s.banks.shadow.status.length = 79 →
      ∃ t, exec .copyPageComplete s = .next t ∧ t.banks.progress = s.banks.progress + 1 ∧
      t.banks.engine = (if s.banks.progress = 78 then .idle else .copying) ∧
      (s.banks.progress = 78 → t.banks.record = some { op := .copy, page := none, outcome := .done }) ∧
      (∀ o, o < 64 → t.banks.shadow.word s.banks.progress o = s.banks.liveWord s.banks.progress o) ∧
      t.banks.shadow.status[s.banks.progress]? = some .written ∧ t.setBanks s.banks = s.took .copyPageComplete) ∧
    (∀ keep, s.banks.engine = .erasing keep → s.banks.progress < 79 → s.MemoriesWf → s.banks.shadow.status.length = 79 →
      ∃ t, exec .erasePageComplete s = .next t ∧
      t.banks.progress = (if keep = true ∧ s.banks.progress = 64 then 69 else s.banks.progress + 1) ∧
      t.banks.engine = (if s.banks.progress = 78 then .idle else .erasing keep) ∧
      (∀ o, o < 64 → t.banks.shadow.word s.banks.progress o = 0#16) ∧
      (∀ q o, q ≠ s.banks.progress → o < 64 → t.banks.shadow.word q o = s.banks.shadow.word q o) ∧
      t.banks.shadow.status[s.banks.progress]? = some .empty ∧ t.setBanks s.banks = s.took .erasePageComplete) ∧
    (s.banks.engine = .idle → ∀ c ∈ [Instr.validationComplete, .commitComplete, .copyPageComplete, .erasePageComplete],
      exec c s = .next (s.took c))

/-- R157, R167, R181, R182, R188: the walk of the configuration memory: the addresses it reads, which go on at 0000h after FFFFh; what each
read and write leads to, and how it fails; a failure sets STORE-FAIL. A page written stands in the shadow, bank A while no bank is
live, and is WRITTEN. The chain's end, after a write or of an empty chain, is INCOMPLETE while a page is not WRITTEN, SWAP-CHECK where
that fails, and else LOADED with the swap taken, whose posts go ahead of the
events in flight (log 3). CHAIN-LIMIT is found after the write of descriptor 128's page (log 13). A completion
the walk does not await changes nothing (log 6). -/
def Obligations.LoaderWalksTheChain : Prop :=
  ∀ (s : State) (ws : List Word) (u : State), s.held = false → u = s.took (.loaderReadComplete ws) →
    (s.rc.loader = .loading .header → s.cfgAddresses = [0#16, 1#16, 2#16] ∧ ∀ a b c, ws = [a, b, c] →
      (a = 0xFFFF#16 → b = 0xFFFF#16 → c = 0xFFFF#16 → exec (.loaderReadComplete ws) s =
        .next ((u.setRc { s.rc with loader := .failed .noMemory 0 }).post [.flagSetClaim .storeFail])) ∧
      (a ≠ 0x2808#16 ∨ b ≠ 1#16 → ¬ (a = 0xFFFF#16 ∧ b = 0xFFFF#16 ∧ c = 0xFFFF#16) → exec (.loaderReadComplete ws) s =
        .next ((u.setRc { s.rc with loader := .failed .badSignature 0 }).post [.flagSetClaim .storeFail])) ∧
      (a = 0x2808#16 → b = 1#16 → c ≠ 0#16 → exec (.loaderReadComplete ws) s =
        .next (u.setRc { s.rc with loader := .loading (.descriptor 1 c) })) ∧
      (a = 0x2808#16 → b = 1#16 → c = 0#16 →
        (s.banks.shadow.complete = false → exec (.loaderReadComplete ws) s =
          .next ((u.setRc { s.rc with loader := .failed .incomplete 0 }).post [.flagSetClaim .storeFail])) ∧
        (s.banks.shadow.complete = true → s.banks.shadow.swapCheck s.ring.own = false → exec (.loaderReadComplete ws) s =
          .next ((u.setRc { s.rc with loader := .failed .swapCheck 0 }).post [.flagSetClaim .storeFail])) ∧
        (s.banks.shadow.complete = true → s.banks.shadow.swapCheck s.ring.own = true → exec (.loaderReadComplete ws) s =
          .next (u.setRc { s.rc with loader := .loaded }).takeSwap))) ∧
    (∀ i adr, s.rc.loader = .loading (.descriptor i adr) → s.cfgAddresses = [adr, adr + 1#16, adr + 2#16] ∧
      ∀ a b c, ws = [a, b, c] →
      (79 ≤ a.toNat → exec (.loaderReadComplete ws) s =
        .next ((u.setRc { s.rc with loader := .failed .badPage i }).post [.flagSetClaim .storeFail])) ∧
      (a.toNat < 79 → exec (.loaderReadComplete ws) s =
        .next (u.setRc { s.rc with loader := .loading (.image i a.toNat b c) }))) ∧
    (∀ i p adr nxt, s.rc.loader = .loading (.image i p adr nxt) →
      s.cfgAddresses.length = 64 ∧
      (∀ n w, s.cfgAddresses[n]? = some w → w.toNat = (adr.toNat + n) % 65536) ∧
      (ws.length = 64 →
      (∀ o, firstFailure p ws = some o → ∃ t, exec (.loaderReadComplete ws) s = .next t ∧
        t.rc.loader = .failed .validate i ∧ t.posts = u.posts ++ [.flagSetClaim .storeFail] ∧
        t.banks = { s.banks with engine := .idle, record := some { op := .load, page := some p, outcome := .failed o } }) ∧
      (firstFailure p ws = none → exec (.loaderReadComplete ws) s =
        .next (u.setRc { s.rc with loader := .loading (.write i p ws nxt) })))) ∧
    (∀ i p image nxt, s.rc.loader = .loading (.write i p image nxt) → s.cfgAddresses = [] ∧
      exec (.loaderReadComplete ws) s = .next u ∧
      ∃ t, exec .loaderWriteComplete s = .next t ∧
        t.banks.record = some { op := .load, page := some p, outcome := .done } ∧
        (s.MemoriesWf → s.banks.shadow.status.length = 79 → p < 79 → image.length = 64 → ∀ (id : BankId),
          id = (if s.banks.live = some .a then .b else .a) →
          (∀ o, o < 64 → (t.banks.bank id).word p o = image.getD o 0#16) ∧
          (∀ q o, q ≠ p → o < 64 → (t.banks.bank id).word q o = (s.banks.bank id).word q o) ∧
          (t.banks.bank id).status = (s.banks.bank id).status.set p .written ∧
          t.banks.bank id.other = s.banks.bank id.other) ∧
        (nxt ≠ 0#16 → i < 128 → t.rc.loader = .loading (.descriptor (i + 1) nxt) ∧ t.banks.live = s.banks.live) ∧
        (nxt ≠ 0#16 → 128 ≤ i → t.rc.loader = .failed .chainLimit i ∧ .flagSetClaim .storeFail ∈ t.posts) ∧
        (nxt = 0#16 → ∀ b : Bank, b = s.banks.shadow.putPage p image .written →
          (b.complete = false → t.rc.loader = .failed .incomplete i ∧ .flagSetClaim .storeFail ∈ t.posts ∧
            t.banks.live = s.banks.live) ∧
          (b.complete = true → b.swapCheck s.ring.own = false →
            t.rc.loader = .failed .swapCheck i ∧ .flagSetClaim .storeFail ∈ t.posts ∧ t.banks.live = s.banks.live) ∧
          (b.complete = true → b.swapCheck s.ring.own = true → t.rc.loader = .loaded ∧
            t.banks.live = some (if s.banks.live = some .a then .b else .a) ∧
            t.banks.generation = (s.banks.generation + 1) % 65536 ∧
            t.posts = [.ringSwapTaken, .zoneSwapTaken, .interlockSwapTaken, .waterSwapTaken, .filterSwapTaken,
              .rcSwapTaken] ++ s.posts.erase .loaderWriteComplete))) ∧
    ((∀ w, s.rc.loader ≠ .loading w) → exec (.loaderReadComplete ws) s = .next u ∧ s.cfgAddresses = [] ∧
      exec .loaderWriteComplete s = .next (s.took .loaderWriteComplete))

/-- R183, R184: the run level: a wake event sets WAKE and, in WATCH with the wake enable on, makes the device ACTIVE; a swap taken
in UNCONFIGURED takes the start level of the live Control page, and in any other level changes nothing. A change claims and
releases RUN and HALT and is posted to the Cycle Engine, the Ring Interface and the Management Unit. -/
def Obligations.RunLevelWakesAndStarts : Prop :=
  ∀ (s : State) (f : ZoneField) (v : Int), s.held = false →
    (s.rc.level ≠ .watch ∨ s.rc.wake = false → exec (.wakeEvent f v) s =
      .next ((s.took (.wakeEvent f v)).post [.flagSetClaim .wake])) ∧
    (s.rc.level = .watch → s.rc.wake = true → exec (.wakeEvent f v) s =
      .next (((s.took (.wakeEvent f v)).setRc { s.rc with level := .active }).post
        [.flagSetClaim .wake, .inhibitRelease .run, .cycleRunLevelChange .active, .ringRunLevelChange .active,
          .muRunLevelChange .active])) ∧
    (s.rc.level ≠ .unconfigured → exec .rcSwapTaken s = .next (s.took .rcSwapTaken)) ∧
    (s.rc.level = .unconfigured → s.isLive = true → s.param 78 10 = 1 → exec .rcSwapTaken s =
      .next (((s.took .rcSwapTaken).setRc { s.rc with level := .active }).post
        [.cycleRunLevelChange .active, .ringRunLevelChange .active, .muRunLevelChange .active,
          .conditionPost .unconfigured false])) ∧
    (s.rc.level = .unconfigured → s.isLive = true → s.param 78 10 = 2 → exec .rcSwapTaken s =
      .next (((s.took .rcSwapTaken).setRc { s.rc with level := .watch }).post
        [.inhibitClaim .run, .cycleRunLevelChange .watch, .ringRunLevelChange .watch, .muRunLevelChange .watch,
          .conditionPost .unconfigured false])) ∧
    (s.rc.level = .unconfigured → s.isLive = true → s.param 78 10 = 3 → exec .rcSwapTaken s =
      .next (((s.took .rcSwapTaken).setRc { s.rc with level := .halt }).post
        [.inhibitClaim .halt, .cycleRunLevelChange .halt, .ringRunLevelChange .halt, .muRunLevelChange .halt,
          .conditionPost .unconfigured false]))

/-! ### The flag record (chapter 11) -/

/-- R176, R177: a claim sets its sticky flag, a condition takes its posted truth, the run level is recorded; nothing else of the
record changes. A change with its mask position on calls for a NOTE, which takes the content of a queued one, or a free place, or
is owed; a change to false, or a masked one, calls for none but refreshes a queued one; no change does nothing. A note-owed mark that
is set stays set when a NOTE joins or is refreshed: the model's reading (log 42). -/
def Obligations.FlagRecordCallsForNotes : Prop :=
  ∀ (s : State) (c : Instr) (m : Management) (called : Bool), s.held = false →
    ((∃ f, c = .flagSetClaim f ∧ m = { s.mu with flags := s.mu.flags ||| (1#16 <<< stickyBit f) } ∧
        called = s.mu.maskFlags.getLsbD (stickyBit f)) ∨
     (∃ d, c = .conditionPost d true ∧
        m = { s.mu with conditions := s.mu.conditions ||| (1#16 <<< conditionBit d) } ∧
        called = s.mu.maskConditions.getLsbD (conditionBit d)) ∨
     (∃ d, c = .conditionPost d false ∧
        m = { s.mu with conditions := s.mu.conditions &&& ~~~(1#16 <<< conditionBit d) } ∧ called = false) ∨
     (∃ l, c = .muRunLevelChange l ∧ m = { s.mu with level := l } ∧ called = s.mu.maskFlags.getLsbD 15)) →
    (m = s.mu → exec c s = .next (s.took c)) ∧
    (m ≠ s.mu →
      (s.ring.hasNote = true → ∃ t, exec c s = .next t ∧ t.mu = m ∧ t.ring.origin.length = s.ring.origin.length ∧
        (∀ f ∈ t.ring.origin, f.isNote = true → ∃ d a, f = .note d a m.flags m.conditions m.level) ∧
        (t.setMu s.mu).setRing s.ring = s.took c) ∧
      (s.ring.hasNote = false → called = true → s.ring.placeFree = true → exec c s =
        .next (((s.took c).setMu m).setRing (s.ring.join (.note (if s.isLive then s.param 78 3 else 31) s.answering
          m.flags m.conditions m.level)))) ∧
      (s.ring.hasNote = false → called = true → s.ring.placeFree = false → exec c s =
        .next ((s.took c).setMu { m with owed := true })) ∧
      (s.ring.hasNote = false → called = false → exec c s = .next ((s.took c).setMu m)))

/-! ### Requests (chapter 11) -/

/-- R168, R173, R174, §13.7: a read with fit arguments is answered OK with the data words of its part and changes nothing but the
two queues; READ STATUS also while LOADING and, unchecked for its source, in setup mode. The words a part cannot give while no bank is live,
a descriptor index with no failure, and a step timer that is not running are as log 31 fixes them. READ TABLE of the live bank gives its
stamp and words, of the shadow the page's status and words, 0 for an EMPTY page; past page 78 (ahead of the other two,
log 61), with no bank live, or of a shadow at work it is refused. `Out`: the command answers OK with these words. -/
def Obligations.ReadsAnswerAndChangeNothing : Prop :=
  ∀ (s : State) (r : Request) (rest : List Request) (Out : Instr → List Word → Prop) (row : RowKind → Word)
    (place : Nat → Nat) (q : ZoneField → Nat → Nat) (kind : CycleKind → Nat),
    (∀ c ds, Out c ds ↔ exec c s = .next ((s.took c).served r rest .ok ds)) →
    (∀ k, row k = match s.inter.row k with
      | some x => word x.commanded
      | none => 0xFFFF#16) →
    (∀ z, place z = match s.inter.row (.damper z) with
      | some x => x.commanded
      | none => 255) →
    (∀ f z, q f z = match ((s.zone z).readings.get f).quality with
      | .none => 0
      | .good => 1
      | .clamped => 2
      | .fault => 3) →
    kind .defrost = 1 → kind .pumpOut = 2 → kind .regen = 3 → kind .profile = 4 →
    (s.MayStart r rest → r.code = some 0x01 → r.args.length = 1 →
      (s.lines.setup = false → s.isLive = true → r.src = s.param 78 3) →
      (r.arg 0 = 0 → Out .readStatus
        [word ((match s.rc.level with
            | .unconfigured => 0
            | .active => 1
            | .watch => 2
            | .halt => 3) + flag s.rc.wake * 16 + flag s.lines.setup * 32 + s.ring.own * 256),
          (match s.rc.loader with
            | .notRun => 0x0000#16
            | .loading _ => 0x0001#16
            | .loaded => 0x0002#16
            | .failed .noMemory _ => 0x0103#16
            | .failed .badSignature _ => 0x0203#16
            | .failed .badPage _ => 0x0303#16
            | .failed .validate _ => 0x0403#16
            | .failed .chainLimit _ => 0x0503#16
            | .failed .incomplete _ => 0x0603#16
            | .failed .swapCheck _ => 0x0703#16),
          (match s.rc.loader with
            | .failed _ i => word i
            | _ => 0#16),
          word s.ring.nextNumber,
          (match s.ring.outstanding with
            | some n => word n
            | none => 0xFFFF#16)]) ∧
      (r.arg 0 = 1 → Out .readStatus [s.mu.flags, s.mu.conditions, s.mu.maskFlags, s.mu.maskConditions]) ∧
      (r.arg 0 = 2 → Out .readStatus (match s.alloc.record with
        | none => [0xFFFF#16, 0#16, 0#16, 0#16, 0#16]
        | some a => [word a.sweep, if a.idle then 1#16 else 0#16, word a.step, word a.airflow,
            if a.applied then 0#16 else 1#16])) ∧
      (r.arg 0 = 3 → Out .readStatus [word (flag s.inter.inhibits.door + flag s.inter.inhibits.tank * 2 +
          flag s.inter.inhibits.airflow * 4 + flag s.inter.inhibits.run * 8 + flag s.inter.inhibits.halt * 16 +
          flag s.inter.inhibits.pump * 32 + flag s.inter.fault * 256 + flag s.inter.proof * 512),
        row .blower, row .compressor, row .heater, row .pump]) ∧
      (r.arg 0 = 4 → Out .readStatus [word (place 0 + place 1 * 256), word (place 2 + place 3 * 256),
        word (place 4 + place 5 * 256), word (place 6 + place 7 * 256)]) ∧
      (r.arg 0 = 5 → ∀ method : Option Method → Nat, method none = 0 → method (some .compressor) = 1 →
        method (some .desiccant) = 2 → Out .readStatus
        [word ((match s.dry.state with
            | .off => 0
            | .starting => 1
            | .running => 2
            | .stopping => 3
            | .heldNoMethod => 4
            | .heldForced => 20) + method s.dry.method * 256 + method s.dry.next * 4096 + flag s.dry.want * 32768),
          word s.dry.frost, word s.dry.saturation]) ∧
      (r.arg 0 = 6 → Out .readStatus
        [(match s.banks.live with
            | some .a => 0#16
            | some .b => 1#16
            | none => 3#16),
          (match s.banks.live with
            | some id => word ((s.banks.bank id).stamp.getD 0)
            | none => 0#16),
          word ((if ∀ x ∈ s.banks.shadow.status, x = .empty then 0
            else if ∀ x ∈ s.banks.shadow.status, x = .written then 2 else 1) + s.banks.shadow.status.count .written * 256),
          word ((match s.banks.engine with
            | .idle => 0
            | .committing _ _ => 1
            | .copying => 2
            | .erasing _ => 3) + s.banks.progress * 256 + flag s.banks.swapPending * 32768),
          word (s.banks.marks.count true)]) ∧
      (r.arg 0 = 7 → Out .readStatus (match s.banks.record with
        | none => [0#16, 0xFFFF#16, 0xFFFF#16]
        | some x =>
          [word ((match x.op with
              | .commit => 1
              | .copy => 2
              | .erase => 3
              | .load => 4) + (match x.outcome with
              | .done => 0
              | .failed _ => 256
              | .torn => 512)),
            (match x.page with
              | some p => word p
              | none => 0xFFFF#16),
            (match x.outcome with
              | .failed o => word o
              | _ => 0xFFFF#16)]))) ∧
    (∀ z x, s.Serves 0x05 r rest → r.args.length = 2 → r.arg 0 = z → z ≤ 7 → x = s.zone z →
      (r.arg 1 = 0 → Out .readZone
        [word ((match x.state with
            | .absent => 0
            | .waiting => 1
            | .live => 2
            | .stale => 3) + flag x.stored * 16 + flag x.boost.isSome * 256 + flag x.window.isSome * 4096),
          wordOrNone x.head, wordOrNone x.lastSweep, word x.missed,
          (match x.boost with
            | some t => word ((t + 59) / 60)
            | none => 0#16),
          (match x.window with
            | some t => word ((t + 59) / 60)
            | none => 0#16)]) ∧
      (r.arg 1 = 1 → Out .readZone ([ZoneField.pmFine, .pmCoarse, .rh, .temp, .voc, .occupancy].map fun f =>
        wordOfInt (x.readings.get f).value)) ∧
      (r.arg 1 = 2 → Out .readZone
        [word (q .pmFine z + q .pmCoarse z * 4 + q .rh z * 16 + q .temp z * 64 + q .voc z * 256 + q .occupancy z * 1024 +
            flag x.cleanMark * 4096 + flag x.dryMark * 8192), word x.clean, word x.dry]) ∧
      (r.arg 1 = 3 → Out .readZone (match s.alloc.record with
        | none => [0xFFFF#16, 0xFFFF#16, 0xFFFF#16, 0xFFFF#16, word (s.alloc.ages.getD z 0)]
        | some a => [word (a.effective.getD z 0), word (a.request.getD z 0), word (a.assigned.getD z 0),
            wordOrNone (a.position.getD z none), word (s.alloc.ages.getD z 0)]))) ∧
    (∀ st x i, s.Serves 0x06 r rest → r.args.length = 2 → stageOfCode (r.arg 0) = some st → x = s.filters.stage st →
      i = 8 * r.arg 0 → ∀ (life threshold : Nat) (point : Option Curve → Nat → Word),
      life = s.param 76 (i + 1) % 256 * 65536 + s.param 76 (i + 2) → threshold = life * s.param 76 (i + 3) / 100 →
      (∀ k, point none k = 0xFFFF#16) → (∀ c k, point (some c) k = wordOrNone (Curve.at c k)) →
      (r.arg 1 = 0 → Out .readFilter ([word (flag x.fitted + (match x.state with
          | .fresh => 0
          | .inService => 1
          | .worn => 2
          | .spent => 3) * 16 + (match x.verdict with
          | .none => 0
          | .worn => 1
          | .spent => 2) * 256 + flag x.doorOpened * 4096), word (x.charge / 65536 % 256), word (x.charge % 65536)] ++
        if s.isLive then [word (threshold / 65536 % 256), word (threshold % 65536)] else [0xFFFF#16, 0xFFFF#16])) ∧
      (r.arg 1 = 1 → Out .readFilter ([word x.runSweeps] ++
        (if s.isLive then [word (life / 65536 % 256), word (life % 65536), word (s.param 76 (i + 4))]
          else [0xFFFF#16, 0xFFFF#16, 0xFFFF#16]) ++ [word s.filters.derate])) ∧
      (r.arg 1 = 2 → Out .readFilter ([1, 2, 3, 4].map (point x.baseline))) ∧
      (r.arg 1 = 3 → Out .readFilter ([5, 6, 7].map (point x.baseline))) ∧
      (r.arg 1 = 4 → Out .readFilter ([1, 2, 3, 4].map (point x.last))) ∧
      (r.arg 1 = 5 → Out .readFilter ([5, 6, 7].map (point x.last)))) ∧
    (s.Serves 0x09 r rest → r.args.length = 1 →
      (r.arg 0 = 0 → Out .readTank
        [(match s.water.kind with
            | none => 0xFFFF#16
            | some .tank => 0#16
            | some .drain => 1#16),
          word ((match s.water.state with
            | .drain => 0
            | .unknown => 1
            | .normal => 2
            | .near => 3
            | .full => 4
            | .out => 5) + flag s.water.known * 16 + flag (!s.water.certain) * 256),
          word s.water.estimate, wordOrNone s.water.probe]) ∧
      (r.arg 0 = 1 → Out .readTank [word (flag s.water.float + flag s.water.removed * 2 + flag s.water.pumpFault * 4 +
        flag (s.isLive && s.param 75 7 == 1) * 8)])) ∧
    (∀ k, s.Serves 0x0A r rest → r.args.length = 2 → r.arg 0 = kind k →
      (r.arg 1 = 0 → Out .readCycle
        [(match (s.cycles.record k).outcome with
            | .none => 0x0000#16
            | .done => 0x0001#16
            | .doneTimed => 0x0002#16
            | .failed .noFlow => 0x0103#16
            | .failed .airflow => 0x0203#16
            | .failed .noData => 0x0303#16
            | .aborted .host => 0x0104#16
            | .aborted .door => 0x0204#16
            | .aborted .runLevel => 0x0304#16
            | .aborted .reset => 0x0404#16
            | .aborted .suspendLimit => 0x0504#16
            | .aborted .held => 0x0604#16
            | .aborted .noTank => 0x0704#16
            | .cancelled => 0x0005#16),
          wordOrNone (s.cycles.record k).endSweep, word (s.cycles.record k).completed]) ∧
      (r.arg 1 = 1 → s.CycleLaw →
        (s.cycles.has k = false → Out .readCycle [0xFFFF#16, 0#16, 0#16, 0#16, 0#16]) ∧
        (∀ (c : Cycle) (n : Nat), c.kind = k → (c ∈ s.cycles.queue ∧ n = 0 ∨ s.cycles.running = some c ∧ n = 1 ∨
            s.cycles.suspended = some c ∧ n = 2) → Out .readCycle
          [word (n + flag c.held * 16),
            word (match c.step with
              | .melt => 0
              | .prime => 1
              | .drain => 2
              | .heat => 3
              | .purge => 4
              | .settle b => 16 + b
              | .measure b => 32 + b),
            if n = 1 then wordOrNone c.stepTimer else 0xFFFF#16, word c.completed, word c.suspends])) ∧
      (r.arg 1 = 2 → ∀ of : Option Cycle → Nat, of none = 0 → (∀ c, of (some c) = kind c.kind) → Out .readCycle
        [word (of s.cycles.running + (match s.cycles.running with
            | some c => flag c.held * 16
            | none => 0) + of s.cycles.suspended * 256),
          word (of s.cycles.queue[0]? + of s.cycles.queue[1]? * 16 + of s.cycles.queue[2]? * 256 +
            of s.cycles.queue[3]? * 4096),
          word (flag s.cycles.door + flag s.cycles.tankHold * 2)])) ∧
    (s.Serves 0x15 r rest → r.args.length = 4 → r.arg 0 ≤ 1 → r.arg 2 ≤ 63 → 1 ≤ r.arg 3 → r.arg 3 ≤ 5 →
      r.arg 2 + r.arg 3 ≤ 64 →
      (79 ≤ r.arg 1 → exec .readTable s = .next ((s.took .readTable).served r rest (.refused .address) [])) ∧
      (r.arg 1 < 79 →
        (∀ id, r.arg 0 = 0 → s.banks.live = some id → Out .readTable (word ((s.banks.bank id).stamp.getD 0) ::
          (List.range (r.arg 3)).map fun i => (s.banks.bank id).word (r.arg 1) (r.arg 2 + i))) ∧
        (r.arg 0 = 0 → s.banks.live = none →
          exec .readTable s = .next ((s.took .readTable).served r rest (.refused .condition) [])) ∧
        (r.arg 0 = 1 → s.banks.engine = .idle → ∀ x, s.banks.shadow.status[r.arg 1]? = some x → Out .readTable
          ((match x with
            | .empty => 0#16
            | .written => 1#16
            | .torn => 2#16) :: (List.range (r.arg 3)).map fun i =>
            if x = .empty then 0#16 else s.banks.shadow.word (r.arg 1) (r.arg 2 + i))) ∧
        (r.arg 0 = 1 → s.banks.engine ≠ .idle → exec .readTable s = .next ((s.took .readTable).served r rest .busy
          [word ((match s.banks.engine with
            | .idle => 0
            | .committing _ _ => 1
            | .copying => 2
            | .erasing _ => 3) + s.banks.progress * 256 + flag s.banks.swapPending * 32768)]))))

/-- R85, R119, R125, R137, R142, R143, R149, R151, R152, R175, R178, R183: a request of the host with fit arguments has its effect and
is answered, or is refused by its own rule and changes nothing; SET NOTE MASK keeps the positions the mask has (log 30); a stage reset with a worn
threshold of 0 is WORN (log 59). CLEAR FAULT
(PUMP) asks for PUMP-OUT again in NEAR and FULL, and a tank report is posted last, with the latch clear too (log 36). A cycle request
makes what the cycle request event makes; one left in the queue is answered OK, any other that was taken STARTED.
`Answers`: the request left its queue, and the last frame of the Origin Queue is its MRSP with this result. -/
def Obligations.HostRequestsTakeEffect : Prop :=
  ∀ (s : State) (r : Request) (rest : List Request) (Answers : State → Result → List Word → Prop),
    (∀ t x ds, Answers t x ds ↔ t.mu.queue = rest ∧ t.ring.reserved = false ∧
      t.ring.origin.getLast? = some (s.answerFrame r x ds)) →
    (s.Serves 0x02 r rest → r.args.length = 2 → ∃ t, exec .ackFlags s = .next t ∧
      t.mu.flags = s.mu.flags &&& ~~~(r.args.getD 0 0#16) ∧ t.mu.conditions = s.mu.conditions ∧
      Answers t .ok [t.mu.flags, t.mu.conditions] ∧ (t.setMu s.mu).setRing s.ring = s.took .ackFlags) ∧
    (s.Serves 0x03 r rest → r.args.length = 2 → ∃ t, exec .setNoteMask s = .next t ∧
      t.mu.maskFlags = r.args.getD 0 0#16 &&& 0x807F#16 ∧ t.mu.maskConditions = r.args.getD 1 0#16 &&& 0x03FF#16 ∧
      t.mu.flags = s.mu.flags ∧ t.mu.conditions = s.mu.conditions ∧ Answers t .ok [] ∧
      (t.setMu s.mu).setRing s.ring = s.took .setNoteMask) ∧
    (s.Serves 0x04 r rest → r.args.length = 1 → r.arg 0 = 0 → s.inter.fault = true → ∃ t, exec .clearFault s = .next t ∧
      t.inter.fault = false ∧ t.inter.inhibits = { s.inter.inhibits with airflow := false } ∧ t.inter.mismatch = 0 ∧
      (s.inter.row .blower ≠ none → t.inter.settle = some (s.param 74 3)) ∧ (s.inter.proof = false → t.inter.proof = false) ∧
      .conditionPost .blowerFault false ∈ t.posts ∧ Answers t .ok [] ∧ t.water = s.water) ∧
    (s.Serves 0x04 r rest → r.args.length = 1 → r.arg 0 = 1 → s.water.pumpFault = true → ∃ t, exec .clearFault s = .next t ∧
      t.water = { s.water with pumpFault := false } ∧ .inhibitRelease .pump ∈ t.posts ∧
      .conditionPost .pumpFault false ∈ t.posts ∧
      (s.water.state = .near ∨ s.water.state = .full → s.pumpFitted = true → .cycleRequest .pumpOut ∈ t.posts) ∧
      (∃ p, t.posts.getLast? = some (.tankReport p) ∧ p.state = s.water.state ∧ p.probe = none) ∧
      Answers t .ok [] ∧ t.inter = s.inter) ∧
    (∀ n, s.Serves 0x04 r rest → r.args.length = 1 → r.arg 0 = n →
      (n = 0 → s.inter.fault = false → exec .clearFault s = .next ((s.took .clearFault).served r rest .ok [])) ∧
      (n = 1 → s.water.pumpFault = false → ∃ t p, exec .clearFault s = .next t ∧ Answers t .ok [] ∧
        t.posts = s.posts.erase .clearFault ++ [.tankReport p] ∧ p.state = s.water.state ∧ p.probe = none ∧
        t.setPosts s.posts = s.served r rest .ok [])) ∧
    (∀ st, s.Serves 0x07 r rest → r.args.length = 3 → stageOfCode (r.arg 0) = some st → r.arg 1 ≤ 255 →
      ((s.filters.stage st).fitted = false → exec .setFilterCharge s =
        .next ((s.took .setFilterCharge).served r rest (.refused .condition) [])) ∧
      ((s.filters.stage st).fitted = true → ∃ t news, exec .setFilterCharge s = .next t ∧
      (t.filters.stage st).charge = r.arg 1 * 65536 + r.arg 2 ∧ (t.filters.stage st).fitted = true ∧
      (t.filters.stage st).verdict = (s.filters.stage st).verdict ∧
      (t.filters.stage st).baseline = (s.filters.stage st).baseline ∧ (t.filters.stage st).last = (s.filters.stage st).last ∧
      (t.filters.stage st).runSweeps = (s.filters.stage st).runSweeps ∧ s.StageStands st (t.filters.stage st) ∧
      ((t.filters.stage st).state = .worn ∨ (t.filters.stage st).state = .spent →
        (t.filters.stage st).doorOpened = (s.filters.stage st).doorOpened) ∧
      (∀ g, g ≠ st → (t.filters.stage g).charge = (s.filters.stage g).charge) ∧ t.filters.derate = s.filters.derate ∧
      s.FilterNews t news ∧ t.posts = s.posts.erase .setFilterCharge ++ news ∧ Answers t .ok [])) ∧
    (∀ st (Serviced : Prop), s.Serves 0x08 r rest → r.args.length = 1 → stageOfCode (r.arg 0) = some st →
      (Serviced ↔ (s.filters.stage st).fitted = true ∧
        ((s.filters.stage st).state = .worn ∨ (s.filters.stage st).state = .spent) ∧
        (s.filters.stage st).doorOpened = true ∧ s.filters.door = false) →
      (¬ Serviced → exec .filterReset s = .next ((s.took .filterReset).served r rest (.refused .notServiced) [])) ∧
      (Serviced → ∃ t news, exec .filterReset s = .next t ∧
      (t.filters.stage st).charge = 0 ∧ (t.filters.stage st).verdict = .none ∧ (t.filters.stage st).baseline = none ∧
      (t.filters.stage st).last = none ∧ (t.filters.stage st).doorOpened = false ∧
      (t.filters.stage st).fitted = true ∧ s.StageStands st (t.filters.stage st) ∧ t.filters.DerateSet ∧
      (∀ g, (s.filters.stage g).fitted = true → (t.filters.stage g).runSweeps = 0) ∧
      (∀ g, g ≠ st → (t.filters.stage g).charge = (s.filters.stage g).charge ∧
        (t.filters.stage g).verdict = (s.filters.stage g).verdict ∧
        (t.filters.stage g).baseline = (s.filters.stage g).baseline ∧
        (t.filters.stage g).last = (s.filters.stage g).last) ∧ s.FilterNews t news ∧
      t.posts = s.posts.erase .filterReset ++ news ++ [.cycleRequest .profile] ∧ Answers t .ok [])) ∧
    (∀ k (Fault Condition : Prop), s.Serves 0x0B r rest → r.args.length = 1 → cycleKindOfCode (r.arg 0) = some k →
      (Fault ↔ k = .pumpOut ∧ s.water.pumpFault = true) →
      (Condition ↔ s.isLive = false ∨ (if k = .pumpOut then
        s.cycles.level = .unconfigured ∨ s.cycles.level = .halt ∨ s.param 75 7 ≠ 1
        else s.cycles.level ≠ .active ∨ s.cycles.door = true)) →
      (Fault → exec .requestCycle s = .next ((s.took .requestCycle).served r rest (.refused .fault) [])) ∧
      (¬ Fault → Condition → exec .requestCycle s =
        .next ((s.took .requestCycle).served r rest (.refused .condition) [])) ∧
      (¬ Fault → ¬ Condition → s.cycles.has k = true → exec .requestCycle s =
        .next ((s.took .requestCycle).served r rest .merged [])) ∧
      (¬ Fault → ¬ Condition → s.cycles.has k = false → ∃ t u x made, exec .requestCycle s = .next t ∧
        exec (.cycleRequest k) s = .next u ∧ t.cycles = u.cycles ∧ t.posts = s.posts.erase .requestCycle ++ made ∧
        u.posts = s.posts.erase (.cycleRequest k) ++ made ∧ Answers t x [] ∧
        ((∃ c ∈ t.cycles.queue, c.kind = k) → x = .ok) ∧ ((∀ c ∈ t.cycles.queue, c.kind ≠ k) → x = .started) ∧
        (s.cycles.running = none → s.cycles.queue = [] → s.cycles.suspended = none → x = .started) ∧
        (∀ c, s.cycles.running = some c → c.held = false →
          outranks k c.kind = false ∨ c.kind = .defrost ∨ c.kind = .pumpOut ∨ s.cycles.suspended ≠ none → x = .ok))) ∧
    (∀ k, s.Serves 0x0C r rest → r.args.length = 1 → cycleKindOfCode (r.arg 0) = some k → s.cycles.has k = false →
      exec .abortCycle s = .next ((s.took .abortCycle).served r rest (.refused .notPresent) [])) ∧
    (∀ k, s.Serves 0x0C r rest → r.args.length = 1 → cycleKindOfCode (r.arg 0) = some k → s.CycleLaw →
      s.cycles.has k = true → ∃ t, exec .abortCycle s = .next t ∧ t.cycles.has k = false ∧ Answers t .ok [] ∧
      (∀ c, s.cycles.running = some c ∨ s.cycles.suspended = some c → c.kind = k → t.cycles.record k =
        { outcome := .aborted .host, endSweep := s.ring.lastBegin, completed := c.completed }) ∧
      (∀ c ∈ s.cycles.queue, c.kind = k → t.cycles.record k =
        { outcome := .cancelled, endSweep := s.ring.lastBegin, completed := c.completed })) ∧
    (∀ b : Bool, s.Serves 0x0D r rest → r.args.length = 1 → r.arg 0 = (if b then 1 else 0) → ∃ t, exec .setRegime s = .next t ∧
      t.trans = { s.trans with night := b } ∧ (s.trans.night ≠ b → .regimeChanged ∈ t.posts) ∧ Answers t .ok []) ∧
    (∀ l w, s.Serves 0x0E r rest → r.args.length = 2 → levelOfCode (r.arg 0) = some l → l ≠ .unconfigured →
      r.arg 1 = (if w then 1 else 0) → s.rc.level ≠ .unconfigured → ∃ t, exec .setRunLevel s = .next t ∧
      t.rc = { s.rc with level := l, wake := w } ∧ Answers t .ok [] ∧
      (s.rc.level ≠ l → .cycleRunLevelChange l ∈ t.posts ∧ .ringRunLevelChange l ∈ t.posts ∧
        .muRunLevelChange l ∈ t.posts ∧ (l = .watch → .inhibitClaim .run ∈ t.posts) ∧
        (l = .halt → .inhibitClaim .halt ∈ t.posts))) ∧
    (s.Serves 0x0E r rest → r.args.length = 2 → 1 ≤ r.arg 0 → r.arg 0 ≤ 3 → r.arg 1 ≤ 1 → s.rc.level = .unconfigured →
      exec .setRunLevel s = .next ((s.took .setRunLevel).served r rest (.refused .condition) [])) ∧
    (s.Serves 0x17 r rest → r.args.length = 0 → ∃ t, exec .softReset s = .next t ∧ t.mu.softWait = true ∧
      t.mu.queue = rest ∧ t.ring.origin.getLast? = some (.mrsp r.src s.answering
        [r.payload.headD 0#16, 0x0000#16] true))

/-- R7, R8, R12, R159, R172, R173, R187: every request row, by the request at the head of the queue. In setup mode SET ADDRESS takes
the own address, and is answered from address 30; a request other than READ STATUS and SET ADDRESS is removed unanswered, and its place
is offered to the dirty rows and the owed NOTE (log 23). Outside it an unassigned code is REFUSED(BAD-ARG), its number of arguments
unread; while the loader is LOADING a request other than READ STATUS is NOT-READY; from another source than the controller, with a
bank live, it is REFUSED(SOURCE); with unfit arguments REFUSED(BAD-ARG), the number and values checked before anything of the rule's
own (log 30); a store request while the engine works or a swap is pending is BUSY with the engine's state (a COPY LIVE with
no bank live too, log 30), the CAL_EN line of a
COMMIT PAGE or ERASE SHADOW noted (log 10); SET ADDRESS is REFUSED(CONDITION). None changes anything but the two queues. A row that is
not the head's, or that may not start, does nothing (log 29). -/
def Obligations.RefusalsAndSetupModeChangeNothing : Prop :=
  (∀ (s : State) (r : Request) (rest : List Request) (cal : Bool) (c : Instr), s.MayStart r rest → c = commandOf cal r →
     (s.lines.setup = true →
       (r.code = some 0x16 → r.args.length = 1 → r.arg 0 ≤ 29 → exec c s =
         .next (((s.took c).setMu { s.mu with queue := rest }).setRing
           { s.ring.join (.mrsp r.src 30 [r.payload.headD 0#16, 0x0000#16] false) with
             own := r.arg 0, reserved := false })) ∧
       (r.code = some 0x01 ∨ r.code = some 0x16 → ¬ r.Fits → exec c s =
         .next ((s.took c).served r rest (.refused .badArg) [])) ∧
       (r.code ≠ some 0x01 → r.code ≠ some 0x16 → exec c s =
         .next ((((s.took c).setMu { s.mu with queue := rest }).setRing { s.ring with reserved := false }).post
           ((if ∃ x ∈ s.inter.rows ++ s.inter.leaving, x.dirty = true then [.dirtyRowOffer] else []) ++
            (if s.mu.owed = true then [.noteOwedOffer] else []))))) ∧
     (s.lines.setup = false → ∀ Assigned : Prop, (Assigned ↔ ∃ n, r.code = some n ∧ 1 ≤ n ∧ n ≤ 0x17) →
       (¬ Assigned → c = .unassignedRequest ∧ exec c s = .next ((s.took c).served r rest (.refused .badArg) [])) ∧
       (Assigned → r.code ≠ some 0x01 → s.rc.loader.isLoading = true → exec c s =
         .next ((s.took c).served r rest .notReady [])) ∧
       (Assigned → r.code = some 0x01 ∨ s.rc.loader.isLoading = false → s.isLive = true → r.src ≠ s.param 78 3 → exec c s =
         .next ((s.took c).served r rest (.refused .source) [])) ∧
       (Assigned → r.code = some 0x01 ∨ s.rc.loader.isLoading = false → (s.isLive = true → r.src = s.param 78 3) →
         (¬ r.Fits → exec c s = .next ((s.took c).served r rest (.refused .badArg) [])) ∧
         (r.Fits → r.code = some 0x16 → exec c s = .next ((s.took c).served r rest (.refused .condition) [])) ∧
         (r.Fits → (∃ n, r.code = some n ∧ 0x0F ≤ n ∧ n ≤ 0x14) → s.banks.engine ≠ .idle ∨ s.banks.swapPending = true →
           exec c s = .next (((s.took c).served r rest .busy [word ((match s.banks.engine with
             | .idle => 0
             | .committing _ _ => 1
             | .copying => 2
             | .erasing _ => 3) + s.banks.progress * 256 + flag s.banks.swapPending * 32768)]).setLines
             (if r.code = some 0x11 ∨ r.code = some 0x13 then { s.lines with calEn := cal } else s.lines)))))) ∧
  (∀ (s : State) (c : Instr), s.held = false → (∃ (cal : Bool) (p : Request), c = commandOf cal p) →
     (s.headRequest = none → exec c s = .next (s.took c)) ∧
     (∀ r rest, s.headRequest = some (r, rest) → (∀ cal, c ≠ commandOf cal r) → exec c s = .next (s.took c))) ∧
  (Result.ok.word = 0x0000#16 ∧ Result.started.word = 0x0100#16 ∧ Result.busy.word = 0x0200#16 ∧
    Result.merged.word = 0x0300#16 ∧ Result.notReady.word = 0x0400#16 ∧
    ∀ k x, (x, k) ∈ [(Reason.source, 1), (.address, 2), (.locked, 3), (.notComplete, 5), (.swapCheck, 6),
      (.notServiced, 7), (.notPresent, 8), (.fault, 9), (.condition, 10), (.badArg, 11)] →
      (Result.refused x).word = word (0x0500 + k))

/-- R158–R160, R163–R165: the store requests while the engine is IDLE and no swap is pending: staging takes its words and marks;
clearing clears the marks; a commit of a page that is not locked, a copy of a live bank and an erasure start the engine; a commit of
a page of 79 or more is REFUSED(ADDRESS), of a locked one REFUSED(LOCKED), and a copy with no bank live REFUSED(CONDITION); a swap of
a COMPLETE shadow that passes its check (at most one mapped node of each class BLOWER, COMP, TANK and HEATER and one mapped HEAD naming each
zone, and a controller address that is not the own address) is pending while sweeps are enabled, and taken at once otherwise. The level of CAL_EN is an operand
of COMMIT_PAGE and ERASE_SHADOW, and is kept (log 10). -/
def Obligations.StoreRequestsWorkOnTheShadow : Prop :=
  (∀ (b : Bank) (own : Nat) (Mapped : Nat → Nat → Prop),
    (∀ a cls, Mapped a cls ↔ a < 32 ∧ bits (b.word 64 (2 * a)) 15 1 = 1 ∧ bits (b.word 64 (2 * a)) 8 4 = cls) →
    (b.swapCheck own = true ↔
      (∀ cls ∈ [3, 5, 6, 7], ∀ x y, Mapped x cls → Mapped y cls → x = y) ∧
      (∀ x y, Mapped x 2 → Mapped y 2 → bits (b.word 64 (2 * x)) 0 4 = bits (b.word 64 (2 * y)) 0 4 →
        bits (b.word 64 (2 * x)) 0 4 ≤ 7 → x = y) ∧
      (b.word 78 3).toNat ≠ own)) ∧
  ∀ (s : State) (r : Request) (rest : List Request), s.banks.engine = .idle → s.banks.swapPending = false →
    (s.Serves 0x0F r rest → 2 ≤ r.args.length → r.args.length ≤ 7 → r.arg 0 + (r.args.length - 1) ≤ 64 → r.arg 0 ≤ 63 →
      Memory.wf s.banks.staging → ∃ t, exec .loadStaging s = .next t ∧
      (∀ i, i < r.args.length - 1 → t.banks.staging.read (r.arg 0 + i) = r.args.getD (i + 1) 0#16) ∧
      (∀ o, o < r.arg 0 ∨ r.arg 0 + (r.args.length - 1) ≤ o → t.banks.staging.read o = s.banks.staging.read o) ∧
      (∀ o b, s.banks.marks[o]? = some b → t.banks.marks[o]? = some
        (b || decide (r.arg 0 ≤ o ∧ o < r.arg 0 + (r.args.length - 1)))) ∧
      t.setBanks s.banks = (s.took .loadStaging).served r rest .ok []) ∧
    (s.Serves 0x10 r rest → r.args.length = 0 → exec .clearStaging s =
      .next (((s.took .clearStaging).served r rest .ok []).setBanks
        { s.banks with marks := List.replicate 64 false })) ∧
    (∀ cal, s.Serves 0x11 r rest → r.args.length = 1 → r.arg 0 < 79 → cal = true ∨ r.arg 0 < 65 ∨ 68 < r.arg 0 →
      exec (.commitPage cal) s = .next ((((s.took (.commitPage cal)).served r rest .started []).setBanks
        { s.banks with engine := .committing (r.arg 0) false, progress := 0 }).setLines { s.lines with calEn := cal })) ∧
    (s.Serves 0x11 r rest → r.args.length = 1 → 65 ≤ r.arg 0 → r.arg 0 ≤ 68 → exec (.commitPage false) s =
      .next (((s.took (.commitPage false)).served r rest (.refused .locked) []).setLines { s.lines with calEn := false })) ∧
    (∀ cal, s.Serves 0x11 r rest → r.args.length = 1 → 79 ≤ r.arg 0 → exec (.commitPage cal) s =
      .next (((s.took (.commitPage cal)).served r rest (.refused .address) []).setLines { s.lines with calEn := cal })) ∧
    (s.Serves 0x12 r rest → r.args.length = 0 → s.isLive = false → exec .copyLive s =
      .next ((s.took .copyLive).served r rest (.refused .condition) [])) ∧
    (s.Serves 0x12 r rest → r.args.length = 0 → s.isLive = true → exec .copyLive s =
      .next (((s.took .copyLive).served r rest .started []).setBanks { s.banks with engine := .copying, progress := 0 })) ∧
    (∀ cal, s.Serves 0x13 r rest → r.args.length = 0 → exec (.eraseShadow cal) s =
      .next ((((s.took (.eraseShadow cal)).served r rest .started []).setBanks
        { s.banks with engine := .erasing (!cal), progress := 0 }).setLines { s.lines with calEn := cal })) ∧
    (s.Serves 0x14 r rest → r.args.length = 0 →
      (s.banks.shadow.complete = false → exec .swapBanks s =
        .next ((s.took .swapBanks).served r rest (.refused .notComplete) [])) ∧
      (s.banks.shadow.complete = true → s.banks.shadow.swapCheck s.ring.own = false → exec .swapBanks s =
        .next ((s.took .swapBanks).served r rest (.refused .swapCheck) [])) ∧
      (s.banks.shadow.complete = true → s.banks.shadow.swapCheck s.ring.own = true → s.ring.enabled = true →
        exec .swapBanks s = .next (((s.took .swapBanks).served r rest .started []).setBanks
          { s.banks with swapPending := true })) ∧
      (s.banks.shadow.complete = true → s.banks.shadow.swapCheck s.ring.own = true → s.ring.enabled = false →
        ∃ t, exec .swapBanks s = .next t ∧ t.banks.live = some (if s.banks.live = some .a then .b else .a) ∧
          t.banks.generation = (s.banks.generation + 1) % 65536 ∧ .interlockSwapTaken ∈ t.posts ∧
          t.ring.origin.getLast? = some (s.answerFrame r .ok [])))

/-! ### Laws that every step keeps -/

/-- Every law of Safety.lean holds of the reset state, whatever the levels of the lines and straps, the index of the free values and
the waiting commands; `State.reset` is the one with every line low and nothing waiting (log 9). -/
def Obligations.LawsHoldAtReset : Prop :=
  (∀ (l : Lines) (free : Nat) (pending : List Instr), (State.atReset l free pending).Laws) ∧ State.reset.Laws

/-- R157, R165: every step keeps every page of the live bank WRITTEN, and while a swap is pending every page of the shadow WRITTEN, the
store engine IDLE and the loader not LOADING; and so the canonical form of both banks and the staging buffer, which is the model's
(log 40). R161, R181: it keeps every WRITTEN page of either bank valid. -/
def Obligations.StepKeepsBanksWhole : Prop :=
  (∀ s t : State, s.MemoriesWf → step s = .next t → t.MemoriesWf) ∧
  (∀ s t : State, s.BankLaw → step s = .next t → t.BankLaw) ∧
  (∀ s t : State, s.MemoriesWf → s.BankLaw → s.TablesValid → step s = .next t → t.TablesValid)

/-- R6, R10–R12, R14–R16: every step keeps the queues within their capacities, no two ACTs for one output or two NOTEs queued, and
the sweep record sound. -/
def Obligations.StepKeepsTheRingSound : Prop :=
  (∀ s t : State, s.QueuesBounded → step s = .next t → t.QueuesBounded) ∧
  (∀ s t : State, s.SweepRecordSound → step s = .next t → t.SweepRecordSound)

/-- R80, R82, R84: every step keeps the compressor and the heater off unless airflow is proven and no inhibit forces them; with DOOR
claimed the blower and every damper at 0; and airflow proven only with a blower row and the latch clear. R11, R76, R89: it keeps the rows,
those leaving included, for distinct outputs. -/
def Obligations.StepKeepsPlantProtected : Prop :=
  (∀ s t : State, s.DoorLaw → s.ProofLaw → s.ProofHasBlower → s.FaultSound → step s = .next t →
    t.DoorLaw ∧ t.ProofLaw ∧ t.ProofHasBlower ∧ t.FaultSound) ∧
  ∀ s t : State, s.RowsDistinct → step s = .next t → t.RowsDistinct

/-- R83: every step keeps the blower at or above the dry min step while the compressor or the heater is on, but for the moment
between a swap and the interlock's taking of it. -/
def Obligations.StepKeepsBlowerAtFloor : Prop :=
  ∀ s t : State, (s.FloorLaw ∨ .interlockSwapTaken ∈ s.posts) → step s = .next t →
    t.FloorLaw ∨ .interlockSwapTaken ∈ t.posts

/-- R124, R129–R131, R133: every step keeps each kind of cycle at most once present, the queue in priority order, DEFROST and PUMP-OUT
out of the suspended place, and the running and the suspended cycle in a step of their kind. -/
def Obligations.StepKeepsCyclesInOrder : Prop := ∀ s t : State, s.CycleLaw → step s = .next t → t.CycleLaw

/-- R31, R33, R36, R49, R102, R104, R114, R142, R144, R146, R149: every step keeps the accumulators and the zones sound, an ABSENT zone
fresh among them (log 45), the tank FULL while the float record is ASSERTED, and the estimates, charges, run sweeps and the derate in
their ranges. With valid live tables it keeps the tank estimate within 0 and the capacity (R114), and every fitted stage whose charge is
at its worn threshold WORN or SPENT, at its life SPENT (R142), but for the moment between a swap and its taking by the monitor. -/
def Obligations.StepKeepsRecordsInRange : Prop :=
  (∀ s t : State, s.AccumulatorsSound → s.ZonesSound → step s = .next t → t.AccumulatorsSound ∧ t.ZonesSound) ∧
  (∀ s t : State, s.FloatLaw → step s = .next t → t.FloatLaw) ∧
  (∀ s t : State, s.EstimatesBounded → step s = .next t → t.EstimatesBounded) ∧
  (∀ s t : State, s.TankLaw → s.BankLaw → s.TablesValid → step s = .next t → t.TankLaw) ∧
  ∀ s t : State, s.FilterLaw → step s = .next t → t.FilterLaw
end

