-- ==== Sys2Proof/Laws/State.lean ====
section
/-! SUPPORT. One lemma per field per update of State, so that no proof unfolds a record update. -/

namespace Sys2Proof.Machine

variable (s : State)

@[simp] theorem State.setLines_lines (x : Lines) : (s.setLines x).lines = x := rfl
@[simp] theorem State.setLines_held (x : Lines) : (s.setLines x).held = s.held := rfl
@[simp] theorem State.setLines_ring (x : Lines) : (s.setLines x).ring = s.ring := rfl
@[simp] theorem State.setLines_trans (x : Lines) : (s.setLines x).trans = s.trans := rfl
@[simp] theorem State.setLines_zones (x : Lines) : (s.setLines x).zones = s.zones := rfl
@[simp] theorem State.setLines_alloc (x : Lines) : (s.setLines x).alloc = s.alloc := rfl
@[simp] theorem State.setLines_inter (x : Lines) : (s.setLines x).inter = s.inter := rfl
@[simp] theorem State.setLines_dry (x : Lines) : (s.setLines x).dry = s.dry := rfl
@[simp] theorem State.setLines_water (x : Lines) : (s.setLines x).water = s.water := rfl
@[simp] theorem State.setLines_cycles (x : Lines) : (s.setLines x).cycles = s.cycles := rfl
@[simp] theorem State.setLines_filters (x : Lines) : (s.setLines x).filters = s.filters := rfl
@[simp] theorem State.setLines_banks (x : Lines) : (s.setLines x).banks = s.banks := rfl
@[simp] theorem State.setLines_mu (x : Lines) : (s.setLines x).mu = s.mu := rfl
@[simp] theorem State.setLines_rc (x : Lines) : (s.setLines x).rc = s.rc := rfl
@[simp] theorem State.setLines_posts (x : Lines) : (s.setLines x).posts = s.posts := rfl
@[simp] theorem State.setLines_free (x : Lines) : (s.setLines x).free = s.free := rfl
@[simp] theorem State.setLines_subTick (x : Lines) : (s.setLines x).subTick = s.subTick := rfl
@[simp] theorem State.setLines_pending (x : Lines) : (s.setLines x).pending = s.pending := rfl
@[simp] theorem State.setHeld_lines (x : Bool) : (s.setHeld x).lines = s.lines := rfl
@[simp] theorem State.setHeld_held (x : Bool) : (s.setHeld x).held = x := rfl
@[simp] theorem State.setHeld_ring (x : Bool) : (s.setHeld x).ring = s.ring := rfl
@[simp] theorem State.setHeld_trans (x : Bool) : (s.setHeld x).trans = s.trans := rfl
@[simp] theorem State.setHeld_zones (x : Bool) : (s.setHeld x).zones = s.zones := rfl
@[simp] theorem State.setHeld_alloc (x : Bool) : (s.setHeld x).alloc = s.alloc := rfl
@[simp] theorem State.setHeld_inter (x : Bool) : (s.setHeld x).inter = s.inter := rfl
@[simp] theorem State.setHeld_dry (x : Bool) : (s.setHeld x).dry = s.dry := rfl
@[simp] theorem State.setHeld_water (x : Bool) : (s.setHeld x).water = s.water := rfl
@[simp] theorem State.setHeld_cycles (x : Bool) : (s.setHeld x).cycles = s.cycles := rfl
@[simp] theorem State.setHeld_filters (x : Bool) : (s.setHeld x).filters = s.filters := rfl
@[simp] theorem State.setHeld_banks (x : Bool) : (s.setHeld x).banks = s.banks := rfl
@[simp] theorem State.setHeld_mu (x : Bool) : (s.setHeld x).mu = s.mu := rfl
@[simp] theorem State.setHeld_rc (x : Bool) : (s.setHeld x).rc = s.rc := rfl
@[simp] theorem State.setHeld_posts (x : Bool) : (s.setHeld x).posts = s.posts := rfl
@[simp] theorem State.setHeld_free (x : Bool) : (s.setHeld x).free = s.free := rfl
@[simp] theorem State.setHeld_subTick (x : Bool) : (s.setHeld x).subTick = s.subTick := rfl
@[simp] theorem State.setHeld_pending (x : Bool) : (s.setHeld x).pending = s.pending := rfl
@[simp] theorem State.setRing_lines (x : Ring) : (s.setRing x).lines = s.lines := rfl
@[simp] theorem State.setRing_held (x : Ring) : (s.setRing x).held = s.held := rfl
@[simp] theorem State.setRing_ring (x : Ring) : (s.setRing x).ring = x := rfl
@[simp] theorem State.setRing_trans (x : Ring) : (s.setRing x).trans = s.trans := rfl
@[simp] theorem State.setRing_zones (x : Ring) : (s.setRing x).zones = s.zones := rfl
@[simp] theorem State.setRing_alloc (x : Ring) : (s.setRing x).alloc = s.alloc := rfl
@[simp] theorem State.setRing_inter (x : Ring) : (s.setRing x).inter = s.inter := rfl
@[simp] theorem State.setRing_dry (x : Ring) : (s.setRing x).dry = s.dry := rfl
@[simp] theorem State.setRing_water (x : Ring) : (s.setRing x).water = s.water := rfl
@[simp] theorem State.setRing_cycles (x : Ring) : (s.setRing x).cycles = s.cycles := rfl
@[simp] theorem State.setRing_filters (x : Ring) : (s.setRing x).filters = s.filters := rfl
@[simp] theorem State.setRing_banks (x : Ring) : (s.setRing x).banks = s.banks := rfl
@[simp] theorem State.setRing_mu (x : Ring) : (s.setRing x).mu = s.mu := rfl
@[simp] theorem State.setRing_rc (x : Ring) : (s.setRing x).rc = s.rc := rfl
@[simp] theorem State.setRing_posts (x : Ring) : (s.setRing x).posts = s.posts := rfl
@[simp] theorem State.setRing_free (x : Ring) : (s.setRing x).free = s.free := rfl
@[simp] theorem State.setRing_subTick (x : Ring) : (s.setRing x).subTick = s.subTick := rfl
@[simp] theorem State.setRing_pending (x : Ring) : (s.setRing x).pending = s.pending := rfl
@[simp] theorem State.setTrans_lines (x : Translator) : (s.setTrans x).lines = s.lines := rfl
@[simp] theorem State.setTrans_held (x : Translator) : (s.setTrans x).held = s.held := rfl
@[simp] theorem State.setTrans_ring (x : Translator) : (s.setTrans x).ring = s.ring := rfl
@[simp] theorem State.setTrans_trans (x : Translator) : (s.setTrans x).trans = x := rfl
@[simp] theorem State.setTrans_zones (x : Translator) : (s.setTrans x).zones = s.zones := rfl
@[simp] theorem State.setTrans_alloc (x : Translator) : (s.setTrans x).alloc = s.alloc := rfl
@[simp] theorem State.setTrans_inter (x : Translator) : (s.setTrans x).inter = s.inter := rfl
@[simp] theorem State.setTrans_dry (x : Translator) : (s.setTrans x).dry = s.dry := rfl
@[simp] theorem State.setTrans_water (x : Translator) : (s.setTrans x).water = s.water := rfl
@[simp] theorem State.setTrans_cycles (x : Translator) : (s.setTrans x).cycles = s.cycles := rfl
@[simp] theorem State.setTrans_filters (x : Translator) : (s.setTrans x).filters = s.filters := rfl
@[simp] theorem State.setTrans_banks (x : Translator) : (s.setTrans x).banks = s.banks := rfl
@[simp] theorem State.setTrans_mu (x : Translator) : (s.setTrans x).mu = s.mu := rfl
@[simp] theorem State.setTrans_rc (x : Translator) : (s.setTrans x).rc = s.rc := rfl
@[simp] theorem State.setTrans_posts (x : Translator) : (s.setTrans x).posts = s.posts := rfl
@[simp] theorem State.setTrans_free (x : Translator) : (s.setTrans x).free = s.free := rfl
@[simp] theorem State.setTrans_subTick (x : Translator) : (s.setTrans x).subTick = s.subTick := rfl
@[simp] theorem State.setTrans_pending (x : Translator) : (s.setTrans x).pending = s.pending := rfl
@[simp] theorem State.setZones_lines (x : List Zone) : (s.setZones x).lines = s.lines := rfl
@[simp] theorem State.setZones_held (x : List Zone) : (s.setZones x).held = s.held := rfl
@[simp] theorem State.setZones_ring (x : List Zone) : (s.setZones x).ring = s.ring := rfl
@[simp] theorem State.setZones_trans (x : List Zone) : (s.setZones x).trans = s.trans := rfl
@[simp] theorem State.setZones_zones (x : List Zone) : (s.setZones x).zones = x := rfl
@[simp] theorem State.setZones_alloc (x : List Zone) : (s.setZones x).alloc = s.alloc := rfl
@[simp] theorem State.setZones_inter (x : List Zone) : (s.setZones x).inter = s.inter := rfl
@[simp] theorem State.setZones_dry (x : List Zone) : (s.setZones x).dry = s.dry := rfl
@[simp] theorem State.setZones_water (x : List Zone) : (s.setZones x).water = s.water := rfl
@[simp] theorem State.setZones_cycles (x : List Zone) : (s.setZones x).cycles = s.cycles := rfl
@[simp] theorem State.setZones_filters (x : List Zone) : (s.setZones x).filters = s.filters := rfl
@[simp] theorem State.setZones_banks (x : List Zone) : (s.setZones x).banks = s.banks := rfl
@[simp] theorem State.setZones_mu (x : List Zone) : (s.setZones x).mu = s.mu := rfl
@[simp] theorem State.setZones_rc (x : List Zone) : (s.setZones x).rc = s.rc := rfl
@[simp] theorem State.setZones_posts (x : List Zone) : (s.setZones x).posts = s.posts := rfl
@[simp] theorem State.setZones_free (x : List Zone) : (s.setZones x).free = s.free := rfl
@[simp] theorem State.setZones_subTick (x : List Zone) : (s.setZones x).subTick = s.subTick := rfl
@[simp] theorem State.setZones_pending (x : List Zone) : (s.setZones x).pending = s.pending := rfl
@[simp] theorem State.setAlloc_lines (x : Allocator) : (s.setAlloc x).lines = s.lines := rfl
@[simp] theorem State.setAlloc_held (x : Allocator) : (s.setAlloc x).held = s.held := rfl
@[simp] theorem State.setAlloc_ring (x : Allocator) : (s.setAlloc x).ring = s.ring := rfl
@[simp] theorem State.setAlloc_trans (x : Allocator) : (s.setAlloc x).trans = s.trans := rfl
@[simp] theorem State.setAlloc_zones (x : Allocator) : (s.setAlloc x).zones = s.zones := rfl
@[simp] theorem State.setAlloc_alloc (x : Allocator) : (s.setAlloc x).alloc = x := rfl
@[simp] theorem State.setAlloc_inter (x : Allocator) : (s.setAlloc x).inter = s.inter := rfl
@[simp] theorem State.setAlloc_dry (x : Allocator) : (s.setAlloc x).dry = s.dry := rfl
@[simp] theorem State.setAlloc_water (x : Allocator) : (s.setAlloc x).water = s.water := rfl
@[simp] theorem State.setAlloc_cycles (x : Allocator) : (s.setAlloc x).cycles = s.cycles := rfl
@[simp] theorem State.setAlloc_filters (x : Allocator) : (s.setAlloc x).filters = s.filters := rfl
@[simp] theorem State.setAlloc_banks (x : Allocator) : (s.setAlloc x).banks = s.banks := rfl
@[simp] theorem State.setAlloc_mu (x : Allocator) : (s.setAlloc x).mu = s.mu := rfl
@[simp] theorem State.setAlloc_rc (x : Allocator) : (s.setAlloc x).rc = s.rc := rfl
@[simp] theorem State.setAlloc_posts (x : Allocator) : (s.setAlloc x).posts = s.posts := rfl
@[simp] theorem State.setAlloc_free (x : Allocator) : (s.setAlloc x).free = s.free := rfl
@[simp] theorem State.setAlloc_subTick (x : Allocator) : (s.setAlloc x).subTick = s.subTick := rfl
@[simp] theorem State.setAlloc_pending (x : Allocator) : (s.setAlloc x).pending = s.pending := rfl
@[simp] theorem State.setInter_lines (x : Interlock) : (s.setInter x).lines = s.lines := rfl
@[simp] theorem State.setInter_held (x : Interlock) : (s.setInter x).held = s.held := rfl
@[simp] theorem State.setInter_ring (x : Interlock) : (s.setInter x).ring = s.ring := rfl
@[simp] theorem State.setInter_trans (x : Interlock) : (s.setInter x).trans = s.trans := rfl
@[simp] theorem State.setInter_zones (x : Interlock) : (s.setInter x).zones = s.zones := rfl
@[simp] theorem State.setInter_alloc (x : Interlock) : (s.setInter x).alloc = s.alloc := rfl
@[simp] theorem State.setInter_inter (x : Interlock) : (s.setInter x).inter = x := rfl
@[simp] theorem State.setInter_dry (x : Interlock) : (s.setInter x).dry = s.dry := rfl
@[simp] theorem State.setInter_water (x : Interlock) : (s.setInter x).water = s.water := rfl
@[simp] theorem State.setInter_cycles (x : Interlock) : (s.setInter x).cycles = s.cycles := rfl
@[simp] theorem State.setInter_filters (x : Interlock) : (s.setInter x).filters = s.filters := rfl
@[simp] theorem State.setInter_banks (x : Interlock) : (s.setInter x).banks = s.banks := rfl
@[simp] theorem State.setInter_mu (x : Interlock) : (s.setInter x).mu = s.mu := rfl
@[simp] theorem State.setInter_rc (x : Interlock) : (s.setInter x).rc = s.rc := rfl
@[simp] theorem State.setInter_posts (x : Interlock) : (s.setInter x).posts = s.posts := rfl
@[simp] theorem State.setInter_free (x : Interlock) : (s.setInter x).free = s.free := rfl
@[simp] theorem State.setInter_subTick (x : Interlock) : (s.setInter x).subTick = s.subTick := rfl
@[simp] theorem State.setInter_pending (x : Interlock) : (s.setInter x).pending = s.pending := rfl
@[simp] theorem State.setDry_lines (x : Drying) : (s.setDry x).lines = s.lines := rfl
@[simp] theorem State.setDry_held (x : Drying) : (s.setDry x).held = s.held := rfl
@[simp] theorem State.setDry_ring (x : Drying) : (s.setDry x).ring = s.ring := rfl
@[simp] theorem State.setDry_trans (x : Drying) : (s.setDry x).trans = s.trans := rfl
@[simp] theorem State.setDry_zones (x : Drying) : (s.setDry x).zones = s.zones := rfl
@[simp] theorem State.setDry_alloc (x : Drying) : (s.setDry x).alloc = s.alloc := rfl
@[simp] theorem State.setDry_inter (x : Drying) : (s.setDry x).inter = s.inter := rfl
@[simp] theorem State.setDry_dry (x : Drying) : (s.setDry x).dry = x := rfl
@[simp] theorem State.setDry_water (x : Drying) : (s.setDry x).water = s.water := rfl
@[simp] theorem State.setDry_cycles (x : Drying) : (s.setDry x).cycles = s.cycles := rfl
@[simp] theorem State.setDry_filters (x : Drying) : (s.setDry x).filters = s.filters := rfl
@[simp] theorem State.setDry_banks (x : Drying) : (s.setDry x).banks = s.banks := rfl
@[simp] theorem State.setDry_mu (x : Drying) : (s.setDry x).mu = s.mu := rfl
@[simp] theorem State.setDry_rc (x : Drying) : (s.setDry x).rc = s.rc := rfl
@[simp] theorem State.setDry_posts (x : Drying) : (s.setDry x).posts = s.posts := rfl
@[simp] theorem State.setDry_free (x : Drying) : (s.setDry x).free = s.free := rfl
@[simp] theorem State.setDry_subTick (x : Drying) : (s.setDry x).subTick = s.subTick := rfl
@[simp] theorem State.setDry_pending (x : Drying) : (s.setDry x).pending = s.pending := rfl
@[simp] theorem State.setWater_lines (x : Water) : (s.setWater x).lines = s.lines := rfl
@[simp] theorem State.setWater_held (x : Water) : (s.setWater x).held = s.held := rfl
@[simp] theorem State.setWater_ring (x : Water) : (s.setWater x).ring = s.ring := rfl
@[simp] theorem State.setWater_trans (x : Water) : (s.setWater x).trans = s.trans := rfl
@[simp] theorem State.setWater_zones (x : Water) : (s.setWater x).zones = s.zones := rfl
@[simp] theorem State.setWater_alloc (x : Water) : (s.setWater x).alloc = s.alloc := rfl
@[simp] theorem State.setWater_inter (x : Water) : (s.setWater x).inter = s.inter := rfl
@[simp] theorem State.setWater_dry (x : Water) : (s.setWater x).dry = s.dry := rfl
@[simp] theorem State.setWater_water (x : Water) : (s.setWater x).water = x := rfl
@[simp] theorem State.setWater_cycles (x : Water) : (s.setWater x).cycles = s.cycles := rfl
@[simp] theorem State.setWater_filters (x : Water) : (s.setWater x).filters = s.filters := rfl
@[simp] theorem State.setWater_banks (x : Water) : (s.setWater x).banks = s.banks := rfl
@[simp] theorem State.setWater_mu (x : Water) : (s.setWater x).mu = s.mu := rfl
@[simp] theorem State.setWater_rc (x : Water) : (s.setWater x).rc = s.rc := rfl
@[simp] theorem State.setWater_posts (x : Water) : (s.setWater x).posts = s.posts := rfl
@[simp] theorem State.setWater_free (x : Water) : (s.setWater x).free = s.free := rfl
@[simp] theorem State.setWater_subTick (x : Water) : (s.setWater x).subTick = s.subTick := rfl
@[simp] theorem State.setWater_pending (x : Water) : (s.setWater x).pending = s.pending := rfl
@[simp] theorem State.setCycles_lines (x : CycleEngine) : (s.setCycles x).lines = s.lines := rfl
@[simp] theorem State.setCycles_held (x : CycleEngine) : (s.setCycles x).held = s.held := rfl
@[simp] theorem State.setCycles_ring (x : CycleEngine) : (s.setCycles x).ring = s.ring := rfl
@[simp] theorem State.setCycles_trans (x : CycleEngine) : (s.setCycles x).trans = s.trans := rfl
@[simp] theorem State.setCycles_zones (x : CycleEngine) : (s.setCycles x).zones = s.zones := rfl
@[simp] theorem State.setCycles_alloc (x : CycleEngine) : (s.setCycles x).alloc = s.alloc := rfl
@[simp] theorem State.setCycles_inter (x : CycleEngine) : (s.setCycles x).inter = s.inter := rfl
@[simp] theorem State.setCycles_dry (x : CycleEngine) : (s.setCycles x).dry = s.dry := rfl
@[simp] theorem State.setCycles_water (x : CycleEngine) : (s.setCycles x).water = s.water := rfl
@[simp] theorem State.setCycles_cycles (x : CycleEngine) : (s.setCycles x).cycles = x := rfl
@[simp] theorem State.setCycles_filters (x : CycleEngine) : (s.setCycles x).filters = s.filters := rfl
@[simp] theorem State.setCycles_banks (x : CycleEngine) : (s.setCycles x).banks = s.banks := rfl
@[simp] theorem State.setCycles_mu (x : CycleEngine) : (s.setCycles x).mu = s.mu := rfl
@[simp] theorem State.setCycles_rc (x : CycleEngine) : (s.setCycles x).rc = s.rc := rfl
@[simp] theorem State.setCycles_posts (x : CycleEngine) : (s.setCycles x).posts = s.posts := rfl
@[simp] theorem State.setCycles_free (x : CycleEngine) : (s.setCycles x).free = s.free := rfl
@[simp] theorem State.setCycles_subTick (x : CycleEngine) : (s.setCycles x).subTick = s.subTick := rfl
@[simp] theorem State.setCycles_pending (x : CycleEngine) : (s.setCycles x).pending = s.pending := rfl
@[simp] theorem State.setFilters_lines (x : Filters) : (s.setFilters x).lines = s.lines := rfl
@[simp] theorem State.setFilters_held (x : Filters) : (s.setFilters x).held = s.held := rfl
@[simp] theorem State.setFilters_ring (x : Filters) : (s.setFilters x).ring = s.ring := rfl
@[simp] theorem State.setFilters_trans (x : Filters) : (s.setFilters x).trans = s.trans := rfl
@[simp] theorem State.setFilters_zones (x : Filters) : (s.setFilters x).zones = s.zones := rfl
@[simp] theorem State.setFilters_alloc (x : Filters) : (s.setFilters x).alloc = s.alloc := rfl
@[simp] theorem State.setFilters_inter (x : Filters) : (s.setFilters x).inter = s.inter := rfl
@[simp] theorem State.setFilters_dry (x : Filters) : (s.setFilters x).dry = s.dry := rfl
@[simp] theorem State.setFilters_water (x : Filters) : (s.setFilters x).water = s.water := rfl
@[simp] theorem State.setFilters_cycles (x : Filters) : (s.setFilters x).cycles = s.cycles := rfl
@[simp] theorem State.setFilters_filters (x : Filters) : (s.setFilters x).filters = x := rfl
@[simp] theorem State.setFilters_banks (x : Filters) : (s.setFilters x).banks = s.banks := rfl
@[simp] theorem State.setFilters_mu (x : Filters) : (s.setFilters x).mu = s.mu := rfl
@[simp] theorem State.setFilters_rc (x : Filters) : (s.setFilters x).rc = s.rc := rfl
@[simp] theorem State.setFilters_posts (x : Filters) : (s.setFilters x).posts = s.posts := rfl
@[simp] theorem State.setFilters_free (x : Filters) : (s.setFilters x).free = s.free := rfl
@[simp] theorem State.setFilters_subTick (x : Filters) : (s.setFilters x).subTick = s.subTick := rfl
@[simp] theorem State.setFilters_pending (x : Filters) : (s.setFilters x).pending = s.pending := rfl
@[simp] theorem State.setBanks_lines (x : Banks) : (s.setBanks x).lines = s.lines := rfl
@[simp] theorem State.setBanks_held (x : Banks) : (s.setBanks x).held = s.held := rfl
@[simp] theorem State.setBanks_ring (x : Banks) : (s.setBanks x).ring = s.ring := rfl
@[simp] theorem State.setBanks_trans (x : Banks) : (s.setBanks x).trans = s.trans := rfl
@[simp] theorem State.setBanks_zones (x : Banks) : (s.setBanks x).zones = s.zones := rfl
@[simp] theorem State.setBanks_alloc (x : Banks) : (s.setBanks x).alloc = s.alloc := rfl
@[simp] theorem State.setBanks_inter (x : Banks) : (s.setBanks x).inter = s.inter := rfl
@[simp] theorem State.setBanks_dry (x : Banks) : (s.setBanks x).dry = s.dry := rfl
@[simp] theorem State.setBanks_water (x : Banks) : (s.setBanks x).water = s.water := rfl
@[simp] theorem State.setBanks_cycles (x : Banks) : (s.setBanks x).cycles = s.cycles := rfl
@[simp] theorem State.setBanks_filters (x : Banks) : (s.setBanks x).filters = s.filters := rfl
@[simp] theorem State.setBanks_banks (x : Banks) : (s.setBanks x).banks = x := rfl
@[simp] theorem State.setBanks_mu (x : Banks) : (s.setBanks x).mu = s.mu := rfl
@[simp] theorem State.setBanks_rc (x : Banks) : (s.setBanks x).rc = s.rc := rfl
@[simp] theorem State.setBanks_posts (x : Banks) : (s.setBanks x).posts = s.posts := rfl
@[simp] theorem State.setBanks_free (x : Banks) : (s.setBanks x).free = s.free := rfl
@[simp] theorem State.setBanks_subTick (x : Banks) : (s.setBanks x).subTick = s.subTick := rfl
@[simp] theorem State.setBanks_pending (x : Banks) : (s.setBanks x).pending = s.pending := rfl
@[simp] theorem State.setMu_lines (x : Management) : (s.setMu x).lines = s.lines := rfl
@[simp] theorem State.setMu_held (x : Management) : (s.setMu x).held = s.held := rfl
@[simp] theorem State.setMu_ring (x : Management) : (s.setMu x).ring = s.ring := rfl
@[simp] theorem State.setMu_trans (x : Management) : (s.setMu x).trans = s.trans := rfl
@[simp] theorem State.setMu_zones (x : Management) : (s.setMu x).zones = s.zones := rfl
@[simp] theorem State.setMu_alloc (x : Management) : (s.setMu x).alloc = s.alloc := rfl
@[simp] theorem State.setMu_inter (x : Management) : (s.setMu x).inter = s.inter := rfl
@[simp] theorem State.setMu_dry (x : Management) : (s.setMu x).dry = s.dry := rfl
@[simp] theorem State.setMu_water (x : Management) : (s.setMu x).water = s.water := rfl
@[simp] theorem State.setMu_cycles (x : Management) : (s.setMu x).cycles = s.cycles := rfl
@[simp] theorem State.setMu_filters (x : Management) : (s.setMu x).filters = s.filters := rfl
@[simp] theorem State.setMu_banks (x : Management) : (s.setMu x).banks = s.banks := rfl
@[simp] theorem State.setMu_mu (x : Management) : (s.setMu x).mu = x := rfl
@[simp] theorem State.setMu_rc (x : Management) : (s.setMu x).rc = s.rc := rfl
@[simp] theorem State.setMu_posts (x : Management) : (s.setMu x).posts = s.posts := rfl
@[simp] theorem State.setMu_free (x : Management) : (s.setMu x).free = s.free := rfl
@[simp] theorem State.setMu_subTick (x : Management) : (s.setMu x).subTick = s.subTick := rfl
@[simp] theorem State.setMu_pending (x : Management) : (s.setMu x).pending = s.pending := rfl
@[simp] theorem State.setRc_lines (x : RunControl) : (s.setRc x).lines = s.lines := rfl
@[simp] theorem State.setRc_held (x : RunControl) : (s.setRc x).held = s.held := rfl
@[simp] theorem State.setRc_ring (x : RunControl) : (s.setRc x).ring = s.ring := rfl
@[simp] theorem State.setRc_trans (x : RunControl) : (s.setRc x).trans = s.trans := rfl
@[simp] theorem State.setRc_zones (x : RunControl) : (s.setRc x).zones = s.zones := rfl
@[simp] theorem State.setRc_alloc (x : RunControl) : (s.setRc x).alloc = s.alloc := rfl
@[simp] theorem State.setRc_inter (x : RunControl) : (s.setRc x).inter = s.inter := rfl
@[simp] theorem State.setRc_dry (x : RunControl) : (s.setRc x).dry = s.dry := rfl
@[simp] theorem State.setRc_water (x : RunControl) : (s.setRc x).water = s.water := rfl
@[simp] theorem State.setRc_cycles (x : RunControl) : (s.setRc x).cycles = s.cycles := rfl
@[simp] theorem State.setRc_filters (x : RunControl) : (s.setRc x).filters = s.filters := rfl
@[simp] theorem State.setRc_banks (x : RunControl) : (s.setRc x).banks = s.banks := rfl
@[simp] theorem State.setRc_mu (x : RunControl) : (s.setRc x).mu = s.mu := rfl
@[simp] theorem State.setRc_rc (x : RunControl) : (s.setRc x).rc = x := rfl
@[simp] theorem State.setRc_posts (x : RunControl) : (s.setRc x).posts = s.posts := rfl
@[simp] theorem State.setRc_free (x : RunControl) : (s.setRc x).free = s.free := rfl
@[simp] theorem State.setRc_subTick (x : RunControl) : (s.setRc x).subTick = s.subTick := rfl
@[simp] theorem State.setRc_pending (x : RunControl) : (s.setRc x).pending = s.pending := rfl
@[simp] theorem State.setPosts_lines (x : List Instr) : (s.setPosts x).lines = s.lines := rfl
@[simp] theorem State.setPosts_held (x : List Instr) : (s.setPosts x).held = s.held := rfl
@[simp] theorem State.setPosts_ring (x : List Instr) : (s.setPosts x).ring = s.ring := rfl
@[simp] theorem State.setPosts_trans (x : List Instr) : (s.setPosts x).trans = s.trans := rfl
@[simp] theorem State.setPosts_zones (x : List Instr) : (s.setPosts x).zones = s.zones := rfl
@[simp] theorem State.setPosts_alloc (x : List Instr) : (s.setPosts x).alloc = s.alloc := rfl
@[simp] theorem State.setPosts_inter (x : List Instr) : (s.setPosts x).inter = s.inter := rfl
@[simp] theorem State.setPosts_dry (x : List Instr) : (s.setPosts x).dry = s.dry := rfl
@[simp] theorem State.setPosts_water (x : List Instr) : (s.setPosts x).water = s.water := rfl
@[simp] theorem State.setPosts_cycles (x : List Instr) : (s.setPosts x).cycles = s.cycles := rfl
@[simp] theorem State.setPosts_filters (x : List Instr) : (s.setPosts x).filters = s.filters := rfl
@[simp] theorem State.setPosts_banks (x : List Instr) : (s.setPosts x).banks = s.banks := rfl
@[simp] theorem State.setPosts_mu (x : List Instr) : (s.setPosts x).mu = s.mu := rfl
@[simp] theorem State.setPosts_rc (x : List Instr) : (s.setPosts x).rc = s.rc := rfl
@[simp] theorem State.setPosts_posts (x : List Instr) : (s.setPosts x).posts = x := rfl
@[simp] theorem State.setPosts_free (x : List Instr) : (s.setPosts x).free = s.free := rfl
@[simp] theorem State.setPosts_subTick (x : List Instr) : (s.setPosts x).subTick = s.subTick := rfl
@[simp] theorem State.setPosts_pending (x : List Instr) : (s.setPosts x).pending = s.pending := rfl
@[simp] theorem State.setFree_lines (x : Nat) : (s.setFree x).lines = s.lines := rfl
@[simp] theorem State.setFree_held (x : Nat) : (s.setFree x).held = s.held := rfl
@[simp] theorem State.setFree_ring (x : Nat) : (s.setFree x).ring = s.ring := rfl
@[simp] theorem State.setFree_trans (x : Nat) : (s.setFree x).trans = s.trans := rfl
@[simp] theorem State.setFree_zones (x : Nat) : (s.setFree x).zones = s.zones := rfl
@[simp] theorem State.setFree_alloc (x : Nat) : (s.setFree x).alloc = s.alloc := rfl
@[simp] theorem State.setFree_inter (x : Nat) : (s.setFree x).inter = s.inter := rfl
@[simp] theorem State.setFree_dry (x : Nat) : (s.setFree x).dry = s.dry := rfl
@[simp] theorem State.setFree_water (x : Nat) : (s.setFree x).water = s.water := rfl
@[simp] theorem State.setFree_cycles (x : Nat) : (s.setFree x).cycles = s.cycles := rfl
@[simp] theorem State.setFree_filters (x : Nat) : (s.setFree x).filters = s.filters := rfl
@[simp] theorem State.setFree_banks (x : Nat) : (s.setFree x).banks = s.banks := rfl
@[simp] theorem State.setFree_mu (x : Nat) : (s.setFree x).mu = s.mu := rfl
@[simp] theorem State.setFree_rc (x : Nat) : (s.setFree x).rc = s.rc := rfl
@[simp] theorem State.setFree_posts (x : Nat) : (s.setFree x).posts = s.posts := rfl
@[simp] theorem State.setFree_free (x : Nat) : (s.setFree x).free = x := rfl
@[simp] theorem State.setFree_subTick (x : Nat) : (s.setFree x).subTick = s.subTick := rfl
@[simp] theorem State.setFree_pending (x : Nat) : (s.setFree x).pending = s.pending := rfl
@[simp] theorem State.setSubTick_lines (x : Nat) : (s.setSubTick x).lines = s.lines := rfl
@[simp] theorem State.setSubTick_held (x : Nat) : (s.setSubTick x).held = s.held := rfl
@[simp] theorem State.setSubTick_ring (x : Nat) : (s.setSubTick x).ring = s.ring := rfl
@[simp] theorem State.setSubTick_trans (x : Nat) : (s.setSubTick x).trans = s.trans := rfl
@[simp] theorem State.setSubTick_zones (x : Nat) : (s.setSubTick x).zones = s.zones := rfl
@[simp] theorem State.setSubTick_alloc (x : Nat) : (s.setSubTick x).alloc = s.alloc := rfl
@[simp] theorem State.setSubTick_inter (x : Nat) : (s.setSubTick x).inter = s.inter := rfl
@[simp] theorem State.setSubTick_dry (x : Nat) : (s.setSubTick x).dry = s.dry := rfl
@[simp] theorem State.setSubTick_water (x : Nat) : (s.setSubTick x).water = s.water := rfl
@[simp] theorem State.setSubTick_cycles (x : Nat) : (s.setSubTick x).cycles = s.cycles := rfl
@[simp] theorem State.setSubTick_filters (x : Nat) : (s.setSubTick x).filters = s.filters := rfl
@[simp] theorem State.setSubTick_banks (x : Nat) : (s.setSubTick x).banks = s.banks := rfl
@[simp] theorem State.setSubTick_mu (x : Nat) : (s.setSubTick x).mu = s.mu := rfl
@[simp] theorem State.setSubTick_rc (x : Nat) : (s.setSubTick x).rc = s.rc := rfl
@[simp] theorem State.setSubTick_posts (x : Nat) : (s.setSubTick x).posts = s.posts := rfl
@[simp] theorem State.setSubTick_free (x : Nat) : (s.setSubTick x).free = s.free := rfl
@[simp] theorem State.setSubTick_subTick (x : Nat) : (s.setSubTick x).subTick = x := rfl
@[simp] theorem State.setSubTick_pending (x : Nat) : (s.setSubTick x).pending = s.pending := rfl
@[simp] theorem State.setPending_lines (x : List Instr) : (s.setPending x).lines = s.lines := rfl
@[simp] theorem State.setPending_held (x : List Instr) : (s.setPending x).held = s.held := rfl
@[simp] theorem State.setPending_ring (x : List Instr) : (s.setPending x).ring = s.ring := rfl
@[simp] theorem State.setPending_trans (x : List Instr) : (s.setPending x).trans = s.trans := rfl
@[simp] theorem State.setPending_zones (x : List Instr) : (s.setPending x).zones = s.zones := rfl
@[simp] theorem State.setPending_alloc (x : List Instr) : (s.setPending x).alloc = s.alloc := rfl
@[simp] theorem State.setPending_inter (x : List Instr) : (s.setPending x).inter = s.inter := rfl
@[simp] theorem State.setPending_dry (x : List Instr) : (s.setPending x).dry = s.dry := rfl
@[simp] theorem State.setPending_water (x : List Instr) : (s.setPending x).water = s.water := rfl
@[simp] theorem State.setPending_cycles (x : List Instr) : (s.setPending x).cycles = s.cycles := rfl
@[simp] theorem State.setPending_filters (x : List Instr) : (s.setPending x).filters = s.filters := rfl
@[simp] theorem State.setPending_banks (x : List Instr) : (s.setPending x).banks = s.banks := rfl
@[simp] theorem State.setPending_mu (x : List Instr) : (s.setPending x).mu = s.mu := rfl
@[simp] theorem State.setPending_rc (x : List Instr) : (s.setPending x).rc = s.rc := rfl
@[simp] theorem State.setPending_posts (x : List Instr) : (s.setPending x).posts = s.posts := rfl
@[simp] theorem State.setPending_free (x : List Instr) : (s.setPending x).free = s.free := rfl
@[simp] theorem State.setPending_subTick (x : List Instr) : (s.setPending x).subTick = s.subTick := rfl
@[simp] theorem State.setPending_pending (x : List Instr) : (s.setPending x).pending = x := rfl

end Sys2Proof.Machine
end

