-- ==== Sys2Proof/Laws/Shared.lean ====
section
/-! SUPPORT. What the shared operations can do: posting, taking, the interlock's event, the tank's event, the filter change,
the Origin Queue, and serving a request. Each is said once, as an equation over the updates of State. -/

namespace Sys2Proof.Machine

variable (s : State)

/-! ### Posting and taking -/

@[simp] theorem State.post_eq (es : List Instr) : s.post es = s.setPosts (s.posts ++ es) := rfl

@[simp] theorem State.claimFlag_eq (f : StickyFlag) : s.claimFlag f = s.setPosts (s.posts ++ [.flagSetClaim f]) := rfl

/-- Later posts win over earlier ones. -/
@[simp] theorem State.setPosts_setPosts (x y : List Instr) : (s.setPosts x).setPosts y = s.setPosts y := rfl

/-- An awake device takes the command, which is in flight no more. -/
theorem taking_awake (c : Instr) (f : State → State) (h : s.held = false) : taking c s f = .next (f (s.took c)) := by
  simp [taking, h]

/-- A device held in reset takes nothing (R9). -/
theorem taking_held (c : Instr) (f : State → State) (h : s.held = true) : taking c s f = .next s := by
  simp [taking, h]

/-- Whatever is taken, there is a next state. -/
theorem taking_completes (c : Instr) (f : State → State) : ∃ t, taking c s f = .next t := by
  unfold taking
  split
  · exact ⟨_, rfl⟩
  · exact ⟨_, rfl⟩

/-! ### The blocks' events, as updates -/

/-- R79, R87, R88: an event of the interlock changes the interlock, the Origin Queue and the posts. -/
theorem State.resolving_eq (f : Interlock → Interlock) :
    s.resolving f =
      let new := (f s.inter).resolve s.plant
      let a := offerRows s.answering s.ring new.leaving
      let b := offerRows s.answering a.1 new.rows
      (((s.setRing b.1).setInter { new with leaving := a.2.filter (·.dirty), rows := b.2 }).setPosts
        (s.posts ++ (outputPosts s.inter (f s.inter) ++ outputPosts (f s.inter) new))) := rfl

/-- R114, R115: an evaluation of the tank changes the tank state and the posts. -/
theorem State.evalTank_eq :
    s.evalTank =
      (s.setWater { s.water with state := s.water.evaluate s.tankPage }).setPosts (s.posts ++
        if s.water.evaluate s.tankPage = s.water.state then [] else
          tankInhibitPost s.water.state (s.water.evaluate s.tankPage) ++
          tankCondition .tankNear .near s.water.state (s.water.evaluate s.tankPage) ++
          tankCondition .tankFull .full s.water.state (s.water.evaluate s.tankPage) ++
          tankCondition .tankOut .out s.water.state (s.water.evaluate s.tankPage) ++
          s.pumpOutPost (s.water.evaluate s.tankPage)) := by
  unfold State.evalTank
  by_cases h : s.water.evaluate s.tankPage = s.water.state
  · simp only [h, if_true, List.append_nil]; rfl
  · simp only [h, if_false, State.post_eq]; rfl

/-- The tank state after an evaluation. -/
@[simp] theorem State.evalTank_water :
    s.evalTank.water = { s.water with state := s.water.evaluate s.tankPage } := by
  rw [State.evalTank_eq]; rfl

/-- R114, R115, R117: a water event changes the Tank Record, evaluates it, and posts behind the posts in flight, the tank
report last. -/
theorem State.waterEvent_eq (probe : Option Nat) (f : Water → Water) :
    ∃ ps r, s.waterEvent probe f =
      (s.setWater { f s.water with state := (f s.water).evaluate s.tankPage }).setPosts
        (s.posts ++ ps ++ [.tankReport r]) := by
  unfold State.waterEvent
  rw [State.evalTank_eq]
  exact ⟨_, _, rfl⟩

/-- R142: a filter change leaves every other block. -/
theorem State.filterChange_frame (f : Filters → Filters) :
    (((s.filterChange f).setFilters s.filters).setPosts s.posts) = s := rfl

/-- R143: FILTER-WORN is true while a fitted stage is WORN. -/
theorem Filters.wornNow_iff (f : Filters) :
    f.wornNow = true ↔ ∃ g, (f.stage g).fitted = true ∧ (f.stage g).state = .worn := by
  simp [Filters.wornNow, Filters.anyFitted]
  exact exists_congr fun g => by cases g <;> simp [stages]

/-- R143: FILTER-SPENT is true while a fitted stage is SPENT. -/
theorem Filters.spentNow_iff (f : Filters) :
    f.spentNow = true ↔ ∃ g, (f.stage g).fitted = true ∧ (f.stage g).state = .spent := by
  simp [Filters.spentNow, Filters.anyFitted]
  exact exists_congr fun g => by cases g <;> simp [stages]

/-- R143: the condition posts between two filter records. -/
theorem filterPosts_news (t : State) : s.FilterNews t (filterPosts s.filters t.filters) := by
  intro wornWas wornIs spentWas spentIs hw0 hw1 hs0 hs1
  have e {a b : Bool} {P : Prop} (h : a = true ↔ P) (k : b = true ↔ P) : b = a := Bool.eq_iff_iff.2 (k.trans h.symm)
  rw [filterPosts, e hw0 (Filters.wornNow_iff _), e hw1 (Filters.wornNow_iff _), e hs0 (Filters.spentNow_iff _),
    e hs1 (Filters.spentNow_iff _)]

/-- R142: an evaluated record of a fitted stage stands by the live Filter page. -/
theorem StageRecord.evaluate_stands (st : Stage) (r : StageRecord) (h : r.fitted = true) :
    s.StageStands st (r.evaluate (s.stageParams st)) := by
  intro life threshold hl ht
  have h1 : (s.stageParams st).life = life := hl.symm
  have h2 : (s.stageParams st).threshold = threshold := by rw [ht, hl]; rfl
  simp only [StageRecord.evaluate, StageRecord.ifFitted, h, if_true, StageRecord.standing, h1, h2]
  refine ⟨fun k => if_pos k, fun k1 k2 k3 => ?_, fun k1 k2 k3 => ?_⟩
  · rw [if_neg (by rintro (k | k) <;> [exact k1 k; omega]), if_pos k3]
  · rw [if_neg (by rintro (k | k) <;> [simp [k1] at k; omega]), if_neg (by rintro (k | k) <;> [simp [k1] at k; omega])]
    refine ⟨rfl, ?_⟩
    split <;> simp [isLoaded]

/-! ### The Origin Queue (R11, R12) -/

/-- A free place is a place: the queue is below its capacity. -/
theorem Ring.placeFree_lt (r : Ring) (h : r.placeFree = true) : r.origin.length < 24 := by
  unfold Ring.placeFree at h
  have := of_decide_eq_true h
  show r.origin.length < Config.originCapacity
  omega

/-- R11: an ACT offer that is taken leaves all but the queue and the wait count. -/
theorem Ring.offerAct_frame (r g : Ring) (dst src fn port value : Nat)
    (h : r.offerAct dst src fn port value = some g) :
    ({ g with origin := r.origin, headWait := r.headWait } : Ring) = r := by
  unfold Ring.offerAct at h
  split at h
  · cases h; rfl
  · split at h
    · cases h; rfl
    · cases h

/-- R11: an ACT offer keeps the queue within its capacity. -/
theorem Ring.offerAct_length (r g : Ring) (dst src fn port value : Nat)
    (h : r.offerAct dst src fn port value = some g) (hr : r.origin.length ≤ 24) : g.origin.length ≤ 24 := by
  unfold Ring.offerAct at h
  split at h
  · cases h; simpa using hr
  · split at h
    · next hp => cases h; have := Ring.placeFree_lt r hp; simp [Ring.join]; omega
    · cases h

/-- R87: offering a row leaves all but the Origin Queue and the wait count. -/
theorem Ring.offerRow_frame (src : Nat) (g : Ring) (r : Row) :
    ({ (g.offerRow src r).1 with origin := g.origin, headWait := g.headWait } : Ring) = g := by
  unfold Ring.offerRow
  split
  · split
    · next g' h => exact Ring.offerAct_frame g g' _ _ _ _ _ h
    · rfl
  · rfl

/-- R87: offering rows leaves all but the Origin Queue and the wait count. -/
theorem offerRows_frame (src : Nat) : ∀ (rs : List Row) (g : Ring),
    ({ (offerRows src g rs).1 with origin := g.origin, headWait := g.headWait } : Ring) = g
  | [], _ => rfl
  | r :: rs, g => by
    have h1 := Ring.offerRow_frame src g r
    have h2 := offerRows_frame src rs (g.offerRow src r).1
    simp only [offerRows]
    rw [← h2] at h1
    exact h1

/-- R87: an offer changes a row's dirty mark and last sent sweep only. -/
theorem offerRows_rows (src : Nat) : ∀ (rs : List Row) (g : Ring),
    (offerRows src g rs).2.map (fun r => { r with dirty := false, lastSent := none }) =
      rs.map fun r => { r with dirty := false, lastSent := none }
  | [], _ => rfl
  | r :: rs, g => by
    have h := offerRows_rows src rs (g.offerRow src r).1
    simp only [offerRows, List.map_cons, h]
    congr 1
    split
    · rfl
    · rfl

/-! ### Serving a request (R171–R173) -/

/-- A request that reaches the last step of R172 and carries fit arguments is executed and answered. -/
theorem requestRow_serves (c : Instr) (code : Nat) (ok : Request → Bool)
    (run : Request → State → State × Answer) (r : Request) (rest : List Request)
    (h : s.Serves code r rest) (hc : assignedCode (some code) = true) (hok : ok r = true) :
    requestRow c code ok run s =
      .next ((run r ((s.took c).reserve rest)).1.answerWith r (run r ((s.took c).reserve rest)).2) := by
  obtain ⟨hheld, hq, hsoft, hfree, hsetup, hload, hsrc, hcode⟩ := h
  have hhead : (s.took c).headRequest = some (r, rest) := by
    simp [State.headRequest, hq, hsoft, hfree]
  have hmine : (r.code == some code) = true := by simp [hcode]
  have hset : ((s.took c).reserve rest).settleRequest r ok run =
      .answered (run r ((s.took c).reserve rest)).1 (run r ((s.took c).reserve rest)).2 := by
    have hl : ((s.took c).reserve rest).isLive = s.isLive := rfl
    have hp : ((s.took c).reserve rest).param 78 3 = s.param 78 3 := rfl
    have hli : ((s.took c).reserve rest).lines = s.lines := rfl
    have hrc : ((s.took c).reserve rest).rc = s.rc := rfl
    unfold State.settleRequest
    simp only [hli, hsetup, hcode, hc, hrc, hload, hl, hp, Bool.false_eq_true, if_false, Bool.not_true,
      Bool.false_and]
    cases hlive : s.isLive
    · simp [State.checkAndRun, hok]
    · simp [State.checkAndRun, hok, hsrc hlive]
  unfold requestRow
  rw [taking_awake s _ _ hheld]
  simp only [State.serve, hhead, hmine, if_true, hset]

/-- A request whose arguments do not fit is answered REFUSED(BAD-ARG), and changes nothing (R172). -/
theorem requestRow_badArg (c : Instr) (code : Nat) (ok : Request → Bool)
    (run : Request → State → State × Answer) (r : Request) (rest : List Request)
    (h : s.Serves code r rest) (hc : assignedCode (some code) = true) (hok : ok r = false) :
    requestRow c code ok run s =
      .next (((s.took c).reserve rest).answerWith r (.refuse .badArg)) := by
  obtain ⟨hheld, hq, hsoft, hfree, hsetup, hload, hsrc, hcode⟩ := h
  have hhead : (s.took c).headRequest = some (r, rest) := by
    simp [State.headRequest, hq, hsoft, hfree]
  have hmine : (r.code == some code) = true := by simp [hcode]
  have hset : ((s.took c).reserve rest).settleRequest r ok run =
      .answered ((s.took c).reserve rest) (.refuse .badArg) := by
    have hl : ((s.took c).reserve rest).isLive = s.isLive := rfl
    have hp : ((s.took c).reserve rest).param 78 3 = s.param 78 3 := rfl
    have hli : ((s.took c).reserve rest).lines = s.lines := rfl
    have hrc : ((s.took c).reserve rest).rc = s.rc := rfl
    unfold State.settleRequest
    simp only [hli, hsetup, hcode, hc, hrc, hload, hl, hp, Bool.false_eq_true, if_false, Bool.not_true,
      Bool.false_and]
    cases hlive : s.isLive
    · simp [State.checkAndRun, hok]
    · simp [State.checkAndRun, hok, hsrc hlive]
  unfold requestRow
  rw [taking_awake s _ _ hheld]
  simp only [State.serve, hhead, hmine, if_true, hset]

/-- A read answered from the state as it stands leaves the device but for the queues: the served state. -/
theorem answerWith_read (c : Instr) (r : Request) (rest : List Request) (result : Result) (data : List Word)
    (hsoft : s.mu.softWait = false) :
    ((s.took c).reserve rest).answerWith r { result := result, data := data } =
      (s.took c).served r rest result data := by
  simp only [State.answerWith, State.response, State.served, State.reserve, State.answerFrame]
  simp [hsoft, State.answering, Ring.join]
  rfl

/-- A request that its own rule settles without a change is answered so, and nothing else changes. -/
theorem requestRow_settled (c : Instr) (code : Nat) (ok : Request → Bool) (run : Request → State → State × Answer)
    (r : Request) (rest : List Request) (result : Result) (data : List Word) (h : s.Serves code r rest)
    (hc : assignedCode (some code) = true) (hok : ok r = true)
    (hrun : run r ((s.took c).reserve rest) = ((s.took c).reserve rest, { result := result, data := data })) :
    requestRow c code ok run s = .next ((s.took c).served r rest result data) := by
  rw [requestRow_serves s c code ok run r rest h hc hok, hrun]
  exact congrArg _ (answerWith_read s c r rest result data h.2.2.1)

/-! ### Lists -/

/-- A changed list keeps its length. -/
@[simp] theorem length_modifyAt {α : Type} (f : α → α) : ∀ (l : List α) (n : Nat), (modifyAt f l n).length = l.length
  | [], _ => rfl
  | _ :: _, 0 => rfl
  | _ :: xs, n + 1 => by simp [modifyAt, length_modifyAt f xs n]

/-- The element changed, and the others. -/
theorem getElem?_modifyAt {α : Type} (f : α → α) : ∀ (l : List α) (n i : Nat),
    (modifyAt f l n)[i]? = if i = n then l[i]?.map f else l[i]?
  | [], n, i => by simp [modifyAt]
  | x :: xs, 0, 0 => by simp [modifyAt]
  | x :: xs, 0, i + 1 => by simp [modifyAt]
  | x :: xs, n + 1, 0 => by simp [modifyAt]
  | x :: xs, n + 1, i + 1 => by simp [modifyAt, getElem?_modifyAt f xs n i]

end Sys2Proof.Machine
end

