-- ==== Sys2Proof/Laws/Interlock.lean ====
section
/-! SUPPORT. What one resolution of the interlock gives (R79–R83): the rows, the outputs, and what an output that is on implies. -/

namespace Sys2Proof.Machine

/-- A resolution keeps each row in its place. -/
theorem Interlock.resolve_rows (p : PlantLimits) (i : Interlock) :
    (i.resolve p).rows = i.rows.map (Row.take (i.outcome p) i.inhibits) := by
  unfold Interlock.resolve
  simp only []
  split
  · rfl
  · rfl

/-- A resolution keeps the inhibit set. -/
theorem Interlock.resolve_inhibits (p : PlantLimits) (i : Interlock) : (i.resolve p).inhibits = i.inhibits := by
  unfold Interlock.resolve
  simp only []
  split
  · rfl
  · rfl

/-- R82: a resolution that leaves the blower as it is keeps proof. -/
theorem Interlock.resolve_proof (p : PlantLimits) (i : Interlock)
    (h : (i.outcome p).blower = i.output .blower) : (i.resolve p).proof = i.proof := by
  unfold Interlock.resolve
  simp only []
  split
  · next hc => exact absurd h hc.2
  · rfl

/-- Finding a row of a kind among rows whose kinds are kept. -/
theorem find_kind_map (f : Row → Row) (hf : ∀ r, (f r).kind = r.kind) (k : RowKind) :
    ∀ rs : List Row, (rs.map f).find? (fun r => r.kind == k) = (rs.find? fun r => r.kind == k).map f
  | [] => rfl
  | r :: rs => by
    simp only [List.map_cons, List.find?_cons, hf]
    split
    · rfl
    · exact find_kind_map f hf k rs

/-- The row of a kind after a resolution. -/
theorem Interlock.resolve_row (p : PlantLimits) (i : Interlock) (k : RowKind) :
    (i.resolve p).row k = (i.row k).map (Row.take (i.outcome p) i.inhibits) := by
  unfold Interlock.row
  rw [Interlock.resolve_rows]
  exact find_kind_map (Row.take (i.outcome p) i.inhibits) (fun _ => rfl) k i.rows

/-- The row of a kind is of that kind. -/
theorem Interlock.row_kind (i : Interlock) (k : RowKind) (r : Row) (h : i.row k = some r) : r.kind = k := by
  have := List.find?_some h
  simpa using this

/-- The blower's output after a resolution, while the table has a blower row. -/
theorem Interlock.resolve_blower (p : PlantLimits) (i : Interlock) (h : (i.row .blower).isSome) :
    (i.resolve p).output .blower = (i.outcome p).blower := by
  obtain ⟨r, hr⟩ := Option.isSome_iff_exists.1 h
  have hk := Interlock.row_kind i _ r hr
  simp [Interlock.output, Interlock.resolve_row, hr, Row.take, Decided.valueFor, hk]

/-- R81, R83: the compressor is on after a resolution only with proof, with no inhibit on it, and with the blower left where
it is, at or above the dry min step. -/
theorem Interlock.outcome_comp (p : PlantLimits) (i : Interlock) (h : (i.outcome p).comp ≠ 0) :
    i.proof = true ∧ i.inhibits.forces .compressor = false ∧ (i.outcome p).blower = i.output .blower ∧
      p.dryMin ≤ i.output .blower := by
  have hwant : i.wanted .compressor ≠ 0 → i.inhibits.forces .compressor = false := by
    unfold Interlock.wanted
    cases hr : i.row .compressor with
    | none => simp
    | some r =>
      have hk := Interlock.row_kind i _ r hr
      simp only [Row.resolve, hk]
      cases i.inhibits.forces .compressor <;> simp
  have hsafe : i.compAfter p ≠ 0 → i.proof = true ∧ i.inhibits.forces .compressor = false := by
    unfold Interlock.compAfter
    split
    · split
      · next hc => exact fun _ => ⟨hc.2.1, hwant hc.1⟩
      · simp
    · split
      · simp
      · next hn =>
        intro _
        cases hp : i.proof <;> simp_all
  unfold Interlock.outcome at h ⊢
  simp only [] at h ⊢
  split at h
  · next hc =>
    split at h
    · next hd =>
      simp only [hc, ne_eq, not_false_iff, and_self, if_true, hd]
      exact ⟨(hsafe h).1, (hsafe h).2, trivial⟩
    · simp at h
  · next hc =>
    have hcomp : i.compAfter p ≠ 0 := by
      split at h <;> exact h
    have hfloor : i.floorValue p (i.compAfter p) i.heaterAfter = i.output .blower := by
      by_contra hne; exact hc ⟨hcomp, hne⟩
    have hmin : p.dryMin ≤ i.output .blower := by
      rw [← hfloor]; unfold Interlock.floorValue; simp [hcomp]
    refine ⟨(hsafe hcomp).1, (hsafe hcomp).2, ?_, hmin⟩
    simp [hfloor]

/-- R81, R83: the heater is on after a resolution only with proof, with no inhibit on it, and with the blower left where it
is, at or above the dry min step. -/
theorem Interlock.outcome_heater (p : PlantLimits) (i : Interlock) (h : (i.outcome p).heater ≠ 0) :
    i.proof = true ∧ i.inhibits.forces .heater = false ∧ (i.outcome p).blower = i.output .blower ∧
      p.dryMin ≤ i.output .blower := by
  have hsafe : i.heaterAfter ≠ 0 → i.proof = true ∧ i.inhibits.forces .heater = false := by
    unfold Interlock.heaterAfter Interlock.wanted
    split
    · next hp =>
      cases hr : i.row .heater with
      | none => simp
      | some r =>
        have hk := Interlock.row_kind i _ r hr
        simp only [Row.resolve, hk]
        cases hf : i.inhibits.forces .heater <;> simp [hp]
    · simp
  unfold Interlock.outcome at h ⊢
  simp only [] at h ⊢
  split at h
  · next hc =>
    split at h
    · next hd =>
      simp only [hc, ne_eq, not_false_iff, and_self, if_true, hd]
      exact ⟨(hsafe h).1, (hsafe h).2, trivial⟩
    · simp at h
  · next hc =>
    split at h
    · simp at h
    · next hh =>
      have hfloor : i.floorValue p (i.compAfter p) i.heaterAfter = i.output .blower := by
        by_contra hne; exact hh ⟨h, hne⟩
      have hmin : p.dryMin ≤ i.output .blower := by
        rw [← hfloor]; unfold Interlock.floorValue; simp [h]
      refine ⟨(hsafe h).1, (hsafe h).2, ?_, hmin⟩
      simp [hfloor]

end Sys2Proof.Machine
end

