-- ==== Sys2Proof/Laws/Memory.lean ====
section
/-! SUPPORT. Word memory: a write keeps the canonical form, and a read after a write. -/

namespace Sys2Proof.Machine

/-- An address below every listed one is unlisted, and reads 0. -/
theorem Memory.read_below : ∀ (m : Memory) (a : Nat), (∀ e ∈ m, a < e.1) → m.read a = 0#16
  | [], _, _ => rfl
  | (k, w) :: rest, a, h => by
    have hk : a < k := h (k, w) (by simp)
    have : ¬ k = a := by omega
    simp only [Memory.read, this, if_false]
    exact Memory.read_below rest a fun e he => h e (by simp [he])

/-- The addresses a write lists: those listed before, and its own. -/
theorem Memory.mem_write : ∀ (m : Memory) (a : Nat) (w : Word) (e : Nat × Word),
    e ∈ m.write a w → e ∈ m ∨ e = (a, w) ∧ w ≠ 0#16
  | [], a, w, e, h => by
    simp only [Memory.write] at h
    split at h
    · simp at h
    · next hw => simp at h; exact .inr ⟨h, hw⟩
  | (k, v) :: rest, a, w, e, h => by
    simp only [Memory.write] at h
    split at h
    · split at h
      · exact .inl h
      · next hw =>
        rcases List.mem_cons.1 h with h | h
        · exact .inr ⟨h, hw⟩
        · exact .inl h
    · split at h
      · next hk =>
        split at h
        · exact .inl (List.mem_cons_of_mem _ h)
        · next hw =>
          rcases List.mem_cons.1 h with h | h
          · exact .inr ⟨by rw [h, hk], hw⟩
          · exact .inl (List.mem_cons_of_mem _ h)
      · rcases List.mem_cons.1 h with h | h
        · exact .inl (by simp [h])
        · rcases Memory.mem_write rest a w e h with h | h
          · exact .inl (List.mem_cons_of_mem _ h)
          · exact .inr h

/-- A write keeps the canonical form. -/
theorem Memory.wf_write : ∀ (m : Memory) (a : Nat) (w : Word), m.wf → (m.write a w).wf
  | [], a, w, _ => by
    simp only [Memory.write]
    split
    · exact ⟨List.Pairwise.nil, by simp⟩
    · next hw => exact ⟨by simp, by simpa using hw⟩
  | (k, v) :: rest, a, w, ⟨hs, hn⟩ => by
    have hs' := List.pairwise_cons.1 hs
    have hrest : Memory.wf rest := ⟨hs'.2, fun e he => hn e (List.mem_cons_of_mem _ he)⟩
    have hv : v ≠ 0#16 := hn (k, v) (by simp)
    simp only [Memory.write]
    split
    · next hlt =>
      split
      · exact ⟨hs, hn⟩
      · next hw =>
        refine ⟨List.pairwise_cons.2 ⟨fun e he => ?_, hs⟩, fun e he => ?_⟩
        · rcases List.mem_cons.1 he with rfl | he
          · exact hlt
          · exact Nat.lt_trans hlt (hs'.1 e he)
        · rcases List.mem_cons.1 he with rfl | he
          · exact hw
          · exact hn e he
    · split
      · next hk =>
        split
        · exact hrest
        · next hw =>
          refine ⟨List.pairwise_cons.2 ⟨hs'.1, hs'.2⟩, fun e he => ?_⟩
          rcases List.mem_cons.1 he with rfl | he
          · exact hw
          · exact hrest.2 e he
      · next hlt hk =>
        have ih := Memory.wf_write rest a w hrest
        refine ⟨List.pairwise_cons.2 ⟨fun e he => ?_, ih.1⟩, fun e he => ?_⟩
        · rcases Memory.mem_write rest a w e he with he | ⟨rfl, _⟩
          · exact hs'.1 e he
          · show k < a
            omega
        · rcases List.mem_cons.1 he with rfl | he
          · exact hv
          · exact ih.2 e he

/-- A read after a write: the written word at its address, what stood before elsewhere. -/
theorem Memory.read_write : ∀ (m : Memory) (a : Nat) (w : Word) (x : Nat), m.wf →
    (m.write a w).read x = if x = a then w else m.read x
  | [], a, w, x, _ => by
    simp only [Memory.write]
    split
    · next hw => subst hw; simp [Memory.read]
    · by_cases h : x = a
      · simp [Memory.read, h]
      · have h' : ¬ a = x := fun e => h e.symm
        simp [Memory.read, h, h']
  | (k, v) :: rest, a, w, x, ⟨hs, hn⟩ => by
    have hs' := List.pairwise_cons.1 hs
    have hrest : Memory.wf rest := ⟨hs'.2, fun e he => hn e (List.mem_cons_of_mem _ he)⟩
    have below : ∀ y, y ≤ k → Memory.read rest y = 0#16 := fun y hy =>
      Memory.read_below rest y fun e he => Nat.lt_of_le_of_lt hy (hs'.1 e he)
    simp only [Memory.write]
    by_cases hx : x = a
    · subst hx
      by_cases hlt : x < k
      · have hne : ¬ k = x := by omega
        by_cases hw : w = 0#16
        · simp [hlt, hw, Memory.read, hne, below x (by omega)]
        · simp [hlt, hw, Memory.read]
      · by_cases hk : x = k
        · subst hk
          by_cases hw : w = 0#16
          · simp [hw, below x (Nat.le_refl x)]
          · simp [hw, Memory.read]
        · have hne : ¬ k = x := fun e => hk e.symm
          simp only [hlt, hk, if_false, Memory.read, hne]
          rw [Memory.read_write rest x w x hrest]; simp
    · have hxa : ¬ a = x := fun e => hx e.symm
      by_cases hlt : a < k
      · by_cases hw : w = 0#16
        · simp [hlt, hw, hx]
        · simp [hlt, hw, hx, Memory.read, hxa]
      · by_cases hk : a = k
        · subst hk
          by_cases hw : w = 0#16
          · simp [hw, hx, hxa, Memory.read]
          · simp [hw, hx, hxa, Memory.read]
        · simp only [hlt, hk, if_false, Memory.read, hx]
          by_cases hkx : k = x
          · simp [hkx]
          · simp only [hkx, if_false]
            rw [Memory.read_write rest a w x hrest]; simp [hx]

/-- Writing a run of words keeps the canonical form. -/
theorem Memory.wf_writeList : ∀ (ws : List Word) (m : Memory) (a : Nat), m.wf → (m.writeList a ws).wf
  | [], _, _, h => h
  | w :: ws, m, a, h => Memory.wf_writeList ws (m.write a w) (a + 1) (Memory.wf_write m a w h)

/-- A read after a run of words was written: the run's word inside it, what stood before outside. -/
theorem Memory.read_writeList : ∀ (ws : List Word) (m : Memory) (a x : Nat), m.wf →
    (m.writeList a ws).read x = if a ≤ x ∧ x < a + ws.length then ws.getD (x - a) 0#16 else m.read x
  | [], m, a, x, _ => by
    have : ¬ (a ≤ x ∧ x < a + ([] : List Word).length) := by simp
    simp only [Memory.writeList, this, if_false]
  | w :: ws, m, a, x, h => by
    simp only [Memory.writeList]
    rw [Memory.read_writeList ws (m.write a w) (a + 1) x (Memory.wf_write m a w h), Memory.read_write m a w x h]
    by_cases hx : x = a
    · subst hx
      have h1 : ¬ (x + 1 ≤ x ∧ x < x + 1 + ws.length) := by omega
      have h2 : x ≤ x ∧ x < x + (w :: ws).length := by simp
      rw [if_neg h1, if_pos rfl, if_pos h2]; simp
    · by_cases hin : a + 1 ≤ x ∧ x < a + 1 + ws.length
      · have h2 : a ≤ x ∧ x < a + (w :: ws).length := by simp; omega
        rw [if_pos hin, if_pos h2]
        have : x - a = (x - (a + 1)) + 1 := by omega
        rw [this]; simp
      · have h2 : ¬ (a ≤ x ∧ x < a + (w :: ws).length) := by simp; omega
        rw [if_neg hin, if_neg hx, if_neg h2]

/-! ### Pages of the shadow -/

/-- A page put into the shadow keeps both memories in the canonical form. -/
theorem Banks.putShadow_wf (b : Banks) (page : Nat) (ws : List Word) (st : PageStatus)
    (ha : Memory.wf b.a.mem) (hb : Memory.wf b.b.mem) :
    Memory.wf (b.putShadow page ws st).a.mem ∧ Memory.wf (b.putShadow page ws st).b.mem := by
  unfold Banks.putShadow
  cases h : b.shadowId
  · exact ⟨Memory.wf_writeList _ _ _ (by simpa [Banks.shadow, Banks.bank, h] using ha), hb⟩
  · exact ⟨ha, Memory.wf_writeList _ _ _ (by simpa [Banks.shadow, Banks.bank, h] using hb)⟩

/-- R157: putting a page into the shadow leaves the live bank as it is. -/
theorem Banks.putShadow_live (b : Banks) (page : Nat) (ws : List Word) (st : PageStatus) (id : BankId)
    (h : b.live = some id) : (b.putShadow page ws st).bank id = b.bank id := by
  unfold Banks.putShadow Banks.shadowId
  cases id <;> simp [h, BankId.other, Banks.setBank, Banks.bank]

/-- Putting a page into the shadow changes neither the selector nor the rest of the Table Banks. -/
theorem Banks.putShadow_rest (b : Banks) (page : Nat) (ws : List Word) (st : PageStatus) :
    { b.putShadow page ws st with a := b.a, b := b.b } = b := by
  unfold Banks.putShadow
  cases b.shadowId <;> rfl

end Sys2Proof.Machine
end

