-- ==== Sys2Proof/Laws/Validation.lean ====
section
/-! SUPPORT. What the validation of a page checks (R161, R188): the model's check of a word against the tables of the rules. -/

namespace Sys2Proof.Machine

/-- A field of n bits is below 2 to the n. -/
theorem bits_lt (w : Word) (l n : Nat) : bits w l n < 2^n := by
  unfold bits; exact Nat.mod_lt _ (Nat.pow_pos (by decide))

/-- One bit of a word, as a field of one bit. -/
theorem bit_eq_true_iff (w : Word) (i : Nat) : bit w i = true ↔ bits w i 1 = 1 := by
  unfold bit bits; simp only [BitVec.getLsbD, Nat.testBit, Nat.shiftRight_eq_div_pow]; rw [Nat.one_and_eq_mod_two]; simp

/-- R161: the entries of Translation pages that pass. -/
theorem entryAction?_isSome_iff (w : Word) : (entryAction? w).isSome = true ↔
    (bits w 15 1 = 1 ∨ bits w 13 2 = 0 ∨ bits w 13 2 = 1 ∧ bits w 6 5 ≤ 12 ∨ bits w 13 2 = 2 ∧ bits w 6 5 ≤ 3 ∨
      bits w 13 2 = 3 ∧ (bits w 6 5 ≤ 5 ∨ 8 ≤ bits w 6 5 ∧ bits w 6 5 ≤ 11)) := by
  have h1 : ∀ n < 32, ((targetOfCode n).isSome = true ↔ n ≤ 12) := by decide
  have h2 : ∀ n < 32, ((specialOfCode n).isSome = true ↔ n ≤ 5 ∨ 8 ≤ n ∧ n ≤ 11) := by decide
  have l1 := bits_lt w 6 5
  have l2 := bits_lt w 13 2
  have h1' := h1 _ l1
  have h2' := h2 _ l1
  unfold entryAction?
  by_cases hb : bit w 15 = true
  · simp [hb, (bit_eq_true_iff w 15).1 hb]
  · have hb' : ¬ bits w 15 1 = 1 := fun h => hb ((bit_eq_true_iff w 15).2 h)
    rw [if_neg hb]
    simp only [hb', false_or]
    generalize bits w 13 2 = k at *
    have : k = 0 ∨ k = 1 ∨ k = 2 ∨ k = 3 := by omega
    rcases this with rfl | rfl | rfl | rfl
    · simp
    · simp [h1']
    · by_cases q : bits w 6 5 ≤ 3 <;> simp [q]
    · simp [h2']

/-- A word of four fields that are all Fh. -/
theorem eq_FFFF_iff (w : Word) : w = 0xFFFF#16 ↔ ∀ i < 4, bits w (4 * i) 4 = 15 := by
  constructor
  · rintro rfl; decide
  · intro h
    have h0 := h 0 (by omega)
    have h1 := h 1 (by omega)
    have h2 := h 2 (by omega)
    have h3 := h 3 (by omega)
    apply BitVec.eq_of_toNat_eq
    unfold bits at h0 h1 h2 h3
    have := w.isLt
    simp at h0 h1 h2 h3 ⊢
    omega

/-- The four port fields of a Node Map entry. -/
theorem pageNode_ports (ws : List Word) (a : Nat) : (pageNode ws a).ports =
    (List.range 4).map fun i => zoneField (bits (ws.getD (2*a+1) 0#16) (4*i) 4) := by
  unfold pageNode nodeEntry pageWord; rfl

/-- The zones on the damper ports of an entry of class DAMPER. -/
theorem mem_portZones_iff (ws : List Word) (a z : Nat) : z ∈ portZones (pageNode ws a) ↔
    bits (ws.getD (2 * a) 0#16) 8 4 = 4 ∧ ∃ i < 4, bits (ws.getD (2*a+1) 0#16) (4*i) 4 = z ∧ z ≤ 7 := by
  unfold portZones
  rw [pageNode_ports]
  have : (pageNode ws a).cls = bits (ws.getD (2 * a) 0#16) 8 4 := rfl
  rw [this]
  split
  · next h =>
    simp only [List.mem_filterMap, List.mem_map, List.mem_range, id, h, true_and, zoneField]
    constructor
    · rintro ⟨x, ⟨i, hi, hx⟩, hz⟩; subst hx; simp at hz; exact ⟨i, hi, hz.2, by omega⟩
    · rintro ⟨i, hi, e, l⟩; exact ⟨some z, ⟨i, hi, by rw [e, if_pos l]⟩, rfl⟩
  · next h => simp; tauto

/-- No zone is named on two ports of one entry. -/
theorem portZones_nodup_iff (ws : List Word) (a : Nat) (h : bits (ws.getD (2 * a) 0#16) 8 4 = 4) :
    (portZones (pageNode ws a)).Nodup ↔ ∀ i < 4, bits (ws.getD (2*a+1) 0#16) (4*i) 4 ≤ 7 →
      ∀ j < i, bits (ws.getD (2*a+1) 0#16) (4*j) 4 ≠ bits (ws.getD (2*a+1) 0#16) (4*i) 4 := by
  unfold portZones
  rw [pageNode_ports]
  have : (pageNode ws a).cls = bits (ws.getD (2 * a) 0#16) 8 4 := rfl
  rw [this, if_pos h]
  generalize hf : (fun i => bits (ws.getD (2*a+1) 0#16) (4*i) 4) = f
  have e : ∀ i, bits (ws.getD (2*a+1) 0#16) (4*i) 4 = f i := fun i => by rw [← hf]
  simp only [e]
  have : List.range 4 = [0,1,2,3] := rfl
  rw [this]
  simp only [List.map_cons, List.map_nil, zoneField]
  have e4 : ∀ P : Nat → Prop, (∀ i < 4, P i) ↔ P 0 ∧ P 1 ∧ P 2 ∧ P 3 := by
    intro P; constructor
    · intro h; exact ⟨h 0 (by omega), h 1 (by omega), h 2 (by omega), h 3 (by omega)⟩
    · rintro ⟨a,b,c,d⟩ i hi; interval_cases i <;> assumption
  rw [e4]
  have q0 : ∀ P : Nat → Prop, (∀ j < 0, P j) ↔ True := by intro P; simp
  have q1 : ∀ P : Nat → Prop, (∀ j < 1, P j) ↔ P 0 := by intro P; simp
  have q2 : ∀ P : Nat → Prop, (∀ j < 2, P j) ↔ P 0 ∧ P 1 := by
    intro P; exact ⟨fun h => ⟨h 0 (by omega), h 1 (by omega)⟩, fun ⟨a,b⟩ i hi => by interval_cases i <;> assumption⟩
  have q3 : ∀ P : Nat → Prop, (∀ j < 3, P j) ↔ P 0 ∧ P 1 ∧ P 2 := by
    intro P
    exact ⟨fun h => ⟨h 0 (by omega), h 1 (by omega), h 2 (by omega)⟩, fun ⟨a, b, c⟩ i hi => by
      interval_cases i <;> assumption⟩
  rw [q0, q1, q2, q3]
  generalize f 0 = w; generalize f 1 = x; generalize f 2 = y; generalize f 3 = z
  by_cases h0 : w ≤ 7 <;> by_cases h1 : x ≤ 7 <;> by_cases h2 : y ≤ 7 <;> by_cases h3 : z ≤ 7 <;>
    simp [h0, h1, h2, h3] <;> omega

/-- R161, R188: the first word of a Node Map entry that wordOk_iff_wordPasses. -/
theorem nodeClassOk_iff (ws : List Word) (a : Nat) : nodeClassOk ws a = true ↔
    bits (ws.getD (2*a) 0#16) 8 4 ≤ 7 ∧ (bits (ws.getD (2*a) 0#16) 0 4 ≤ 7 ∨ bits (ws.getD (2*a) 0#16) 0 4 = 15) ∧
      (bits (ws.getD (2 * a) 0#16) 8 4 = 4 ∨ ∀ i < 4, bits (ws.getD (2*a+1) 0#16) (4*i) 4 = 15) := by
  unfold nodeClassOk zoneFieldOk pageWord classDamper
  simp only [Bool.and_eq_true, Bool.or_eq_true, decide_eq_true_eq, eq_FFFF_iff, and_assoc]

/-- R161, R188: the second word of a Node Map entry that wordOk_iff_wordPasses. -/
theorem nodePortsOk_iff (ws : List Word) (a : Nat) : nodePortsOk ws a = true ↔
    (∀ i < 4, bits (ws.getD (2*a+1) 0#16) (4*i) 4 ≤ 7 ∨ bits (ws.getD (2*a+1) 0#16) (4*i) 4 = 15) ∧
    (bits (ws.getD (2 * a) 0#16) 8 4 = 4 → ∀ i < 4, bits (ws.getD (2*a+1) 0#16) (4*i) 4 ≤ 7 →
      (∀ j < i, bits (ws.getD (2*a+1) 0#16) (4*j) 4 ≠ bits (ws.getD (2*a+1) 0#16) (4*i) 4) ∧
      ∀ b < a, bits (ws.getD (2 * b) 0#16) 8 4 = 4 → ∀ j < 4,
        bits (ws.getD (2*b+1) 0#16) (4*j) 4 ≠ bits (ws.getD (2*a+1) 0#16) (4*i) 4) := by
  unfold nodePortsOk zoneFieldOk pageWord hasRepeat
  simp only [Bool.and_eq_true, Bool.or_eq_true, decide_eq_true_eq, List.all_eq_true, List.mem_range, Bool.not_eq_true',
    decide_eq_false_iff_not, not_not, and_assoc]
  refine and_congr_right fun _ => ?_
  by_cases h : bits (ws.getD (2 * a) 0#16) 8 4 = 4
  · rw [portZones_nodup_iff ws a h]
    simp only [h, true_imp_iff, mem_portZones_iff, true_and]
    constructor
    · rintro ⟨h1, h2⟩ i hi hl
      refine ⟨h1 i hi hl, ?_⟩
      intro b hb hd j hj e
      have := h2 _ ⟨i, hi, rfl, hl⟩
      rw [Bool.eq_false_iff] at this
      apply this
      rw [List.contains_iff_mem, List.mem_flatMap]
      exact ⟨b, List.mem_range.2 hb, (mem_portZones_iff _ _ _).2 ⟨hd, j, hj, e, hl⟩⟩
    · intro h2
      refine ⟨fun i hi hl => (h2 i hi hl).1, ?_⟩
      rintro z ⟨i, hi, rfl, hl⟩
      rw [Bool.eq_false_iff]
      intro hc
      rw [List.contains_iff_mem, List.mem_flatMap] at hc
      obtain ⟨b, hb, hm⟩ := hc
      obtain ⟨hd, j, hj, e, _⟩ := (mem_portZones_iff _ _ _).1 hm
      exact (h2 i hi hl).2 b (List.mem_range.1 hb) hd j hj e
  · have : portZones (pageNode ws a) = [] := by
      unfold portZones; exact if_neg h
    rw [this]
    exact ⟨fun _ h' => absurd h' h, fun _ => ⟨List.nodup_nil, by simp⟩⟩

/-- The fields of WordPasses are those of the page. -/
theorem forall_fields {a : Word} {b : Nat → Nat} {c : Nat → Int} (Q : Word → (Nat → Nat) → (Nat → Int) → Prop) :
    (∀ w W I, w = a → (∀ j, W j = b j) → (∀ j, I j = c j) → Q w W I) ↔ Q a b c := by
  constructor
  · exact fun h => h a b c rfl (fun _ => rfl) (fun _ => rfl)
  · rintro h w W I rfl hW hI
    rw [funext hW, funext hI]
    exact h

/-- R161, R188: the model's check of a word is the table's. -/
theorem wordOk_iff_wordPasses (p : Nat) (hp : p < 79) (ws : List Word) (o : Nat) (ho : o < 64) :
    wordOk p ws o = true ↔ WordPasses p ws o := by
  refine Iff.trans ?_ (forall_fields (a := pageWord ws o) (b := pageNat ws) (c := pageInt ws) _).symm
  have lt : ∀ j, pageNat ws j < 65536 := fun j => (pageWord ws j).isLt
  by_cases c1 : p ≤ 63
  · unfold wordOk
    rw [if_pos c1]
    unfold translationOk
    rw [entryAction?_isSome_iff]
    have : p ≠ 64 ∧ ¬ 65 ≤ p ∧ ¬ 69 ≤ p ∧ p ≠ 73 ∧ p ≠ 74 ∧ p ≠ 75 ∧ p ≠ 76 ∧ p ≠ 77 ∧ p ≠ 78 := by omega
    simp only [this, c1, false_imp_iff, true_imp_iff, and_true, ne_eq]
  by_cases c2 : p = 64
  · subst c2
    unfold wordOk
    rw [if_neg (by decide), if_pos rfl]
    unfold nodeMapOk
    simp only [Nat.reduceLeDiff, Nat.reduceEqDiff, false_imp_iff, true_imp_iff, and_true, true_and]
    constructor
    · intro h D P hD hP
      simp only [hD, hP]
      refine ⟨?_, ?_⟩
      · rintro a rfl
        rw [if_pos (by omega), Nat.mul_div_cancel_left _ (by decide), nodeClassOk_iff] at h
        exact h
      · rintro a rfl
        rw [if_neg (by omega), show (2 * a + 1) / 2 = a by omega, nodePortsOk_iff] at h
        exact h
    · intro h
      have h := h _ _ (fun _ => Iff.rfl) (fun _ _ => rfl)
      split
      · next ev =>
        rw [nodeClassOk_iff]
        have e : o = 2 * (o / 2) := by omega
        have := h.1 _ e
        exact ⟨by rw [← e]; exact this.1, by rw [← e]; exact this.2.1, this.2.2⟩
      · next ev =>
        rw [nodePortsOk_iff]
        have e : o = 2 * (o / 2) + 1 := by omega
        exact h.2 _ e
  simp only [c1, c2, false_imp_iff, true_and]
  generalize hId : pageInt ws = I at *
  generalize hWd : pageNat ws = W at *
  by_cases c3 : p ≤ 68
  · unfold wordOk
    rw [if_neg c1, if_neg c2, if_pos c3]
    unfold scaleOk
    rw [hId]
    simp only [Bool.or_eq_true, decide_eq_true_eq]
    have : p ≠ 73 ∧ p ≠ 74 ∧ p ≠ 75 ∧ p ≠ 76 ∧ p ≠ 77 ∧ p ≠ 78 ∧ ¬ 69 ≤ p ∧ 65 ≤ p := by omega
    simp only [this, c3, false_imp_iff, true_imp_iff, and_true]
    omega
  by_cases c4 : p ≤ 72
  · unfold wordOk
    rw [if_neg c1, if_neg c2, if_neg c3, if_pos c4]
    unfold setpointOk
    rw [hWd]
    have : p ≠ 73 ∧ p ≠ 74 ∧ p ≠ 75 ∧ p ≠ 76 ∧ p ≠ 77 ∧ p ≠ 78 ∧ 69 ≤ p ∧ ¬ p ≤ 68:= by omega
    simp only [this, c4, false_imp_iff, true_imp_iff, and_true]
    have m : o % 8 < 8 := Nat.mod_lt _ (by decide)
    generalize o % 8 = k at *
    interval_cases k <;> simp [within]
  unfold wordOk
  rw [if_neg c1, if_neg c2, if_neg c3, if_neg c4]
  have hp' : 73 ≤ p := by omega
  interval_cases p
  · simp only [allocationOk, hWd]
    simp only [Nat.reduceLeDiff, Nat.reduceEqDiff, false_imp_iff, true_imp_iff, and_true, true_and]
    by_cases h : o ≤ 17
    · interval_cases o <;> simp [within, and_assoc]
    · obtain ⟨k, rfl⟩ : ∃ k, o = k + 18 := ⟨o - 18, by omega⟩
      simp
  · simp only [plantOk, hWd, hId]
    simp only [Nat.reduceLeDiff, Nat.reduceEqDiff, false_imp_iff, true_imp_iff, and_true, true_and]
    by_cases h : o ≤ 9
    · interval_cases o <;> simp [within, withinInt, and_assoc]
    · obtain ⟨k, rfl⟩ : ∃ k, o = k + 10 := ⟨o - 10, by omega⟩
      simp
  · simp only [tankOk, hWd, pageWord]
    simp only [Nat.reduceLeDiff, Nat.reduceEqDiff, false_imp_iff, true_imp_iff, and_true, true_and]
    by_cases h : o ≤ 7
    · interval_cases o <;> simp [within, and_assoc]
    · obtain ⟨k, rfl⟩ : ∃ k, o = k + 8 := ⟨o - 8, by omega⟩
      simp only [within, Bool.and_eq_true, decide_eq_true_eq]
      by_cases h1 : k + 8 < 23
      · rw [if_pos h1, decide_eq_true_eq]; simp; omega
      · rw [if_neg h1]
        by_cases h2 : 24 ≤ k + 8 ∧ k + 8 ≤ 27
        · rw [if_pos h2]; simp; omega
        · rw [if_neg h2]; simp; omega
  · simp only [filterOk, hWd]
    simp only [Nat.reduceLeDiff, Nat.reduceEqDiff, false_imp_iff, true_imp_iff, and_true, true_and]
    by_cases h : 24 ≤ o
    · simp [h]
    · rw [if_neg h]
      have := lt (o + 1)
      have m : o % 8 < 8 := Nat.mod_lt _ (by decide)
      have : o < 24 := by omega
      generalize o % 8 = k at *
      simp only [this, true_imp_iff]
      interval_cases k <;> simp [within]
      omega
  · simp only [cycleOk, hWd, hId]
    simp only [Nat.reduceLeDiff, Nat.reduceEqDiff, false_imp_iff, true_imp_iff, and_true, true_and]
    by_cases h : o ≤ 10
    · interval_cases o <;> simp [within, withinInt, and_assoc]
    · obtain ⟨k, rfl⟩ : ∃ k, o = k + 11 := ⟨o - 11, by omega⟩
      simp
  · simp only [controlOk, hWd]
    simp only [Nat.reduceLeDiff, Nat.reduceEqDiff, false_imp_iff, true_imp_iff, true_and]
    by_cases h : o ≤ 10
    · interval_cases o <;> simp [within]
    · obtain ⟨k, rfl⟩ : ∃ k, o = k + 11 := ⟨o - 11, by omega⟩
      simp

/-! ### The swap check (R165) -/

/-- R165: at most one mapped node of a bank satisfies a test. -/
theorem Bank.countNodes_le_one (b : Bank) (test : NodeEntry → Bool) : b.countNodes test ≤ 1 ↔
    ∀ x y, x < 32 → y < 32 → ((b.node x).mapped && test (b.node x)) = true →
      ((b.node y).mapped && test (b.node y)) = true → x = y := by
  unfold Bank.countNodes
  have hmem : ∀ x, x ∈ (ringAddresses.filter fun a => (b.node a).mapped && test (b.node a)) ↔
      x < 32 ∧ ((b.node x).mapped && test (b.node x)) = true := by
    intro x
    simp only [List.mem_filter, ringAddresses, List.mem_range]
  have hn : (ringAddresses.filter fun a => (b.node a).mapped && test (b.node a)).Nodup :=
    List.Nodup.filter _ List.nodup_range
  generalize (ringAddresses.filter fun a => (b.node a).mapped && test (b.node a)) = l at hmem hn ⊢
  constructor
  · intro h x y hx hy h1 h2
    have mx := (hmem x).2 ⟨hx, h1⟩
    have my := (hmem y).2 ⟨hy, h2⟩
    rcases l with _ | ⟨c, _ | ⟨d, l⟩⟩
    · simp at mx
    · simp at mx my
      omega
    · simp at h
  · intro h
    rcases l with _ | ⟨c, _ | ⟨d, l⟩⟩
    · simp
    · simp
    · have hc := (hmem c).1 (by simp)
      have hd := (hmem d).1 (by simp)
      have := h c d hc.1 hd.1 hc.2 hd.2
      simp [this] at hn

end Sys2Proof.Machine
end

