-- ==== Sys2Proof/Tests/Slice0.lean ====
section
/-! SUPPORT. The model's own tests: ill-formed commands refused, and a state and operands that meet the hypotheses of each
statement, at the bounds of its clauses, with what the command then does. -/

set_option Elab.async false

namespace Sys2Proof.Tests

open Sys2Proof.Machine

/-! ### Small states -/

/-- The state a command leads to. -/
def after (c : Instr) (s : State) : State :=
  match exec c s with
  | .next t => t
  | .fault _ => s
  | .refused _ => s

/-- The state a step leads to. -/
def stepped (s : State) : State :=
  match step s with
  | .next t => t
  | .fault _ => s
  | .refused _ => s

/-- Word o of page p. -/
def cell (p o v : Nat) : Nat × Word := (p * 64 + o, word v)

/-- Reset with nothing in flight. -/
def quiet : State := State.reset.setPosts []

/-- Bank A live with the words given, in rising order. -/
def live (ws : List (Nat × Word)) : State :=
  quiet.setBanks { Banks.atReset with
    live := some .a, generation := 1
    a := { mem := ws, status := List.replicate 79 .written, stamp := some 1 } }

/-- The run level of every block that holds one. -/
def atLevel (l : RunLevel) (s : State) : State :=
  (((s.setRc { s.rc with level := l }).setRing { s.ring with level := l }).setCycles { s.cycles with level := l }).setMu
    { s.mu with level := l }

/-- A row with its resolved value and output. -/
def row (k : RowKind) (normal : Option Nat) (out : Nat) : Row where
  kind := k
  dst := 9
  port := 0
  normal := normal
  cycle := none
  resolved := out
  commanded := out
  lastSent := none
  dirty := false

/-- The state with these rows. -/
def withRows (rs : List Row) (s : State) : State := s.setInter { s.inter with rows := rs }

/-- The state with a cycle running. -/
def running (c : Cycle) (s : State) : State := s.setCycles { s.cycles with running := some c }

/-- A running cycle at a step. -/
def cycleAt (k : CycleKind) (st : CycleStep) : Cycle := { Cycle.queued k with step := st, stepTimer := some 5, endTemp := 50, flowTime := 30 }

/-- The state with a request at the head of its queue. -/
def asked (payload : List Word) (s : State) : State := s.setMu { s.mu with queue := [{ src := 3, payload := payload }] }

/-- The request `asked` puts there. -/
def request (payload : List Word) : Request := { src := 3, payload := payload }

/-! ### Ill-formed commands -/

theorem test_wf_empty_run : Instr.wf (.rxFrame []) = false := by decide
theorem test_wf_store_range : Instr.wf (.zoneStore 0 .rh 1001 .good) = false ∧
    Instr.wf (.zoneStore 0 .temp (-401) .good) = false ∧ Instr.wf (.zoneStore 0 .rh 5 .fault) = false := by decide
theorem test_wf_outputs : Instr.wf (.translatorOutputChanged .compressor 2) = false ∧
    Instr.wf (.cycleOutputChanged .heater 101) = false := by decide
theorem test_wf_sweep_numbers : Instr.wf (.sweepClose 256 true) = false ∧ Instr.wf (.zoneReview 256) = false ∧
    Instr.wf (.interlockSweepBegin 256) = false ∧ Instr.wf (.banksSweepBegin 256) = false := by decide
theorem test_wf_requests : Instr.wf (.normalRequests 8 []) = false ∧
    Instr.wf (.normalRequests 1 [{ node := 32, port := 0, position := 0 }]) = false ∧
    Instr.wf (.normalRequests 1 [{ node := 3, port := 4, position := 0 }]) = false ∧
    Instr.wf (.normalRequests 1 [{ node := 3, port := 0, position := 101 }]) = false ∧
    Instr.wf (.runRequest .compressor 2) = false ∧ Instr.wf (.runRequest .heater 0) = false ∧
    Instr.wf (.runRequest .pump 1) = false ∧ Instr.wf (.stopRequest .pump) = false := by decide
theorem test_wf_plans : Instr.wf (.cyclePlan .regen [{ target := .blower, value := 8 }]) = false ∧
    Instr.wf (.cyclePlan .regen [{ target := .damper 8 0 0, value := 0 }]) = false ∧
    Instr.wf (.cyclePlan .regen [{ target := .compressor, value := 2 }]) = false ∧
    Instr.wf (.cyclePlan .regen [{ target := .heater, value := 101 }]) = false ∧
    Instr.wf (.cyclePlan .regen [{ target := .pump, value := 2 }]) = false := by decide
theorem test_wf_inhibits : Instr.wf (.inhibitClaim .door) = false ∧ Instr.wf (.inhibitRelease .door) = false := by decide
theorem test_wf_samples : Instr.wf (.blowerFbSample (some (8, .good))) = false ∧
    Instr.wf (.dryingCoilTemp (some (851, .good))) = false ∧ Instr.wf (.cycleCoilTemp (some (-401, .good))) = false ∧
    Instr.wf (.dpSample .pre (some (2001, .good))) = false ∧ Instr.wf (.pumpFlow (some (5001, .good))) = false := by decide
theorem test_wf_qualities : Instr.wf (.blowerFbSample (some (7, .fault))) = false ∧
    Instr.wf (.dryingCoilTemp (some (0, .none))) = false ∧ Instr.wf (.cycleCoilTemp (some (0, .fault))) = false ∧
    Instr.wf (.tankLevel (some (15, .none))) = false ∧ Instr.wf (.dpSample .sorb (some (0, .none))) = false ∧
    Instr.wf (.pumpFlow (some (5000, .fault))) = false ∧ Instr.wf (.pumpFlow (some (5000, .clamped))) = true ∧
    Instr.wf (.tankLevel none) = true := by decide
/-- A record of an idle review. -/
def idleRecord : AllocRecord where
  sweep := 0
  idle := true
  step := 0
  airflow := 0
  applied := true
  effective := List.replicate 8 0
  request := List.replicate 8 0
  assigned := List.replicate 8 0
  position := List.replicate 8 none

theorem test_wf_records : Instr.wf (.dryingAllocation { idleRecord with step := 8 }) = false ∧
    Instr.wf (.filterAllocation { idleRecord with effective := [] }) = false ∧
    Instr.wf (.filterAllocation { idleRecord with airflow := 2001 }) = false := by decide
theorem test_wf_outcomes : Instr.wf (.dryingCycleOutcome .pumpOut .done) = false ∧
    Instr.wf (.profileOutcome .done [some [(2, 10), (1, 10)]]) = false ∧
    Instr.wf (.profileOutcome .done [some [(8, 10)]]) = false := by decide
theorem test_wf_amounts : Instr.wf (.deposit 65536 false) = false ∧ Instr.wf (.removal 65536 false) = false := by decide
/-- The report of an empty tank. -/
def emptyReport : TankReport :=
  { state := .normal, estimate := 0, known := true, certain := true, probe := some 0, empty := true }

theorem test_wf_report : Instr.wf (.tankReport { emptyReport with probe := some 16 }) = false := by decide
theorem test_wf_loader : Instr.wf (.loaderReadComplete [0#16]) = false := by decide
theorem test_wf_wake : Instr.wf (.wakeEvent .temp 0) = false ∧ Instr.wf (.wakeEvent .voc 501) = false := by decide

/-! ### A small appliance -/

/-- Live tables: a HEAD of zone 2 at address 5, a blower at 6, its damper at 7, a compressor at 8, a tank at 9, a heater at 10;
the controller at 3. HEAD channels 0 to 3 store PM-FINE with WAKE, accumulate into 0, take PAGE-NEXT and toggle boost. -/
def tables : List (Nat × Word) :=
  [cell 16 0 0x2800, cell 16 4 0x4000, cell 16 8 0x6000, cell 16 12 0x6040] ++
  [cell 64 10 0x8202, cell 64 11 0xFFFF, cell 64 12 0x830F, cell 64 13 0xFFFF, cell 64 14 0x840F, cell 64 15 0xFFF2] ++
  [cell 64 16 0x850F, cell 64 17 0xFFFF, cell 64 18 0x860F, cell 64 19 0xFFFF, cell 64 20 0x870F, cell 64 21 0xFFFF] ++
  [cell 65 0 256, cell 65 3 1000] ++
  [cell 70 0 500, cell 70 1 100, cell 70 2 20, cell 70 3 100, cell 70 4 50, cell 70 5 100, cell 70 6 100, cell 70 7 100] ++
  [cell 73 0 100, cell 73 1 200, cell 73 2 300, cell 73 3 400, cell 73 4 500, cell 73 5 600, cell 73 6 700] ++
  [cell 73 9 200, cell 73 15 20, cell 73 16 7, cell 73 17 3] ++
  [cell 74 0 2, cell 74 1 60, cell 74 2 120, cell 74 3 10, cell 74 4 40, cell 74 5 20, cell 74 6 50, cell 74 7 60] ++
  [cell 74 8 300, cell 74 9 600] ++
  [cell 75 1 5000, cell 75 2 100, cell 75 3 4000, cell 75 4 4500, cell 75 5 500, cell 75 6 200, cell 75 7 1] ++
  [cell 75 9 1000, cell 75 23 5000] ++
  [cell 76 0 1, cell 76 2 10000, cell 76 3 80, cell 76 4 50, cell 76 5 100, cell 76 24 1000] ++
  [cell 77 0 3, cell 77 1 50, cell 77 2 600, cell 77 3 30, cell 77 4 300, cell 77 5 50, cell 77 6 4, cell 77 7 900] ++
  [cell 77 8 300, cell 77 9 20, cell 77 10 30] ++
  [cell 78 0 40, cell 78 1 4, cell 78 2 4, cell 78 3 3, cell 78 4 3, cell 78 5 60, cell 78 6 30, cell 78 7 500] ++
  [cell 78 8 700, cell 78 9 200, cell 78 10 1]

/-- The rows the tables call for, the blower at a step, the compressor as given. -/
def plantRows (step comp : Nat) : List Row :=
  [row .blower (some step) step, row (.damper 2) none 0, row .compressor (some comp) comp, row .heater none 0]

/-- The appliance in ACTIVE, sweeps on, zone 2 LIVE with a tank half known. -/
def plant : State :=
  let s := atLevel .active (live tables)
  let z : Zone := { Zone.fresh .live (some 5) with clean := 60, cleanMark := true }
  ((s.setRing { s.ring with enabled := true, timer := some 40 }).setZones
    (s.zones.set 2 z)).setWater { s.water with kind := some .tank, state := .unknown, fitted := true }

theorem test_tables_canonical : plant.MemoriesWf := by decide +kernel
theorem test_plant_queues_sound : plant.QueuesBounded ∧ plant.SweepRecordSound := by decide +kernel
theorem test_plant_accumulators_sound : plant.AccumulatorsSound := by decide +kernel
theorem test_plant_zones_sound : plant.ZonesSound := by decide +kernel
theorem test_plant_door_sound : plant.DoorLaw := by decide +kernel
theorem test_plant_proof_sound : plant.ProofLaw := by decide +kernel
theorem test_plant_floor_sound : plant.FloorLaw := by decide +kernel
theorem test_plant_fault_sound : plant.ProofHasBlower ∧ plant.FaultSound ∧ plant.FloatLaw := by decide +kernel
theorem test_plant_estimates_sound : plant.EstimatesBounded := by decide +kernel
theorem test_plant_cycles_banks : plant.CycleLaw ∧ plant.BankLaw := by
  constructor
  · decide +kernel
  · decide +kernel
theorem test_plant_steps : stepped plant ≠ plant ∧ (stepped plant).pending = [] := by decide +kernel

/-! ### The machine as a whole -/

theorem test_step_runs_front : step (quiet.setPending [.planRelease]) = exec .planRelease quiet := rfl
theorem test_idle_cases : quiet.pending = [] ∧ (quiet.setHeld true).held = true ∧
    State.reset.posts = .conditionPost .doorOpen false :: State.reset.posts.tail ∧ quiet.posts = [] ∧
    (asked [0x0100#16, 0#16] quiet).headRequest = some (request [0x0100#16, 0#16], []) ∧
    quiet.headRequest = none ∧ quiet.portWork = false ∧
    (quiet.setRing { quiet.ring with port := some { words := [1#16], soft := true } }).sendingSoft = true ∧
    (quiet.setRing { quiet.ring with forward := [[1#16]] }).portWork = true := by decide +kernel
theorem test_own_work : (quiet.setRing { quiet.ring with forward := [[1#16]] }).portWork = true ∧
    (quiet.setRing { quiet.ring with forward := [[1#16]] }).sendingSoft = false ∧
    (quiet.setRing { quiet.ring with port := some { words := [1#16], soft := true } }).portWork = true := by decide +kernel
theorem test_cut_off : quiet.ring.port = none ∧ (after (.rstNLow 3) quiet).lines = quiet.lines ∧
    (after (.rstNLow 1) (quiet.setRing { quiet.ring with port := some { words := [7#16, 8#16], soft := false } })).lines =
      { quiet.lines with tx := [7#16], txOpen := true } ∧
    (after (.rstNLow 2) (quiet.setRing { quiet.ring with port := some { words := [7#16, 8#16], soft := false } })).lines =
      { quiet.lines with tx := [7#16, 8#16], txOpen := false } ∧
    (after (.rxFrame [9#16]) ((quiet.setHeld true).setLines { quiet.lines with tx := [7#16], txOpen := true })).lines.tx =
      [7#16, 9#16] := by decide +kernel
theorem test_held_lines : (quiet.setHeld true).held = true ∧
    (after (.rxFrame [7#16]) (quiet.setHeld true)).lines.tx = [7#16] ∧
    (after (.setupLineChange true) (quiet.setHeld true)).lines.setup = true ∧
    (after (.doorLineChange true) (quiet.setHeld true)).lines.door = true ∧
    (after (.floatLineChange true) (quiet.setHeld true)).lines.float = true := by decide +kernel
theorem test_tick_bounds : quiet.subTick < 19 ∧ (quiet.setSubTick 18).subTick < 19 ∧ 19 ≤ (quiet.setSubTick 19).subTick ∧
    quiet.tick.subTick = 1 ∧ (quiet.setSubTick 19).tick.inter.clock = .off 1 ∧ quiet.due = [] ∧ quiet.dueExpiry = none ∧
    (quiet.setRing { quiet.ring with timer := some 1 }).due = [] ∧
    (quiet.setRing { quiet.ring with timer := some 1 }).tick.dueExpiry = some .sweepTimerExpiry := by decide +kernel
theorem test_tick_cycle :
    ((running { cycleAt .defrost .melt with stepTimer := some 1 } quiet).setSubTick 19).tick.due = [.stepTimerExpiry] ∧
    ((running { cycleAt .regen .heat with stepTimer := some 1, held := true } quiet).setSubTick 19).tick.due = [] ∧
    ((running { cycleAt .defrost .melt with cycleTimer := some 0 } quiet)).due = [.cycleTimerExpiry] ∧
    (quiet.setInter { quiet.inter with settle := some 1, clock := .on 1023 }).inter.settle = some 1 := by decide +kernel
theorem test_due_holds : quiet.zones.length = 8 ∧
    (quiet.setZones (quiet.zones.set 7 { Zone.fresh .live none with boost := some 0, window := some 0 })).due =
      [.boostTimerExpiry 7, .windowTimerExpiry 7] ∧
    (quiet.setZones (quiet.zones.set 7 { Zone.fresh .live none with boost := some 1, window := some 1 })).due = [] := by
  decide +kernel

/-! ### Resets and lines -/

theorem test_full_reset : (after (.powerOn { addr := 31#5, autold := true }) plant).ring.own = 29 ∧
    (after (.rstNRelease { addr := 29#5, autold := false }) plant).ring.own = 29 ∧
    (after (.rstNRelease { addr := 28#5, autold := false }) plant).ring.own = 28 := by decide +kernel
theorem test_zone_gains_head : (live tables).held = false ∧ (2 : Nat) < 8 ∧
    (live tables).zones = List.replicate 8 .absentZone ∧ (live tables).banks.headOf 2 = some 5 ∧
    ((after .zoneSwapTaken (live tables)).zone 2).state = .waiting := by decide +kernel

/-- The loader about to write page 78, every other page of bank A written. -/
def lastWrite : State :=
  (quiet.setBanks { Banks.atReset with
    a := { mem := [], status := (List.replicate 79 .written).set 78 .empty, stamp := none } }).setRc
    { quiet.rc with loader := .loading (.write 79 78 (0#16 :: 0#16 :: 0#16 :: 3#16 :: List.replicate 60 0#16) 0#16) }

theorem test_loader_makes_live : lastWrite.held = false ∧ lastWrite.banks.live = none ∧ lastWrite.banks.generation = 0 ∧
    (lastWrite.banks.a.putPage 78 (0#16 :: 0#16 :: 0#16 :: 3#16 :: List.replicate 60 0#16) .written).complete = true ∧
    (lastWrite.banks.a.putPage 78 (0#16 :: 0#16 :: 0#16 :: 3#16 :: List.replicate 60 0#16) .written).swapCheck
      lastWrite.ring.own = true ∧ (after .loaderWriteComplete lastWrite).banks.live = some .a := by decide +kernel
theorem test_setup_line : plant.held = false ∧ plant.ring.enabled = true ∧
    (after (.setupLineChange true) plant).ring.enabled = false ∧ (live tables).ring.enabled = false ∧
    (atLevel .watch (live tables)).isLive = true ∧
    (after (.setupLineChange false) (atLevel .watch (live tables))).ring.timer = some 160 ∧
    (after (.setupLineChange false) (atLevel .active (live tables))).ring.timer = some 40 := by decide +kernel
theorem test_setup_posts : (after (.setupLineChange true) (plant.setPosts [.regenActive])).posts = [.regenActive, .sweepsDisabled] ∧
    (after (.setupLineChange false) plant).ring = plant.ring ∧ (after (.setupLineChange false) plant).posts = [] ∧
    (after (.setupLineChange false) (live tables)).ring = (live tables).ring ∧
    (after (.setupLineChange true) (live tables)).posts = [] := by decide +kernel
theorem test_door_line : plant.held = false ∧ plant.lines.door = !true ∧ plant.DoorLaw ∧
    (after (.doorLineChange true) plant).inter.inhibits.door = true ∧
    (after (.doorLineChange true) plant).lines.door = !false ∧ (after (.doorLineChange true) plant).DoorLaw := by
  decide +kernel
/-- A running DEFROST, a suspended PROFILE, a queued REGEN. -/
def threeCycles : State :=
  plant.setCycles { plant.cycles with
    running := some (cycleAt .defrost .melt), suspended := some (cycleAt .profile (.settle 2)), queue := [Cycle.queued .regen] }

theorem test_door_ends_cycles : threeCycles.lines.door = !true ∧ threeCycles.DoorLaw ∧ threeCycles.CycleLaw ∧
    (after (.doorLineChange true) threeCycles).cycles.defrost.outcome = .aborted .door ∧
    (after (.doorLineChange true) threeCycles).cycles.profile.outcome = .aborted .door ∧
    (after (.doorLineChange true) threeCycles).cycles.regen.outcome = .cancelled ∧
    (after (.doorLineChange true) (running (cycleAt .pumpOut .drain) plant)).cycles.kinds = [.pumpOut] := by decide +kernel
theorem test_float_line : plant.held = false ∧ plant.water.float ≠ true ∧ plant.water.float = false ∧
    (after (.floatLineChange true) plant).water.state = .full ∧
    (after (.floatLineChange true) plant).water.estimate = 4500 ∧
    (after (.floatLineChange true) plant).water.float ≠ false := by decide +kernel

theorem test_float_match : plant.water.float = false ∧
    (after (.floatLineChange false) plant).posts = [plant.tankReport none] ∧
    (after (.floatLineChange true) plant).posts.getLast? = some ((after (.floatLineChange true) plant).tankReport none) := by
  decide +kernel
/-! ### The ring -/

/-- A broadcast SAMPLE from address 5 of one pair. -/
def sampleRun (ch v : Word) : List Word := frameWords 31 5 2 [ch, v]

theorem test_faulty_runs : wellFormedRun [0#16, 0#16] = false ∧ wellFormedRun [0#16, 1#16, 0#16] = false ∧
    wellFormedRun [0#16, 0#16, 0#16] = true ∧ ([0#16, 0#16, 0#16] : List Word).getLast? ≠ some (check [0#16, 0#16]) ∧
    wellFormedRun (frameWords 5 31 4 []) = true ∧ checkOk (frameWords 5 31 4 []) = true ∧
    bits ((frameWords 5 31 4 []).getD 0 0#16) 0 5 = 31 ∧ wellFormedRun (frameWords 31 30 15 (List.replicate 8 0#16)) = true ∧
    checkOk (frameWords 31 30 15 (List.replicate 8 0#16)) = true := by decide +kernel
theorem test_discarded_run : (quiet.setRing { quiet.ring with discard := true }).ring.discard = true ∧
    quiet.ring.discard = false ∧ after (.rxFrame [0#16]) (quiet.setRing { quiet.ring with discard := true }) = quiet := by
  decide +kernel
/-- The hypotheses of the routing statement on a run. -/
def routed (ws : List Word) (s : State) : Bool :=
  !s.held && !s.ring.discard && wellFormedRun ws && checkOk ws && decide ((parseFrame ws).src ≠ 31)

theorem test_routing_own : routed (frameWords 31 0 1 [7#16]) plant = true ∧ plant.answering = 0 ∧
    routed (frameWords 31 0 2 []) plant = true ∧
    routed (frameWords 31 0 1 [7#16]) (plant.setRing { plant.ring with outstanding := some 7 }) = true ∧
    (after (.rxFrame (frameWords 31 0 1 [7#16])) (plant.setRing { plant.ring with outstanding := some 7 })).posts =
      [.sweepClose 7 true] := by decide +kernel
theorem test_routing_mreq : routed (frameWords 0 3 4 [0x0100#16, 0#16]) plant = true ∧
    routed (frameWords 0 3 6 []) plant = true ∧ plant.mu.queue.length < 8 ∧
    (plant.setMu { plant.mu with queue := List.replicate 8 (request []) }).mu.queue.length = 8 ∧ plant.ring.placeFree = true ∧
    (plant.setRing { plant.ring with origin := List.replicate 24 (.act 1 1 1 1 1) }).ring.placeFree = false ∧
    (after (.rxFrame (frameWords 0 3 4 [0x0100#16, 0#16])) plant).mu.queue = [request [0x0100#16, 0#16]] := by
  decide +kernel
theorem test_routing_forward : routed (frameWords 7 3 3 [1#16, 2#16]) plant = true ∧
    (after (.rxFrame (frameWords 7 3 3 [1#16, 2#16])) plant).ring.forward = [frameWords 7 3 3 [1#16, 2#16]] ∧
    routed (frameWords 7 3 2 [1#16]) plant = true ∧ routed (frameWords 7 3 2 [1#16, 2#16]) plant = true := by decide +kernel
theorem test_broadcast : routed (sampleRun 0#16 30#16) plant = true ∧ plant.isLive = true ∧ plant.lines.setup = false ∧
    quiet.isLive = false ∧ plant.answering ≠ 31 ∧ (plant.translate (parseFrame (sampleRun 0#16 30#16))).2 = false ∧
    (after (.rxFrame (sampleRun 0#16 30#16)) plant).posts = [.zoneStore 2 .pmFine 30 .good] ∧
    (quiet.ring.forward.length < 16) ∧
    16 ≤ (quiet.setRing { quiet.ring with forward := List.replicate 16 [] }).ring.forward.length := by decide +kernel
theorem test_four_pairs : wellFormedRun (frameWords 31 5 2 [0#16, 30#16, 0#16, 31#16, 0#16, 32#16, 0x40#16, 33#16]) = true ∧
    (plant.translate { dst := 31, src := 5, kind := 2, payload := [0#16, 30#16, 0#16, 31#16, 0#16, 32#16] }).1.posts =
      [.zoneStore 2 .pmFine 30 .good, .zoneStore 2 .pmFine 31 .good, .zoneStore 2 .pmFine 32 .good] ∧
    (after (.rxFrame (frameWords 31 5 2 [0#16, 30#16, 0#16, 31#16, 0#16, 32#16, 0x40#16, 33#16])) plant).posts =
      [.zoneStore 2 .pmFine 30 .good, .zoneStore 2 .pmFine 31 .good, .zoneStore 2 .pmFine 32 .good,
        .flagSetClaim .frameErr] := by decide +kernel
theorem test_pairs : (plant.banks.liveNode 4).mapped = false ∧ (plant.banks.liveNode 5).mapped = true ∧
    (plant.banks.liveNode 5).cls = 2 ∧ (plant.banks.liveNode 5).zone = some 2 ∧ bits (0x0040#16) 6 10 ≠ 0 ∧
    bits (0x003F#16) 6 10 = 0 := by decide +kernel
theorem test_grant : plant.held = false ∧ plant.sendingSoft = false ∧
    (plant.setRing { plant.ring with slot := some { src := 0, number := 0, watch := false } }).ring.slot ≠ none ∧
    plant.ring.slot = none ∧ (after .transmitGrant plant).ring.port = none ∧
    (after .transmitGrant (plant.setRing { plant.ring with
      origin := [.act 1 1 1 1 1], headWait := some 4, forward := [[1#16]] })).ring.origin = [] ∧
    (after .transmitGrant (plant.setRing { plant.ring with
      origin := [.act 1 1 1 1 1], headWait := some 3, forward := [[1#16]] })).ring.forward = [] := by decide +kernel
theorem test_sweep_expiry : plant.ring.timer.isSome = true ∧ plant.ring.outstanding = none ∧
    (after .sweepTimerExpiry plant).ring.outstanding = some 0 ∧
    (after .sweepTimerExpiry (after .sweepTimerExpiry plant)).ring.late = 1 ∧
    (after .sweepTimerExpiry (plant.setRing { plant.ring with outstanding := some 255, late := 2, nextNumber := 255 })).ring.nextNumber
      = 0 := by decide +kernel
theorem test_level_and_swap : plant.sweepsWanted = true ∧ (after .ringSwapTaken plant).ring = plant.ring ∧
    (after (.ringRunLevelChange .halt) plant).ring.enabled = false ∧
    (after (.ringRunLevelChange .watch) (live tables)).ring.timer = some 160 ∧
    (after .ringSwapTaken (atLevel .active (live tables))).ring.timer = some 40 ∧
    (after .ringSwapTaken (atLevel .halt plant)).ring.enabled = false := by decide +kernel

/-- One dirty row. -/
def dirtyPlant : State := withRows [{ row .blower (some 3) 3 with dirty := true }] plant

theorem test_freed_place : (∃ r ∈ dirtyPlant.inter.rows ++ dirtyPlant.inter.leaving, r.dirty = true) ∧
    (after .transmitGrant ((dirtyPlant.setMu { plant.mu with owed := true }).setRing { plant.ring with
      origin := [.act 1 1 1 1 1], headWait := some 0 })).posts = [.dirtyRowOffer, .noteOwedOffer] := by decide +kernel

/-- Two dirty rows, one with an ACT queued already, and a dirty row that leaves. -/
def dirtyRows (full : Bool) : State :=
  let s := withRows [{ row .blower (some 3) 3 with dirty := true }, { row .compressor (some 1) 1 with dirty := true }] plant
  (s.setInter { s.inter with leaving := [{ row .heater none 0 with dirty := true }] }).setRing { s.ring with
    origin := (if full then List.replicate 23 (.act 1 1 1 1 1) else []) ++ [.act 9 0 1 0 7], headWait := some 0 }

theorem test_dirty_rows : (dirtyRows true).RowsDistinct ∧ (dirtyRows false).RowsDistinct ∧
    (after .dirtyRowOffer (dirtyRows false)).ring.origin = [.act 9 0 1 0 3, .act 9 0 4 0 0, .act 9 0 3 0 1] ∧
    (after .dirtyRowOffer (dirtyRows false)).inter.leaving = [] ∧
    (after .dirtyRowOffer (dirtyRows true)).ring.origin = List.replicate 23 (.act 1 1 1 1 1) ++ [.act 9 0 1 0 3] ∧
    (after .dirtyRowOffer (dirtyRows true)).inter.rows.map (·.dirty) = [false, true] ∧
    (after .dirtyRowOffer (dirtyRows true)).inter.leaving.map (·.dirty) = [true] ∧
    (after .dirtyRowOffer (dirtyRows true)).ring.placeFree = false := by decide +kernel
theorem test_dirty_row : dirtyPlant.held = false ∧ dirtyPlant.inter.leaving = [] ∧ dirtyPlant.ring.placeFree = true ∧
    dirtyPlant.ring.hasAct 9 1 0 = false ∧ (after .dirtyRowOffer dirtyPlant).ring.origin = [.act 9 0 1 0 3] := by
  decide +kernel
theorem test_owed_note : plant.mu.owed = false ∧ plant.ring.hasNote = false ∧ plant.ring.placeFree = true ∧
    (after .noteOwedOffer (plant.setMu { plant.mu with owed := true })).ring.origin = [.note 3 0 0#16 0#16 .active] ∧
    (after .noteOwedOffer ((plant.setMu { plant.mu with owed := true, flags := 4#16 }).setRing
      { plant.ring with origin := [.note 3 0 0#16 0#16 .active] })).ring.origin = [.note 3 0 4#16 0#16 .active] := by
  decide +kernel

/-! ### Translation -/

theorem test_regimes : plant.trans.defrost = false ∧ (after .defrostRegimeSet plant).trans.defrost = true ∧
    (after .defrostRegimeSet plant).posts = [.regimeChanged] ∧
    (after .defrostRegimeClear (after .defrostRegimeSet plant)).trans.defrost = false := by decide +kernel
theorem test_gates : plant.trans.gates.get .compressor ≠ true ∧ plant.trans.gates.get .compressor = false ∧
    ((after (.translatorOutputChanged .compressor 1) plant).acc 0).held = some { gate := .compressor, removal := false } ∧
    (after (.translatorOutputChanged .compressor 0) ((after (.translatorOutputChanged .compressor 1) plant).setTrans
      { (after (.translatorOutputChanged .compressor 1) plant).trans with
        accs := [{ held := some { gate := .compressor, removal := false }, sum := 9, saturated := false }] })).posts =
      [.deposit 9 false] ∧ (after .regenActive plant).trans.gates.regen = true ∧
    (after .regenInactive (after .regenActive plant)).trans.gates.regen = false := by decide +kernel
theorem test_scaling : (0 : Int) ≤ 1000 ∧
    ({ gain := 26, offset := 0, low := 0, high := 2000 } : Scale).apply (0, 1000) 10000 = (1000, .clamped) ∧
    ({ gain := 25, offset := 0, low := 0, high := 2000 } : Scale).apply (0, 1000) 10000 = (976, .good) ∧
    ({ gain := -1, offset := 0, low := -5, high := 5 } : Scale).apply (-400, 850) 255 = (0, .good) ∧
    ({ gain := -256, offset := 0, low := -5, high := 5 } : Scale).apply (-400, 850) 6 = (-5, .clamped) ∧
    ({ gain := 256, offset := 0, low := 0, high := 1000 } : Scale).apply (-400, 850) 900 = (850, .clamped) ∧
    ({ gain := -256, offset := 0, low := -900, high := -500 } : Scale).apply (-400, 850) 600 = (-400, .clamped) := by
  decide +kernel
theorem test_curve : curveValue { value := 20, quality := .good } 20 100 = 0 ∧
    curveValue { value := 21, quality := .good } 20 100 = 1 ∧ curveValue { value := 119, quality := .good } 20 100 = 99 ∧
    curveValue { value := 120, quality := .good } 20 100 = 100 := by decide +kernel

/-- The start of a frame from address 5. -/
def fresh5 : Pairs := { s := plant, boost := false, absorbed := true }

/-- One pair of a frame from address 5. -/
def pair5 (ch raw : Word) : Pairs := Pairs.take 5 (plant.banks.liveNode 5) fresh5 (ch, raw)

theorem test_special_pairs : plant.banks.liveWord 16 4 = 0x4000#16 ∧ plant.banks.liveWord 16 8 = 0x6000#16 ∧
    plant.banks.liveWord 16 12 = 0x6040#16 ∧ (pair5 4#16 0#16).absorbed = false ∧
    (pair5 1#16 9#16).s.posts = [.deposit 9 false] ∧ (pair5 1#16 0xFFFF#16).s.posts = [.uncertain] ∧
    (pair5 2#16 0#16).s.trans.marks.getD 5 false = true ∧ (pair5 3#16 0#16).s.posts = [.boostToggle 2] ∧
    (pair5 3#16 0#16).boost = true := by decide +kernel
theorem test_store_pairs : plant.banks.liveWord 16 0 = 0x2800#16 ∧ targetOfCode (bits (0x2800#16) 6 5) = some (.zone .pmFine) ∧
    (pair5 0#16 0xFFFF#16).s.posts = [.zoneFaultReport 2 .pmFine] ∧
    (pair5 0#16 1000#16).s.posts = [.zoneStore 2 .pmFine 1000 .good] ∧
    (Pairs.take 5 (plant.banks.liveNode 5) { s := atLevel .watch plant, boost := false, absorbed := true } (0#16, 500#16)).s.posts =
      [.zoneStore 2 .pmFine 500 .good, .wakeEvent .pmFine 500] ∧
    (Pairs.take 5 (plant.banks.liveNode 5) { s := atLevel .watch plant, boost := false, absorbed := true } (0#16, 499#16)).s.posts =
      [.zoneStore 2 .pmFine 499 .good] := by decide +kernel

/-! ### Soft reset, zones, allocation -/

/-- The answer to SOFT RESET in the port. -/
def softSent : State := plant.setRing { plant.ring with port := some { words := [1#16], soft := true } }

theorem test_soft_reset : softSent.held = false ∧ softSent.sendingSoft = true ∧ plant.sendingSoft = false ∧
    (after (.softResetTaken false false) softSent).rc.level = .active ∧ (after (.softResetTaken false false) softSent).banks.live = some .a ∧
    ((after (.softResetTaken false false) softSent).zone 2).state = .waiting ∧ (after (.softResetTaken false false) softSent).free = 1 := by
  decide +kernel

theorem test_soft_reset_cycles : (threeCycles.setRing softSent.ring).CycleLaw ∧
    (after (.softResetTaken true true) (threeCycles.setRing softSent.ring)).cycles.defrost.outcome = .aborted .reset ∧
    (after (.softResetTaken true true) (threeCycles.setRing softSent.ring)).cycles.profile.outcome = .aborted .reset ∧
    (after (.softResetTaken true true) (threeCycles.setRing softSent.ring)).cycles.regen.outcome = .cancelled ∧
    (CycleKind.pumpOut ∉ threeCycles.cycles.kinds) ∧
    (after (.softResetTaken true true) (threeCycles.setRing softSent.ring)).ring.discard = true ∧
    (after (.softResetTaken false false) (softSent.setInter { softSent.inter with
      inhibits := { softSent.inter.inhibits with pump := true } })).inter.inhibits.pump = false := by decide +kernel

/-- SOFT RESET with the engine at a page. -/
def softEngine (e : Engine) (page : Nat) : State := softSent.setBanks { softSent.banks with engine := e, progress := page }

theorem test_soft_reset_engine :
    (after (.softResetTaken false false) (softEngine .copying 7)).banks.record = some { op := .copy, page := some 7, outcome := .torn } ∧
    (after (.softResetTaken false false) (softEngine .copying 7)).banks.shadow.pageStatus 7 = .torn ∧
    (after (.softResetTaken false true) (softEngine .copying 7)).banks.record = some { op := .copy, page := none, outcome := .torn } ∧
    (after (.softResetTaken false true) (softEngine .copying 7)).banks.shadow.pageStatus 7 = .empty ∧
    (after (.softResetTaken false true) (softEngine (.erasing true) 0)).banks.shadow.pageStatus 0 = .torn ∧
    (after (.softResetTaken false false) (softEngine (.committing 78 false) 0)).banks.shadow.pageStatus 78 = .empty ∧
    (after (.softResetTaken false false) (softEngine (.committing 78 true) 0)).banks.shadow.pageStatus 78 = .torn ∧
    (after (.softResetTaken false false) (softSent.setPosts [.planRelease, .filterSwapTaken])).posts.contains .filterSwapTaken := by
  decide +kernel
/-- Zone 2 of the appliance. -/
def zone2 : Zone := plant.zone 2

theorem test_zone_store : plant.zones[(2 : Fin 8).val]? = some zone2 ∧ zone2.state = .live ∧
    ((after (.zoneStore 2 .pmFine 1000 .clamped) plant).zone 2).readings.pmFine = { value := 1000, quality := .clamped } ∧
    ((after (.zoneFaultReport 2 .rh) plant).zone 2).readings.rh = { value := 0, quality := .fault } ∧
    ((after (.zoneStore 2 .pmFine 60 .good) plant).zone 2).clean = 40 := by decide +kernel
theorem test_absent_zone : (plant.zone 0).state = .absent ∧ after (.zoneStore 0 .pmFine 60 .good) plant = plant ∧
    after (.zoneFaultReport 0 .rh) plant = plant ∧ after (.boostToggle 0) plant = plant ∧
    after (.windowOpen 0) plant = plant := by decide +kernel
theorem test_demands : plant.zones[2]? = some zone2 ∧ zone2.state = .live ∧
    ((after .regimeChanged (after (.zoneStore 2 .rh 511 .good) plant)).zone 2).dry = 11 ∧
    ((after .regimeChanged (after (.zoneStore 2 .rh 510 .good) plant)).zone 2).dry = 0 ∧
    ((after .regimeChanged (after (.zoneStore 2 .pmFine 20 .good) plant)).zone 2).cleanMark = false := by decide +kernel
theorem test_recomputing_events : zone2.head = some 5 ∧ plant.banks.headOf (2 : Fin 8).val = zone2.head ∧
    ((zone2.heard .rh { value := 0, quality := .fault }).state = .live) ∧
    ((after (.zoneFaultReport 2 .pmFine) plant).zone 2).cleanMark = false ∧
    ((after (.zoneStore 2 .voc 150 .clamped) plant).zone 2).clean = 100 ∧
    ((after (.windowOpen 2) (after (.zoneStore 2 .rh 600 .good) plant)).zone 2).dry = 0 ∧
    ((after (.windowShut 2) (after (.windowOpen 2) (after (.zoneStore 2 .rh 600 .good) plant))).zone 2).dry = 100 ∧
    ((after .zoneSwapTaken (plant.setZones (plant.zones.set 2 { zone2 with clean := 9 }))).zone 2).clean = 0 ∧
    ((after .regimeChanged plant).zone 0) = plant.zone 0 := by decide +kernel
theorem test_holds : zone2.boost = none ∧ zone2.window = none ∧
    ((after (.boostToggle 2) plant).zone 2).boost = some 3600 ∧ ((after (.boostToggle 2) plant).zone 2).clean = 100 ∧
    ((after (.windowOpen 2) plant).zone 2).window = some 1800 ∧
    ((after (.windowShut 2) (after (.windowOpen 2) plant)).zone 2).window = none ∧
    ((after (.windowTimerExpiry 2) (after (.windowOpen 2) plant)).zone 2).window = none ∧
    ((after (.boostTimerExpiry 2) (after (.boostToggle 2) plant)).zone 2).boost = none := by decide +kernel
theorem test_sweep_close : zone2.stored = false ∧ ((after (.sweepClose 7 false) plant).zone 2).missed = 1 ∧
    ((after (.sweepClose 7 true) (plant.setZones [{ zone2 with missed := 2 }])).zone 0).state = .stale ∧
    ((after (.sweepClose 7 true) (plant.setZones [{ zone2 with missed := 1 }])).zone 0).state = .live ∧
    ((after (.sweepClose 7 true) (plant.setZones [{ zone2 with stored := true }])).zone 0).lastSweep = some 7 := by
  decide +kernel
theorem test_zone_swap : plant.banks.headOf 2 = some 5 ∧ plant.banks.headOf 1 = none ∧ zone2.head = some 5 ∧
    ((after .zoneSwapTaken plant).zone 2).head = some 5 ∧
    ((after .zoneSwapTaken (plant.setZones (List.replicate 8 (Zone.fresh .live (some 6))))).zone 2).state = .waiting ∧
    ((after .zoneSwapTaken (plant.setZones (List.replicate 8 (Zone.fresh .live (some 6))))).zone 1).state = .absent := by
  decide +kernel
theorem test_review : plant.takesReview = true ∧ quiet.takesReview = false ∧ plant.alloc.door = false ∧
    (after (.zoneReview 9) plant).alloc.order = [2] ∧
    (after (.zoneReview 9) plant).alloc.record.map (·.assigned) = some [0, 0, 120, 0, 0, 0, 0, 0] ∧
    (after (.zoneReview 9) plant).alloc.record.map (·.step) = some 2 ∧
    (after (.zoneReview 9) plant).alloc.record.map (·.position) =
      some [none, none, some 60, none, none, none, none, none] ∧
    (after (.zoneReview 9) (atLevel .watch plant)).alloc.record.map (·.idle) = some true := by decide +kernel
theorem test_step_with_want : (plant.setDry { plant.dry with want := true }).takesReview = true ∧ 1 ≤ plant.param 73 16 ∧
    (after (.zoneReview 9) (plant.setDry { plant.dry with want := true })).alloc.record.map (·.step) = some 2 ∧
    (after (.zoneReview 9) ((plant.setDry { plant.dry with want := true }).setZones
      (List.replicate 8 .absentZone))).alloc.record.map (·.step) = some 2 ∧
    (after (.zoneReview 9) (plant.setZones (List.replicate 8 .absentZone))).alloc.record.map (·.step) = some 0 ∧
    (after (.zoneReview 9) ((plant.setDry { plant.dry with want := true }).setZones
      (plant.zones.set 2 { zone2 with clean := 100 }))).alloc.record.map (·.step) = some 2 := by decide +kernel
theorem test_order_ties : serviceOrder (fun z => if z < 3 then 5 else 0) (fun z => if z = 2 then 1 else 0) = [2, 0, 1] := by
  decide +kernel

/-! ### The interlock -/

/-- The appliance with its rows, the blower at step 3 and the compressor running. -/
def drying : State :=
  let s := withRows (plantRows 3 1) plant
  s.setInter { s.inter with proof := true, clock := .on 100 }

theorem test_requests : drying.held = false ∧ drying.inter.row .compressor ≠ none ∧ quiet.inter.row .compressor = none ∧
    (after (.runRequest .compressor 1) quiet).inter.heldComp = some 1 ∧
    (after (.runRequest .heater 60) drying).inter.output .heater = 60 ∧
    (after (.stopRequest .compressor) drying).inter.output .compressor = 0 ∧
    (after (.normalRequests 5 [{ node := 9, port := 0, position := 30 }]) drying).inter.output (.damper 2) = 30 ∧
    (after (.cyclePlan .defrost [{ target := .compressor, value := 0 }]) drying).inter.rows.map (·.cycle) =
      [none, none, some 0, none] ∧ (after .planRelease drying).inter.rows.map (·.cycle) = [none, none, none, none] := by
  decide +kernel
theorem test_inhibits : drying.inter.inhibits.get .tank = false ∧
    (after (.inhibitClaim .tank) drying).inter.output .compressor = 0 ∧
    (after (.inhibitClaim .tank) drying).inter.inhibits.get .tank = true ∧
    (after (.inhibitRelease .tank) (after (.inhibitClaim .tank) drying)).inter.inhibits.get .tank = false := by
  decide +kernel
theorem test_resolves : drying.Resolves .planRelease ∧ (after .planRelease drying).ProofLaw ∧
    (after .planRelease drying).FloorLaw ∧ (after .planRelease drying).DoorLaw := by
  refine ⟨by simp [State.Resolves], ?_, ?_, ?_⟩
  · decide +kernel
  · decide +kernel
  · decide +kernel
/-- The appliance with the blower-fault latch set, asked to clear it. -/
def faulted : State := asked [0x0400#16, 0#16] (drying.setInter { drying.inter with fault := true })

theorem test_resolves_door : drying.Resolves (.doorLineChange true) ∧ faulted.Resolves .clearFault ∧
    (after (.doorLineChange true) drying).posts.contains (.translatorOutputChanged .compressor 0) = true := by
  refine ⟨?_, ?_, by decide +kernel⟩
  · exact Or.inr (Or.inr (Or.inr (Or.inr (Or.inr (Or.inr (Or.inr (Or.inr (Or.inr (Or.inr (Or.inr (Or.inl
      ⟨true, rfl, by decide +kernel, by decide +kernel⟩)))))))))))
  · exact Or.inr (Or.inr (Or.inr (Or.inr (Or.inr (Or.inr (Or.inr (Or.inr (Or.inr (Or.inr (Or.inr (Or.inr
      ⟨rfl, by decide +kernel, request [0x0400#16, 0#16], [], by decide +kernel, by decide +kernel,
        by decide +kernel⟩)))))))))))
theorem test_feedback : drying.inter.row .blower ≠ none ∧ drying.inter.settling = false ∧
    (after (.blowerFbSample (some (2, .good))) drying).inter.mismatch = 1 ∧
    (after (.blowerFbSample none) (drying.setInter { drying.inter with mismatch := 2 })).inter.fault = true ∧
    (after (.blowerFbSample none) (drying.setInter { drying.inter with mismatch := 2 })).inter.output .compressor = 0 ∧
    (after (.blowerFbSample (some (3, .good))) (drying.setInter { drying.inter with mismatch := 2, proof := false })).inter.mismatch = 0 := by
  decide +kernel

/-- A compressor start that waits for its min-off time, airflow proven. -/
def waiting : State :=
  let s := withRows [row .blower (some 3) 3, { row .compressor (some 1) 0 with resolved := 1 }] plant
  s.setInter { s.inter with proof := true, clock := .off 119 }

/-- A stop held for the min-on time. -/
def holding : State :=
  let s := withRows [row .blower (some 3) 3, { row .compressor (some 0) 1 with resolved := 0 }] plant
  s.setInter { s.inter with proof := true, clock := .on 59, settle := some 1 }

theorem test_protection : waiting.inter.startPending = true ∧
    waiting.inter.output .blower = max (waiting.inter.wanted .blower) (waiting.param 74 0) ∧
    (after .minOffExpiry waiting).inter.output .compressor = 1 ∧ holding.inter.stopHeld = true ∧
    (after .minOnExpiry holding).inter.clock = .off 0 ∧ holding.inter.settling = true ∧
    (after .settleTimerExpiry holding).inter.settle = some 0 ∧ plant.inter.startPending = false ∧
    plant.inter.stopHeld = false ∧ plant.inter.settling = false := by decide +kernel
theorem test_refresh_and_swap :
    ((after (.interlockSweepBegin 16) (withRows [{ row .blower (some 3) 3 with lastSent := some 0 }] plant)).ring.hasAct 9 1 0
      = true) ∧
    ((after (.interlockSweepBegin 15) (withRows [{ row .blower (some 3) 3 with lastSent := some 0 }] plant)).ring.hasAct 9 1 0
      = false) ∧
    (after .interlockSwapTaken plant).inter.rows.map (fun r => (r.kind, r.dst, r.port)) =
      [(.blower, 6, 0), (.damper 2, 7, 0), (.compressor, 8, 0), (.heater, 10, 0), (.pump, 9, 0)] ∧
    (after .interlockSwapTaken (withRows [row .blower (some 3) 3] plant)).ring.hasAct 9 1 0 = true := by decide +kernel

theorem test_swap_of_rows : drying.RowsDistinct ∧ (after .interlockSwapTaken plant).RowsDistinct ∧
    drying.calledRows.any (Row.same (row .blower none 0)) = false ∧
    (after .interlockSwapTaken drying).ring.origin.contains (.act 9 0 1 0 0) = true ∧
    (after .interlockSwapTaken (after .interlockSwapTaken plant)).inter.rows.map (·.dirty) = List.replicate 5 false ∧
    (after .interlockSwapTaken (drying.setRing { drying.ring with origin := List.replicate 24 (.act 1 1 1 1 1) })).inter.leaving.map
      (fun l => (l.commanded, l.dirty)) = [(0, true), (0, true), (0, true), (0, true)] ∧
    (after (.interlockSweepBegin 0) drying).ring.origin.length = 4 ∧
    (after (.interlockSweepBegin 0) (drying.setRing { drying.ring with origin := List.replicate 24 (.act 1 1 1 1 1) })).inter.rows.map
      (·.dirty) = [true, true, true, true] := by decide +kernel
/-- The appliance drying with the blower at a step, the compressor on or off, the heater at a power, and the compressor's times. -/
def atStep (step comp heat : Nat) (clock : CompClock) : State :=
  let s := withRows [row .blower (some step) step, row .compressor (some comp) comp, row .heater (some heat) heat] plant
  s.setInter { s.inter with proof := true, clock := clock }

theorem test_stands_at : drying.StandsAt .planRelease true (.on 100) drying.inter.output ∧
    drying.StandsAt .interlockSwapTaken false (.off 0) (fun _ => 0) ∧
    holding.StandsAt .minOnExpiry true (.on 60) holding.inter.output := by
  refine ⟨⟨rfl, rfl, fun _ => rfl⟩, ⟨by decide +kernel, by decide +kernel, fun k => ?_⟩, ⟨rfl, by decide +kernel, fun _ => rfl⟩⟩
  have h : ∀ r ∈ drying.calledRows, drying.inter.rows.find? (Row.same r) = none := by decide +kernel
  simp only []
  cases hf : drying.calledRows.find? fun r => r.kind == k with
  | none => rfl
  | some r => simp [h r (List.mem_of_find?_eq_some hf)]
theorem test_min_times : (after .planRelease holding).inter.output .compressor = 1 ∧
    (after (.normalRequests 5 []) holding).inter.output .blower = 3 ∧
    (after .planRelease (holding.setInter { holding.inter with clock := .on 60 })).inter.output .compressor = 0 ∧
    (after .planRelease waiting).inter.output .compressor = 0 ∧
    (after .planRelease (waiting.setInter { waiting.inter with clock := .off 120 })).inter.clock = .on 0 := by decide +kernel
theorem test_reproof : (after .planRelease (atStep 1 1 60 (.on 5))).inter.output .compressor = 0 ∧
    (after .planRelease (atStep 1 1 60 (.on 5))).inter.output .blower = 2 ∧
    (after .planRelease (atStep 1 1 60 (.on 5))).inter.clock = .off 0 ∧
    (after (.normalRequests 5 []) (atStep 3 0 60 (.off 5))).inter.output .heater = 0 ∧
    (after (.normalRequests 5 []) (atStep 3 0 60 (.off 5))).inter.output .blower = 5 ∧
    (after (.normalRequests 5 []) (atStep 3 0 60 (.off 5))).inter.proof = false ∧
    (after (.runRequest .heater 50) (atStep 3 0 0 (.off 5))).inter.output .heater = 50 ∧
    (after (.normalRequests 0 []) (atStep 3 1 0 (.on 5))).inter.output .blower = 3 := by decide +kernel
theorem test_output_posts : (after (.inhibitClaim .halt) (atStep 3 1 60 (.on 5))).posts =
      [.translatorOutputChanged .compressor 0, .dryingOutputOff .compressor, .cycleOutputChanged .compressor 0,
       .translatorOutputChanged .heater 0, .dryingOutputOff .heater, .cycleOutputChanged .heater 0] ∧
    (after (.runRequest .heater 50) (atStep 3 0 60 (.off 5))).posts =
      [.translatorOutputChanged .heater 50, .dryingOutputOn .heater, .cycleOutputChanged .heater 50] ∧
    (after .interlockSwapTaken (atStep 3 1 0 (.on 5))).posts =
      [.translatorOutputChanged .compressor 0, .dryingOutputOff .compressor, .cycleOutputChanged .compressor 0] ∧
    OutputNews drying.inter.output (fun _ => 0) =
      [.translatorOutputChanged .compressor 0, .dryingOutputOff .compressor, .cycleOutputChanged .compressor 0] := by
  decide +kernel
theorem test_called_for : bits (plant.banks.liveWord 64 12) 15 1 = 1 ∧ bits (plant.banks.liveWord 64 12) 8 4 = 3 ∧
    plant.banks.nodeOfClass 3 = some 6 ∧ bits (plant.banks.liveWord 64 15) 0 4 = 2 ∧ plant.banks.damperPort 2 = some (7, 0) ∧
    bits (plant.banks.liveWord 64 10) 0 4 = 2 ∧ plant.banks.headOf 2 = some 5 ∧ plant.param 75 7 = 1 := by decide +kernel
theorem test_settle_at_swap : (after .interlockSwapTaken plant).inter.settle = some (plant.param 74 3) ∧
    (after .interlockSwapTaken (plant.setInter { plant.inter with mismatch := 2 })).inter.mismatch = 0 ∧
    (after .interlockSwapTaken (drying.setBanks (live [cell 75 0 1]).banks)).inter.settle = none ∧
    (let s := withRows [{ row .blower (some 0) 0 with dst := 6 }] plant
     (after .interlockSwapTaken (s.setInter { s.inter with settle := some 1, mismatch := 2 })).inter.settle = some 1) := by
  decide +kernel

/-! ### Drying and water -/

/-- The appliance with a dry demand d in zone 2. -/
def damp (d : Nat) : State := drying.setZones (drying.zones.set 2 { zone2 with dry := d, dryMark := true })

theorem test_drying_want : ((damp 40).zones.filter fun z => z.state == .live).map (·.dry) = [40] ∧
    (after (.dryingAllocation idleRecord) (damp 40)).dry.want = true ∧
    (after (.dryingAllocation idleRecord) (damp 39)).dry.want = false ∧
    (after (.dryingAllocation idleRecord) ((damp 20).setDry { drying.dry with want := true })).dry.want = false ∧
    (after (.dryingAllocation idleRecord) ((damp 21).setDry { drying.dry with want := true })).dry.want = true := by
  decide +kernel
theorem test_frost : (after (.dryingCoilTemp (some (-10, .good))) (drying.setDry { drying.dry with compOn := true, frost := 298 })).dry.frost
      = 300 ∧
    .cycleRequest .defrost ∈ (after (.dryingCoilTemp (some (-10, .good)))
      (drying.setDry { drying.dry with compOn := true, frost := 298 })).posts ∧
    (after (.dryingCoilTemp (some (30, .good))) (drying.setDry { drying.dry with frost := 5 })).dry.frost = 4 ∧
    (after (.dryingCoilTemp (some (29, .good))) (drying.setDry { drying.dry with frost := 5 })).dry.frost = 5 ∧
    (after (.dryingCycleOutcome .defrost .doneTimed) (drying.setDry { drying.dry with frost := 5 })).dry.frost = 0 ∧
    (after (.dryingCycleOutcome .regen .done) (drying.setDry { drying.dry with saturation := 5 })).dry.saturation = 0 := by
  decide +kernel
theorem test_drying_states : drying.chooseMethod = some .compressor ∧ drying.dry.state = .off ∧
    (after (.dryingAllocation idleRecord) (damp 40)).dry.state = .starting ∧
    (after (.dryingAllocation idleRecord) ((damp 40).setInter { drying.inter with rows := [] })).dry.state = .heldNoMethod ∧
    drying.dry.recorded .compressor = false ∧ (after (.dryingOutputOn .compressor) drying).dry.state = .stopping ∧
    (after (.dryingOutputOn .heater) (drying.setDry { drying.dry with state := .starting, method := some .desiccant })).dry.state
      = .running ∧
    (after (.dryingOutputOff .compressor) (drying.setDry { drying.dry with
      state := .stopping, method := some .compressor, compOn := true })).dry.state = .off ∧
    (after (.dryingOutputOff .compressor) (drying.setDry { drying.dry with
      state := .running, method := some .compressor, compOn := true, want := true })).dry.state = .starting := by decide +kernel

/-- Zone 2 damp, the want on, the controller in a state with a method. -/
def wanting (st : DryState) (m : Option Method) : State := (damp 40).setDry { drying.dry with state := st, want := true, method := m }

theorem test_drying_with_want : (wanting .running (some .compressor)).methodAvailable .compressor = true ∧
    (after (.dryingAllocation idleRecord) (wanting .running (some .compressor))).dry.state = .running ∧
    (after (.dryingAllocation idleRecord) (wanting .heldForced (some .compressor))).dry.state = .starting ∧
    (after (.dryingAllocation idleRecord) (wanting .stopping (some .compressor))).dry.state = .running ∧
    (after (.dryingAllocation idleRecord) (wanting .stopping (some .desiccant))).dry.next = some .compressor ∧
    (after (.dryingAllocation idleRecord) (withRows [] (wanting .running (some .compressor)))).dry.state = .heldNoMethod ∧
    (after (.dryingAllocation idleRecord) (withRows [] ((wanting .running (some .compressor)).setDry
      { (wanting .running (some .compressor)).dry with compOn := true }))).dry.state = .stopping := by decide +kernel
theorem test_drying_switch : (after (.dryingCoilTemp (some (-10, .good))) ((wanting .running (some .compressor)).setDry
      { (wanting .running (some .compressor)).dry with compOn := true, frost := 299 })).dry.state = .stopping ∧
    (after (.dryingOutputOff .compressor) ((wanting .stopping (some .compressor)).setDry
      { (wanting .stopping (some .compressor)).dry with compOn := true, next := some .desiccant })).dry.method = some .desiccant ∧
    (after (.dryingCycleOutcome .defrost .done) (wanting .heldNoMethod none)).dry.state = .starting ∧
    (after (.dryingCycleOutcome .defrost .done) (wanting .heldForced (some .compressor))).dry.state = .starting ∧
    (after (.dryingOutputOff .compressor) (withRows [] ((wanting .running (some .compressor)).setDry
      { (wanting .running (some .compressor)).dry with compOn := true }))).dry.state = .heldNoMethod := by decide +kernel
/-- The appliance with a tank of known estimate e. -/
def tankAt (e : Nat) : State :=
  plant.setWater { plant.water with state := .normal, estimate := e, known := true, certain := true }

theorem test_water_events : (tankAt 4900).water.kind = some .tank ∧ (tankAt 4900).pageKind = some .tank ∧
    (after (.deposit 200 true) (tankAt 4900)).water.estimate = 5000 ∧
    (after (.deposit 200 true) (tankAt 4900)).water.certain = false ∧
    (after (.removal 200 false) (tankAt 100)).water.estimate = 0 ∧ (after .uncertain (tankAt 0)).water.certain = false ∧
    (after (.tankLevel (some (1, .good))) (tankAt 1500)).water.estimate = 1500 ∧
    (after (.tankLevel (some (1, .good))) (tankAt 1501)).water.estimate = 1000 ∧
    (after (.tankLevel (some (15, .good))) (tankAt 0)).water.estimate = 5000 ∧
    (after (.tankLevel none) (tankAt 0)).water.certain = false ∧ (after .tankOut (tankAt 0)).water.removed = true ∧
    (after .tankIn (tankAt 9)).water.known = false := by decide +kernel
theorem test_water_report :
    (after (.tankLevel (some (0, .good))) (tankAt 900)).posts.getLast? =
      some ((after (.tankLevel (some (0, .good))) (tankAt 900)).tankReport (some 0)) ∧
    (tankAt 900).tankReport (some 0) = .tankReport { emptyReport with
      state := .normal, estimate := 900, known := true, certain := true, probe := some 0, empty := true } ∧
    (after (.pumpOutOutcome (.aborted .noTank)) (tankAt 3999)).water.state = .near := by decide +kernel
theorem test_water_swap_kept : (tankAt 4000).pumpFitted = true ∧
    (after .waterSwapTaken ((tankAt 4000).setWater { (tankAt 4000).water with state := .near, fitted := false })).posts.dropLast =
      [.cycleRequest .pumpOut] ∧
    (after .waterSwapTaken ((tankAt 4000).setWater { (tankAt 4000).water with state := .near })).posts.length = 1 ∧
    (after .waterSwapTaken (live [cell 75 0 1, cell 75 7 1])).water.kind = some .drain ∧
    (after .waterSwapTaken ((live [cell 75 0 1, cell 75 7 1]).setWater { (live [cell 75 0 1]).water with
      kind := some .drain, pumpFault := true })).water.pumpFault = true ∧
    after .tankOut ((tankAt 9).setWater { (tankAt 9).water with removed := true, state := .normal }) =
      ((tankAt 9).setWater { (tankAt 9).water with removed := true, state := .normal }).reportOnly none := by decide +kernel
theorem test_water_swap : (after .waterSwapTaken (tankAt 100)).water.estimate = 100 ∧
    (after .waterSwapTaken (live tables)).water.kind = some .tank ∧
    (after .waterSwapTaken ((tankAt 100).setBanks (live [cell 75 0 1]).banks)).water.kind = some .drain ∧
    ((tankAt 100).setBanks (live [cell 75 0 1]).banks).pageKind = some .drain ∧
    (after (.pumpOutOutcome (.failed .noFlow)) (tankAt 100)).water.pumpFault = true ∧
    (after (.pumpOutOutcome (.aborted .noTank)) (tankAt 100)).water.certain = false := by decide +kernel
theorem test_tank_state : (after (.deposit 1 false) (tankAt 3999)).water.state = .near ∧
    (after (.deposit 0 false) (tankAt 3999)).water.state = .normal ∧
    (after (.deposit 0 true) (tankAt 3800)).water.state = .near ∧ (after (.deposit 1 false) (tankAt 4499)).water.state = .full ∧
    .inhibitClaim .tank ∈ (after (.deposit 1 false) (tankAt 4499)).posts ∧
    .cycleRequest .pumpOut ∈ (after (.deposit 1 false) (tankAt 3999)).posts := by decide +kernel

theorem test_claims_tank : claimsTank .full = true ∧ claimsTank .near = false ∧
    drying.roomsCold = false ∧ drying.forcedOff .compressor = false ∧ (after (.inhibitClaim .airflow) drying).forcedOff .desiccant = true ∧
    (after (.cyclePlan .defrost [{ target := .compressor, value := 0 }]) drying).forcedOff .compressor = true ∧
    (after (.zoneStore 2 .temp 49 .good) drying).roomsCold = true ∧ (after (.zoneStore 2 .temp 50 .good) drying).roomsCold = false ∧
    plant.allocationApplied = true := by decide +kernel
/-! ### Cycles -/

theorem test_cycle_refusal : plant.cycleRefusal .defrost = none ∧ plant.cycleRefusal .pumpOut = none ∧
    quiet.cycleRefusal .regen ≠ none ∧ (running (cycleAt .regen .heat) plant).cycles.has .regen = true ∧
    plant.cycles.has .profile = false ∧ plant.inter.fault = false ∧ plant.param 76 0 = 1 := by decide +kernel
theorem test_cycle_request : (after (.cycleRequest .defrost) plant).cycles.running.map (·.kind) = some .defrost ∧
    (after (.cycleRequest .profile) plant).cycles.running.map (·.step) = some (.settle 1) ∧
    (after (.cycleRequest .regen) (running (cycleAt .defrost .melt) plant)).cycles.queue.map (·.kind) = [.regen] ∧
    (after (.cycleRequest .defrost) (running (cycleAt .regen .heat) plant)).cycles.suspended.map (·.kind) = some .regen ∧
    (after (.cycleRequest .defrost) (plant.setInter { plant.inter with fault := true })).cycles.defrost.outcome =
      .failed .airflow := by decide +kernel
theorem test_fourth_preemption :
    (after (.cycleRequest .defrost) (running { cycleAt .regen .heat with suspends := 3 } plant)).cycles.regen.outcome =
      .aborted .suspendLimit ∧
    (after (.cycleRequest .defrost) (running { cycleAt .regen .heat with suspends := 2 } plant)).cycles.suspended.map (·.suspends) =
      some 3 ∧
    (after (.cycleRequest .pumpOut) (running (cycleAt .profile (.measure 2)) plant)).cycles.suspended.map (·.step) =
      some (.settle 2) ∧ (running (cycleAt .regen .heat) plant).CycleLaw := by decide +kernel
theorem test_request_parameters : (after (.cycleRequest .defrost) plant).cycles.running.map (·.endTemp) = some 50 ∧
    (after (.cycleRequest .pumpOut) plant).cycles.running.map (·.flowTime) = some 30 ∧
    (after (.cycleRequest .pumpOut) plant).cycles.running.map (·.cycleTimer) = some (some 300) := by decide +kernel
theorem test_plans : plant.planOf .melt = [{ target := .compressor, value := 0 }, { target := .heater, value := 0 },
      { target := .blower, value := 3 }, { target := .damper 2 7 0, value := 100 }] ∧
    plant.planOf .heat = [{ target := .heater, value := 50 }, { target := .blower, value := 4 },
      { target := .damper 2 7 0, value := 0 }] ∧
    plant.planOf (.measure 7) = plant.planOf (.settle 7) ∧ plant.banks.damperPort 2 = some (7, 0) := by decide +kernel
theorem test_cycle_advances :
    (after (.cycleOutputChanged .pump 1) (running (cycleAt .pumpOut .prime) plant)).cycles.running.map (·.stepTimer) =
      some (some 30) ∧
    (after (.pumpFlow (some (1, .good))) (running (cycleAt .pumpOut .prime) plant)).cycles.running.map (·.step) = some .drain ∧
    (after .stepTimerExpiry (running (cycleAt .regen .heat) plant)).cycles.running.map (·.step) = some .purge ∧
    (after .stepTimerExpiry (running (cycleAt .profile (.settle 1)) plant)).cycles.running.map (·.step) = some (.measure 1) ∧
    (after (.tankReport { emptyReport with state := .full }) (running (cycleAt .regen .heat) plant)).cycles.running.map (·.held) =
      some true ∧
    (after (.tankReport emptyReport) (running { cycleAt .regen .heat with held := true } plant)).cycles.running.map (·.held) =
      some false := by decide +kernel

/-- A profile measuring step k of 2, PRE fitted, with one sample of 40. -/
def measuring (k : Nat) : State :=
  running { cycleAt .profile (.measure k) with
    profile := { top := 2, fitted := [true, false, false], points := [[], [], []], sums := [(40, 1), (0, 0), (0, 0)],
                 waiting := false } } plant

theorem test_profile_steps : (after .stepTimerExpiry (measuring 1)).cycles.running.map (·.step) = some (.settle 2) ∧
    (after .stepTimerExpiry (measuring 2)).cycles.profile.outcome = .done ∧
    (after (.dpSample .pre (some (2, .good))) (measuring 1)).cycles.running.map (·.profile.sums) = some [(42, 2), (0, 0), (0, 0)] := by
  decide +kernel
/-- A MEASURE of step 1 that waits. -/
def waitingMeasure : State :=
  running { cycleAt .profile (.measure 1) with
    profile := { top := 2, fitted := [true, false, false], points := [[], [], []], sums := [(0, 0), (0, 0), (0, 0)],
                 waiting := true } } plant

theorem test_waiting_measure : (withRows (plantRows 1 0) waitingMeasure).blowerOutput = 1 ∧ waitingMeasure.blowerOutput ≠ 1 ∧
    (after (.dpSample .pre (some (40, .good))) (withRows (plantRows 1 0) waitingMeasure)).cycles.running.map (·.profile.sums) =
      some [(40, 1), (0, 0), (0, 0)] ∧
    (after (.dpSample .pre (some (40, .good))) (withRows (plantRows 1 0) waitingMeasure)).cycles.running.map (·.stepTimer) =
      some (some 30) ∧
    after (.dpSample .pre (some (40, .good))) waitingMeasure = waitingMeasure ∧
    after (.dpSample .fine (some (40, .good))) (withRows (plantRows 1 0) waitingMeasure) = withRows (plantRows 1 0) waitingMeasure := by
  decide +kernel

/-- A REGEN that runs or is held, a PROFILE suspended, a DEFROST queued or none. -/
def heldRegen (held : Bool) (queue : List Cycle) : State :=
  plant.setCycles { plant.cycles with
    running := some { cycleAt .regen .heat with held := held }, tankHold := held, queue := queue
    suspended := some { cycleAt .profile (.settle 2) with
      profile := { top := 2, fitted := [true, false, false], points := [[], [], []], sums := [], waiting := false } } }

theorem test_held_regen_ends : (heldRegen false [Cycle.queued .defrost]).CycleLaw ∧ (heldRegen true []).CycleLaw ∧
    (after (.tankReport { emptyReport with state := .full }) (heldRegen false [Cycle.queued .defrost])).cycles.regen.outcome =
      .aborted .held ∧ (heldRegen true []).cycleRefusal .defrost = none ∧
    (after (.cycleRequest .defrost) (heldRegen true [])).cycles.regen.outcome = .aborted .held := by decide +kernel
theorem test_suspended_resumes :
    (after .stepTimerExpiry ((heldRegen false []).setCycles { (heldRegen false []).cycles with
      running := some (cycleAt .regen .purge) })).cycles.running.map (fun c => (c.kind, c.step, c.stepTimer)) =
      some (.profile, .settle 2, some 20) ∧
    (after (.tankReport emptyReport) ((heldRegen true []).setCycles { (heldRegen true []).cycles with
      suspended := none, running := some { cycleAt .regen .heat with held := true, plan := [{ target := .heater, value := 50 }] } })).posts
      = [.cyclePlan .regen [{ target := .heater, value := 50 }], .regenActive] := by decide +kernel
theorem test_cycle_ends : (running (cycleAt .defrost .melt) plant).CycleLaw ∧ plant.paramInt 77 1 = 50 ∧
    (after (.cycleCoilTemp (some (50, .good))) (running (cycleAt .defrost .melt) plant)).cycles.defrost.outcome = .done ∧
    (after (.cycleCoilTemp (some (49, .good))) (running (cycleAt .defrost .melt) plant)).cycles.defrost.outcome = .none ∧
    (after .cycleTimerExpiry (running { cycleAt .defrost .melt with cycleTimer := some 1 } plant)).cycles.defrost.outcome =
      .doneTimed ∧
    (after .cycleTimerExpiry (running { cycleAt .pumpOut .drain with cycleTimer := some 1 } plant)).cycles.pumpOut.completed = 2 ∧
    (after .stepTimerExpiry (running (cycleAt .pumpOut .prime) plant)).cycles.pumpOut.outcome = .failed .noFlow ∧
    (after .stepTimerExpiry (running (cycleAt .regen .purge) plant)).cycles.regen.outcome = .done ∧
    (after .stepTimerExpiry (running { cycleAt .profile (.measure 1) with
      profile := { (cycleAt .profile (.measure 1)).profile with waiting := true } } plant)).cycles.profile.outcome =
      .failed .noData ∧
    (after (.tankReport emptyReport) (running (cycleAt .pumpOut .drain) plant)).cycles.pumpOut.outcome = .done ∧
    (after (.tankReport { emptyReport with state := .out, empty := false })
      (running (cycleAt .pumpOut .drain) plant)).cycles.pumpOut.outcome = .aborted .noTank := by decide +kernel
theorem test_profile_result :
    (after .stepTimerExpiry (measuring 2)).posts.contains (.profileOutcome .done [some [(2, 40)], none, none]) = true ∧
    (after .airflowLost (measuring 2)).posts.contains (.profileOutcome (.failed .airflow) []) = true := by decide +kernel
theorem test_airflow_lost : (running (cycleAt .regen .heat) plant).CycleLaw ∧
    (after .airflowLost (running (cycleAt .regen .heat) plant)).cycles.regen.outcome = .failed .airflow ∧
    after .airflowLost (running (cycleAt .pumpOut .drain) plant) = running (cycleAt .pumpOut .drain) plant ∧
    (plant.setInter { plant.inter with fault := true }).inter.fault = true := by decide +kernel
theorem test_cycle_run_level : (running (cycleAt .regen .heat) plant).cycles.level ≠ .watch ∧
    (after (.cycleRunLevelChange .watch) (running (cycleAt .regen .heat) plant)).cycles.regen.outcome = .aborted .runLevel ∧
    (after (.cycleRunLevelChange .watch) (running (cycleAt .pumpOut .drain) plant)).cycles.kinds = [.pumpOut] ∧
    (after (.cycleRunLevelChange .halt) (running (cycleAt .pumpOut .drain) plant)).cycles.kinds = [] ∧
    (after (.cycleRunLevelChange .unconfigured) (running (cycleAt .pumpOut .drain) plant)).cycles.kinds = [.pumpOut] := by
  decide +kernel

theorem test_watch_keeps_pump_out :
    (after (.cycleRunLevelChange .watch) ((running (cycleAt .regen .heat) plant).setCycles
      { (running (cycleAt .regen .heat) plant).cycles with queue := [Cycle.queued .pumpOut] })).cycles.running.map
        (fun c => (c.kind, c.step, c.cycleTimer)) = some (.pumpOut, .prime, some 300) ∧
    (after (.cycleRunLevelChange .watch) (running (cycleAt .pumpOut .drain) plant)).cycles.running =
      some (cycleAt .pumpOut .drain) ∧
    (after (.cycleRunLevelChange .watch) plant).cycleRefusal .pumpOut = none ∧
    (running (cycleAt .regen .heat) plant).allocationApplied = false := by decide +kernel

/-! ### Filters -/

/-- The appliance with PRE fitted and a charge. -/
def filterAt (charge : Nat) : State :=
  plant.setFilters { plant.filters with pre := { StageRecord.atReset with fitted := true, charge := charge } }

/-- A record that gives zone 2 an airflow. -/
def given (a : Nat) (applied : Bool) : AllocRecord :=
  { idleRecord with applied := applied, assigned := [0, 0, a, 0, 0, 0, 0, 0] }

theorem test_filter_allocation : ((filterAt 0).filters.stage .pre).fitted = true ∧ (plant.filters.stage .pre).fitted = false ∧
    ((after (.filterAllocation (given 0 true)) (filterAt 8000)).filters.stage .pre).state = .worn ∧
    ((after (.filterAllocation (given 0 true)) (filterAt 7999)).filters.stage .pre).state = .fresh ∧
    ((after (.filterAllocation (given 0 true)) (filterAt 10000)).filters.stage .pre).state = .spent ∧
    ((after (.filterAllocation (given 100 true)) (after (.zoneStore 2 .pmFine 164 .good) (filterAt 16777215))).filters.stage
      .pre).charge = 16777215 ∧
    ((after (.filterAllocation (given 100 true)) (after (.zoneStore 2 .pmFine 164 .good) (filterAt 0))).filters.stage
      .pre).charge = 1000 ∧
    ((after (.filterAllocation (given 100 false)) (filterAt 5)).filters.stage .pre).charge = 5 := by decide +kernel
theorem test_profile_due : (after (.filterAllocation (given 0 true)) ((filterAt 0).setFilters
      { (filterAt 0).filters with baselineReq := false, pre := { (filterAt 0).filters.pre with runSweeps := 1000 } })).posts =
      [.cycleRequest .profile] ∧
    (after (.filterAllocation (given 0 true)) ((filterAt 0).setFilters
      { (filterAt 0).filters with baselineReq := false, pre := { (filterAt 0).filters.pre with runSweeps := 999 } })).posts = [] ∧
    (after (.filterAllocation (given 0 true)) (withRows (plantRows 1 0) ((filterAt 0).setFilters
      { (filterAt 0).filters with baselineReq := false, pre := { (filterAt 0).filters.pre with runSweeps := 999 } }))).posts =
      [.cycleRequest .profile] ∧
    (after (.filterAllocation (given 0 true)) ((filterAt 0).setFilters { (filterAt 0).filters with baselineReq := true })).posts =
      [.cycleRequest .profile] := by decide +kernel
theorem test_rise_and_derate :
    ((after (.profileOutcome .done [some [(1, 60)]]) (after (.profileOutcome .done [some [(1, 40)]])
      (filterAt 0))).filters.stage .pre).verdict = .worn ∧
    rise [(1, 40), (2, 0)] [(1, 30), (2, 90)] = -25 ∧ rise [(1, 40)] [(2, 90)] = 0 ∧ rise [(1, 3)] [(1, 2)] = -33 ∧
    derateOf [(1, 40), (3, 60)] [(1, 90), (3, 80)] = 75 ∧ derateOf [(1, 40)] [(1, 90)] = 50 ∧ derateOf [(1, 40)] [(1, 0)] = 100 ∧
    derateOf [(1, 40)] [(2, 80)] = 100 := by decide +kernel
theorem test_profile_outcome : ((filterAt 0).filters.stage .pre).baseline = none ∧
    ((after (.profileOutcome .done [some [(1, 40)]]) (filterAt 0)).filters.stage .pre).baseline = some [(1, 40)] ∧
    ((after (.profileOutcome .done [some [(1, 80)]]) (after (.profileOutcome .done [some [(1, 40)]])
      (filterAt 0))).filters.stage .pre).verdict = .spent ∧
    ((after (.profileOutcome .done [some [(1, 59)]]) (after (.profileOutcome .done [some [(1, 40)]])
      (filterAt 0))).filters.stage .pre).verdict = .none ∧
    after (.profileOutcome (.failed .noData) []) plant = plant ∧
    (after .filterSwapTaken plant).filters.pre.fitted = true ∧ (after .filterSwapTaken plant).filters.baselineReq = true := by
  decide +kernel

theorem test_filter_news : (after (.filterAllocation (given 0 true)) (filterAt 8000)).posts.contains
      (.conditionPost .filterWorn true) = true ∧
    (after (.profileOutcome .done [some [(1, 80)]]) (after (.profileOutcome .done [some [(1, 40)]]) (filterAt 0))).posts =
      [.conditionPost .filterSpent true] ∧
    (after .filterSwapTaken (plant.setFilters { plant.filters with pre := { plant.filters.pre with charge := 8000 } })).posts =
      [.conditionPost .filterWorn true] := by decide +kernel

/-! ### Banks and start-up -/

/-- The engine about to validate or write page 78 with controller 3, or with controller 30. -/
def committing (writing : Bool) (controller : Nat) : State :=
  plant.setBanks { plant.banks with
    engine := .committing 78 writing
    staging := [(0, 40#16), (1, 1#16), (2, 1#16), (3, word controller), (4, 1#16), (5, 1#16), (6, 1#16), (10, 1#16)]
    marks := List.replicate 64 true }

theorem test_commit : firstFailure 78 ((committing false 30).banks.builtPage 78) = some 3 ∧
    firstFailure 78 ((committing false 3).banks.builtPage 78) = none ∧
    (after .validationComplete (committing false 30)).banks.engine = .idle ∧
    (after .validationComplete (committing false 3)).banks.engine = .committing 78 true ∧ (78 : Nat) < 79 ∧
    (committing true 3).banks.shadow.status.length = 79 ∧
    (after .commitComplete (committing true 3)).banks.shadow.word 78 0 = 40#16 := by decide +kernel
theorem test_commit_canonical : (committing true 3).MemoriesWf := by decide +kernel

theorem test_zero_pages : firstFailure 0 (List.replicate 64 0#16) = none ∧ firstFailure 68 (List.replicate 64 0#16) = none ∧
    firstFailure 64 (List.replicate 64 0#16) = some 0 ∧ firstFailure 69 (List.replicate 64 0#16) = some 1 ∧
    firstFailure 73 (List.replicate 64 0#16) = some 0 ∧ firstFailure 75 (List.replicate 64 0#16) = some 1 ∧
    firstFailure 76 (List.replicate 64 0#16) = some 1 ∧ firstFailure 78 (List.replicate 64 0#16) = some 0 := by decide +kernel
/-- The engine at a page of a copy or an erasure. -/
def engineAt (e : Engine) (page : Nat) : State := plant.setBanks { plant.banks with engine := e, progress := page }

theorem test_copy_erase : (after .copyPageComplete (engineAt .copying 78)).banks.engine = .idle ∧
    (after .copyPageComplete (engineAt .copying 64)).banks.shadow.word 64 10 = 0x8202#16 ∧
    (after .copyPageComplete (engineAt .copying 77)).banks.progress = 78 ∧
    (after .erasePageComplete (engineAt (.erasing true) 64)).banks.progress = 69 ∧
    (after .erasePageComplete (engineAt (.erasing false) 64)).banks.progress = 65 ∧
    (after .erasePageComplete (engineAt (.erasing true) 78)).banks.progress = 79 ∧
    plant.banks.shadow.status.length = 79 ∧ plant.banks.engine = .idle := by decide +kernel

/-- The appliance with a pending swap of a complete shadow. -/
def swapping : State :=
  plant.setBanks { plant.banks with
    b := { mem := [(78 * 64 + 3, 3#16)], status := List.replicate 79 .written, stamp := none }, swapPending := true
    generation := 65535 }

theorem test_swap : swapping.banks.swapPending = true ∧ (after (.banksSweepBegin 0) swapping).banks.live = some .b ∧
    (after .sweepsDisabled swapping).banks.generation = 0 ∧ plant.banks.swapPending = false ∧
    after .sweepsDisabled plant = plant ∧ (after .planRelease plant).banks.live = some .a := by decide +kernel

/-- The loader at a point of its walk. -/
def walking (w : Walk) : State := quiet.setRc { quiet.rc with loader := .loading w }

theorem test_walk_reads : (after (.loaderReadComplete [.ffff, .ffff, .ffff]) (walking .header)).rc.loader = .failed .noMemory 0 ∧
    (after (.loaderReadComplete [0x2808#16, 2#16, 3#16]) (walking .header)).rc.loader = .failed .badSignature 0 ∧
    (after (.loaderReadComplete [0x2808#16, 1#16, 3#16]) (walking .header)).rc.loader = .loading (.descriptor 1 3#16) ∧
    (after (.loaderReadComplete [79#16, 9#16, 0#16]) (walking (.descriptor 1 3#16))).rc.loader = .failed .badPage 1 ∧
    (after (.loaderReadComplete [78#16, 9#16, 0#16]) (walking (.descriptor 1 3#16))).rc.loader =
      .loading (.image 1 78 9#16 0#16) ∧
    firstFailure 0 (List.replicate 64 0xFFFF#16) = none ∧ firstFailure 78 (List.replicate 64 0#16) = some 0 := by
  decide +kernel
theorem test_walk_writes : (after .loaderWriteComplete (walking (.write 127 0 (List.replicate 64 0#16) 9#16))).rc.loader =
      .loading (.descriptor 128 9#16) ∧
    (after .loaderWriteComplete (walking (.write 128 0 (List.replicate 64 0#16) 9#16))).rc.loader = .failed .chainLimit 128 ∧
    (after (.loaderReadComplete (List.replicate 64 0#16)) (walking (.image 1 78 9#16 0#16))).rc.loader = .failed .validate 1 := by
  decide +kernel
theorem test_walk_addresses : (walking .header).cfgAddresses = [0#16, 1#16, 2#16] ∧
    (walking (.descriptor 1 0xFFFE#16)).cfgAddresses = [0xFFFE#16, 0xFFFF#16, 0#16] ∧
    (walking (.image 1 0 0xFFC1#16 0#16)).cfgAddresses[63]? = some 0#16 ∧
    (walking (.write 1 0 [] 0#16)).cfgAddresses = [] ∧ quiet.cfgAddresses = [] := by decide +kernel

/-- The walk of an empty chain with bank A complete. -/
def completeChain : State := (walking .header).setBanks { lastWrite.banks with
  a := lastWrite.banks.a.putPage 78 (0#16 :: 0#16 :: 0#16 :: 3#16 :: List.replicate 60 0#16) .written }

theorem test_chain_end : (walking .header).banks.shadow.complete = false ∧ completeChain.banks.shadow.complete = true ∧
    completeChain.banks.shadow.swapCheck completeChain.ring.own = true ∧
    completeChain.banks.shadow.swapCheck 3 = false ∧
    (after (.loaderReadComplete [0x2808#16, 1#16, 0#16]) (walking .header)).rc.loader = .failed .incomplete 0 ∧
    (after (.loaderReadComplete [0x2808#16, 1#16, 0#16])
      (completeChain.setRing { completeChain.ring with own := 3 })).rc.loader = .failed .swapCheck 0 ∧
    (after (.loaderReadComplete [0x2808#16, 1#16, 0#16]) completeChain).banks.live = some .a ∧
    (after .loaderWriteComplete (walking (.write 79 78 (List.replicate 64 0#16) 0#16))).rc.loader = .failed .incomplete 79 ∧
    (after .loaderWriteComplete (lastWrite.setRing { lastWrite.ring with own := 3 })).rc.loader = .failed .swapCheck 79 := by
  decide +kernel
theorem test_chain_write : lastWrite.MemoriesWf ∧ lastWrite.banks.shadow.status.length = 79 ∧
    (after .loaderWriteComplete (walking (.write 1 78 (List.replicate 64 7#16) 9#16))).banks.a.word 78 63 = 7#16 ∧
    (after .loaderWriteComplete (walking (.write 1 78 (List.replicate 64 7#16) 9#16))).banks.a.pageStatus 78 = .written := by
  decide +kernel
theorem test_run_level : plant.rc.level ≠ .watch ∧ (after (.wakeEvent .rh 700) plant).posts = [.flagSetClaim .wake] ∧
    (after (.wakeEvent .rh 700) ((atLevel .watch plant).setRc { plant.rc with level := .watch, wake := true })).rc.level = .active ∧
    (live tables).rc.level = .unconfigured ∧ (after .rcSwapTaken (live tables)).rc.level = .active ∧
    (after .rcSwapTaken (live [cell 78 10 2])).rc.level = .watch ∧ (after .rcSwapTaken (live [cell 78 10 3])).rc.level = .halt := by
  decide +kernel

/-! ### Management -/

theorem test_flag_record : plant.mu.maskFlags.getLsbD 2 = true ∧ (after (.flagSetClaim .frameErr) plant).mu.flags = 4#16 ∧
    (after (.flagSetClaim .frameErr) plant).ring.origin = [.note 3 0 4#16 0#16 .active] ∧
    (after (.conditionPost .unconfigured true) plant).mu.conditions = 0x0200#16 ∧
    (after (.conditionPost .tankNear false) (plant.setMu { plant.mu with conditions := 1#16 })).ring.origin = [] ∧
    (after (.muRunLevelChange .halt) plant).mu.level = .halt ∧
    (after (.flagSetClaim .wake) (plant.setRing { plant.ring with origin := List.replicate 24 (.act 1 1 1 1 1) })).mu.owed = true := by
  decide +kernel

/-- The hypotheses of a request's statement. -/
def serves (code : Nat) (payload : List Word) (s : State) : Prop := (asked payload s).Serves code (request payload) []

theorem test_serves_reads : serves 0x01 [0x0100#16, 7#16] plant ∧ serves 0x05 [0x0500#16, 7#16, 3#16] plant ∧
    serves 0x06 [0x0600#16, 2#16, 5#16] plant ∧ serves 0x09 [0x0900#16, 1#16] plant ∧
    serves 0x0A [0x0A00#16, 4#16, 2#16] plant ∧ serves 0x15 [0x1500#16, 0#16, 78#16, 59#16, 5#16] plant ∧
    serves 0x15 [0x1500#16, 1#16, 78#16, 63#16, 1#16] plant := by
  unfold serves
  refine ⟨?_, ?_, ?_, ?_, ?_, ?_, ?_⟩ <;> decide +kernel

/-- The answer a request row puts at the tail of the Origin Queue. -/
def answer (c : Instr) (payload : List Word) (s : State) : Option OriginFrame := (after c (asked payload s)).ring.origin.getLast?

/-- The answer in the appliance's ring, echo first. -/
def reply (payload : List Word) : Option OriginFrame := some (.mrsp 3 0 payload false)

theorem test_reads : answer .readStatus [0x0100#16, 0#16] plant = reply [0x0100#16, 0#16, 1#16, 0#16, 0#16, 0#16, 0xFFFF#16] ∧
    answer .readTank [0x0900#16, 0#16] (tankAt 9) = reply [0x0900#16, 0#16, 0#16, 0x0012#16, 9#16, 0xFFFF#16] ∧
    answer .readTable [0x1500#16, 0#16, 78#16, 3#16, 1#16] plant = reply [0x1500#16, 0#16, 1#16, 3#16] ∧
    answer .readTable [0x1500#16, 1#16, 78#16, 63#16, 1#16] plant = reply [0x1500#16, 0#16, 0#16, 0#16] := by decide +kernel
theorem test_reads_of_records : answer .readZone [0x0500#16, 2#16, 0#16] plant =
      reply [0x0500#16, 0#16, 2#16, 5#16, 0xFFFF#16, 0#16, 0#16, 0#16] ∧
    answer .readFilter [0x0600#16, 0#16, 0#16] (filterAt 65537) = reply [0x0600#16, 0#16, 1#16, 1#16, 1#16, 0#16, 8000#16] ∧
    answer .readCycle [0x0A00#16, 1#16, 0#16] plant = reply [0x0A00#16, 0#16, 0#16, 0xFFFF#16, 0#16] := by decide +kernel
theorem test_status_answered : (asked [0x0100#16, 7#16] plant).MayStart (request [0x0100#16, 7#16]) [] ∧
    answer .readStatus [0x0100#16, 0#16] (walking .header) =
      reply [0x0100#16, 0#16, 0#16, 1#16, 0#16, 0#16, 0xFFFF#16] ∧
    answer .readStatus [0x0100#16, 6#16] plant = reply [0x0100#16, 0#16, 0#16, 1#16, 0#16, 0#16, 0#16] ∧
    answer .readStatus [0x0100#16, 7#16] plant = reply [0x0100#16, 0#16, 0#16, 0xFFFF#16, 0xFFFF#16] ∧
    answer .readStatus [0x0100#16, 0#16] (plant.setLines { plant.lines with setup := true }) =
      some (.mrsp 3 30 [0x0100#16, 0#16, 0x0021#16, 0#16, 0#16, 0#16, 0xFFFF#16] false) := by decide +kernel
theorem test_cycle_parts : answer .readCycle [0x0A00#16, 1#16, 1#16] threeCycles =
      reply [0x0A00#16, 0#16, 1#16, 0#16, 5#16, 0#16, 0#16] ∧
    answer .readCycle [0x0A00#16, 3#16, 1#16] threeCycles = reply [0x0A00#16, 0#16, 0#16, 3#16, 0xFFFF#16, 0#16, 0#16] ∧
    answer .readCycle [0x0A00#16, 4#16, 1#16] threeCycles = reply [0x0A00#16, 0#16, 2#16, 18#16, 0xFFFF#16, 0#16, 0#16] ∧
    answer .readCycle [0x0A00#16, 2#16, 1#16] threeCycles = reply [0x0A00#16, 0#16, 0xFFFF#16, 0#16, 0#16, 0#16, 0#16] ∧
    answer .readCycle [0x0A00#16, 4#16, 2#16] threeCycles = reply [0x0A00#16, 0#16, 0x0401#16, 3#16, 2#16] := by decide +kernel
theorem test_table_refusals : answer .readTable [0x1500#16, 0#16, 79#16, 3#16, 1#16] plant = reply [0x1500#16, 0x0502#16] ∧
    answer .readTable [0x1500#16, 0#16, 78#16, 3#16, 1#16] quiet = reply [0x1500#16, 0x050A#16] ∧
    answer .readTable [0x1500#16, 1#16, 78#16, 3#16, 1#16] (engineAt .copying 5) = reply [0x1500#16, 0x0200#16, 0x0502#16] := by
  decide +kernel
theorem test_serves_requests : serves 0x02 [0x0200#16, 0xFFFF#16, 0#16] plant ∧ serves 0x03 [0x0300#16, 1#16, 2#16] plant ∧
    serves 0x04 [0x0400#16, 0#16] plant ∧ serves 0x07 [0x0700#16, 0#16, 255#16, 0#16] (filterAt 0) ∧
    serves 0x08 [0x0800#16, 0#16] (filterAt 0) ∧ serves 0x0B [0x0B00#16, 1#16] plant ∧ serves 0x0C [0x0C00#16, 1#16] plant ∧
    serves 0x0D [0x0D00#16, 1#16] plant ∧ serves 0x0E [0x0E00#16, 2#16, 1#16] plant ∧ serves 0x17 [0x1700#16] plant := by
  unfold serves
  refine ⟨?_, ?_, ?_, ?_, ?_, ?_, ?_, ?_, ?_, ?_⟩ <;> decide +kernel
theorem test_flag_requests : (after .ackFlags (asked [0x0200#16, 1#16, 0#16] (plant.setMu { plant.mu with flags := 5#16 }))).mu.flags
      = 4#16 ∧
    (after .setNoteMask (asked [0x0300#16, 0xFFFF#16, 0xFFFF#16] plant)).mu.maskConditions = 0x03FF#16 ∧
    answer .ackFlags [0x0200#16, 1#16, 0#16] (plant.setMu { plant.mu with flags := 5#16 }) =
      reply [0x0200#16, 0#16, 4#16, 0#16] := by decide +kernel
theorem test_clear_fault : (drying.setInter { drying.inter with fault := true }).inter.fault = true ∧
    (after .clearFault (asked [0x0400#16, 0#16] (drying.setInter { drying.inter with fault := true }))).inter.fault = false ∧
    (after .clearFault (asked [0x0400#16, 1#16] (plant.setWater { plant.water with pumpFault := true }))).water.pumpFault = false :=
  by decide +kernel

theorem test_clear_pump_fault : (tankAt 3999).pumpFitted = true ∧
    (after .clearFault (asked [0x0400#16, 1#16] ((tankAt 3999).setWater
      { (tankAt 3999).water with state := .near, pumpFault := true }))).posts.contains (.cycleRequest .pumpOut) = true ∧
    (after .clearFault (asked [0x0400#16, 1#16] (tankAt 9))).posts = [(tankAt 9).tankReport none] ∧
    (after .clearFault (asked [0x0400#16, 0#16] drying)).inter = drying.inter := by decide +kernel
/-- PRE worn with its door opened since. -/
def wornPre : State :=
  plant.setFilters { plant.filters with
    pre := { StageRecord.atReset with fitted := true, state := .worn, charge := 8000, doorOpened := true } }

theorem test_filter_requests : (wornPre.filters.stage .pre).state = .worn ∧ wornPre.filters.door = false ∧
    (after .filterReset (asked [0x0800#16, 0#16] wornPre)).filters.pre.charge = 0 ∧
    answer .filterReset [0x0800#16, 0#16] (filterAt 0) = reply [0x0800#16, 0x0507#16] ∧
    (after .setFilterCharge (asked [0x0700#16, 0#16, 255#16, 0xFFFF#16] (filterAt 0))).filters.pre.charge = 16777215 := by
  decide +kernel
theorem test_cycle_requests : answer .requestCycle [0x0B00#16, 1#16] plant = reply [0x0B00#16, 0x0100#16] ∧
    answer .requestCycle [0x0B00#16, 3#16] (running (cycleAt .regen .heat) plant) = reply [0x0B00#16, 0x0300#16] ∧
    (running (cycleAt .regen .heat) plant).CycleLaw ∧ (running (cycleAt .regen .heat) plant).cycles.has .regen = true ∧
    (after .abortCycle (asked [0x0C00#16, 3#16] (running (cycleAt .regen .heat) plant))).cycles.regen.outcome = .aborted .host := by
  decide +kernel
theorem test_requests_refused : answer .abortCycle [0x0C00#16, 1#16] plant = reply [0x0C00#16, 0x0508#16] ∧
    (plant.filters.stage .pre).fitted = false ∧
    answer .setFilterCharge [0x0700#16, 0#16, 0#16, 1#16] plant = reply [0x0700#16, 0x050A#16] ∧
    answer .filterReset [0x0800#16, 0#16] plant = reply [0x0800#16, 0x0507#16] ∧
    answer .setRunLevel [0x0E00#16, 1#16, 0#16] (atLevel .unconfigured plant) = reply [0x0E00#16, 0x050A#16] ∧
    answer .requestCycle [0x0B00#16, 2#16] (plant.setWater { plant.water with pumpFault := true }) =
      reply [0x0B00#16, 0x0509#16] ∧
    answer .requestCycle [0x0B00#16, 1#16] (plant.setCycles { plant.cycles with door := true }) = reply [0x0B00#16, 0x050A#16] ∧
    answer .requestCycle [0x0B00#16, 4#16] (running (cycleAt .defrost .melt) plant) = reply [0x0B00#16, 0#16] := by
  decide +kernel
theorem test_level_requests : (after .setRegime (asked [0x0D00#16, 1#16] plant)).trans.night = true ∧
    (after .setRunLevel (asked [0x0E00#16, 2#16, 1#16] plant)).rc.level = .watch ∧
    (after .setRunLevel (asked [0x0E00#16, 2#16, 1#16] plant)).rc.wake = true ∧
    (after .softReset (asked [0x1700#16] plant)).mu.softWait = true := by decide +kernel

/-- The appliance in setup mode. -/
def inSetup : State := plant.setLines { plant.lines with setup := true }

theorem test_setup_mode : (asked [0x1600#16, 29#16] inSetup).lines.setup = true ∧ inSetup.ring.placeFree = true ∧
    (after .setAddress (asked [0x1600#16, 29#16] inSetup)).ring.own = 29 ∧
    (after .setAddress (asked [0x1600#16, 29#16] inSetup)).ring.origin = [.mrsp 3 30 [0x1600#16, 0#16] false] ∧
    (after .ackFlags (asked [0x0200#16, 1#16, 0#16] inSetup)).ring.origin = [] ∧
    (after .swapBanks (asked [0x1400#16] inSetup)).mu.queue = [] := by decide +kernel
theorem test_refusals : answer .unassignedRequest [0x1800#16] plant = reply [0x1800#16, 0x050B#16] ∧
    answer .unassignedRequest [] plant = reply [0#16, 0x050B#16] ∧
    answer .setRegime [0x0D00#16, 1#16] (walking .header) = reply [0x0D00#16, 0x0400#16] ∧
    answer .setRegime [0x0D00#16, 1#16] (live [cell 78 3 4]) = reply [0x0D00#16, 0x0501#16] ∧
    answer .setRegime [0x0D00#16, 2#16] plant = reply [0x0D00#16, 0x050B#16] ∧
    answer .swapBanks [0x1400#16] swapping = reply [0x1400#16, 0x0200#16, 0x8000#16] ∧
    answer .setRegime [0x1400#16] plant = none := by decide +kernel
theorem test_setup_removes : (asked [0x1800#16] inSetup).MayStart (request [0x1800#16]) [] ∧
    commandOf false (request [0x1800#16]) = .unassignedRequest ∧ commandOf true (request [0x1100#16]) = .commitPage true ∧
    (after .unassignedRequest (asked [0x1800#16] (inSetup.setMu { plant.mu with owed := true }))).posts = [.noteOwedOffer] ∧
    (after .unassignedRequest (asked [] inSetup)).mu.queue = [] ∧
    (after .setAddress (asked [0x1600#16, 30#16] inSetup)).ring.origin = [.mrsp 3 30 [0x1600#16, 0x050B#16] false] := by
  decide +kernel
theorem test_fit_arguments : (¬ (request [0x1600#16, 30#16]).Fits) ∧ (¬ (request [0x0100#16, 8#16]).Fits) ∧
    (request [0x1500#16, 1#16, 0#16, 59#16, 5#16]).Fits ∧ (¬ (request [0x1500#16, 1#16, 0#16, 60#16, 5#16]).Fits) ∧
    (request [0x0F00#16, 63#16, 1#16]).Fits := by
  simp [Request.Fits, request, Request.code, Request.args, Request.arg, bits]
theorem test_refused_rows : answer .setAddress [0x1600#16, 29#16] plant = reply [0x1600#16, 0x050A#16] ∧
    answer .readStatus [0x0100#16, 0#16] (live [cell 78 3 4]) = reply [0x0100#16, 0x0501#16] ∧
    answer .softReset [0x1700#16] (walking .header) = reply [0x1700#16, 0x0400#16] ∧
    answer .unassignedRequest [0x0000#16] (walking .header) = reply [0#16, 0x050B#16] ∧
    answer (.eraseShadow true) [0x1300#16] (engineAt .copying 78) = reply [0x1300#16, 0x0200#16, 0x4E02#16] ∧
    (after (.eraseShadow true) (asked [0x1300#16] (engineAt .copying 78))).lines.calEn = true ∧
    plant.headRequest = none ∧ (∀ cal, Instr.readTank ≠ commandOf cal (request [0x0100#16, 0#16])) := by decide +kernel
theorem test_serves_store : serves 0x0F [0x0F00#16, 63#16, 7#16] plant ∧ serves 0x10 [0x1000#16] plant ∧
    serves 0x11 [0x1100#16, 78#16] plant ∧ serves 0x12 [0x1200#16] plant ∧ serves 0x13 [0x1300#16] plant ∧
    serves 0x14 [0x1400#16] plant := by
  unfold serves
  refine ⟨?_, ?_, ?_, ?_, ?_, ?_⟩ <;> decide +kernel
theorem test_staging : (after .loadStaging (asked [0x0F00#16, 63#16, 7#16] plant)).banks.staging = [(63, 7#16)] ∧
    (after .loadStaging (asked [0x0F00#16, 63#16, 7#16] plant)).banks.marks.getD 63 false = true ∧
    (after .loadStaging (asked [0x0F00#16, 63#16, 7#16] plant)).banks.marks.getD 62 true = false ∧
    answer .loadStaging [0x0F00#16, 63#16, 7#16, 7#16] plant = reply [0x0F00#16, 0x050B#16] ∧
    (after .clearStaging (asked [0x1000#16] plant)).banks.marks = List.replicate 64 false := by decide +kernel
theorem test_store_requests : (after (.commitPage true) (asked [0x1100#16, 65#16] plant)).banks.engine = .committing 65 false ∧
    answer (.commitPage false) [0x1100#16, 65#16] plant = reply [0x1100#16, 0x0503#16] ∧
    answer (.commitPage false) [0x1100#16, 68#16] plant = reply [0x1100#16, 0x0503#16] ∧
    (after (.commitPage false) (asked [0x1100#16, 64#16] plant)).banks.engine = .committing 64 false ∧
    (after (.commitPage false) (asked [0x1100#16, 69#16] plant)).banks.engine = .committing 69 false ∧
    (after .copyLive (asked [0x1200#16] plant)).banks.engine = .copying ∧
    (after (.eraseShadow false) (asked [0x1300#16] plant)).banks.engine = .erasing true := by decide +kernel

theorem test_store_refused : answer (.commitPage true) [0x1100#16, 79#16] plant = reply [0x1100#16, 0x0502#16] ∧
    quiet.isLive = false ∧ (after .copyLive (asked [0x1200#16] quiet)).ring.origin.map (·.words.getD 3 0#16) = [0x050A#16] := by
  decide +kernel

/-- The appliance with a complete shadow, no swap pending. -/
def complete : State := swapping.setBanks { swapping.banks with swapPending := false }

theorem test_swap_requests : plant.banks.shadow.complete = false ∧ complete.banks.shadow.complete = true ∧
    complete.banks.shadow.swapCheck complete.ring.own = true ∧ complete.ring.enabled = true ∧
    (complete.setRing { complete.ring with own := 3 }).banks.shadow.swapCheck 3 = false ∧
    (after .swapBanks (asked [0x1400#16] complete)).banks.swapPending = true ∧
    (after .swapBanks (asked [0x1400#16] (complete.setRing { complete.ring with enabled := false }))).banks.live = some .b := by
  decide +kernel

/-- A bank whose Node Map has these words. -/
def mapped (ws : List (Nat × Word)) : Bank := { mem := ws, status := List.replicate 79 .written, stamp := none }

theorem test_swap_check : (mapped [cell 64 0 0x830F, cell 64 62 0x830F, cell 78 3 1]).swapCheck 0 = false ∧
    (mapped [cell 64 0 0x8200, cell 64 62 0x8200, cell 78 3 1]).swapCheck 0 = false ∧
    (mapped [cell 64 0 0x8200, cell 64 62 0x8201, cell 78 3 1]).swapCheck 0 = true ∧
    (mapped [cell 64 0 0x820F, cell 64 62 0x820F, cell 78 3 1]).swapCheck 0 = true ∧
    (mapped [cell 64 0 0x830F, cell 64 62 0x030F, cell 78 3 1]).swapCheck 0 = true ∧ (mapped []).swapCheck 0 = false := by
  decide +kernel

/-! ### Laws that every step keeps -/

theorem test_rows_distinct : drying.RowsDistinct ∧ (after .interlockSwapTaken drying).RowsDistinct := by decide +kernel

/-- The loader done with page 78 only, which passes; no bank is live. -/
def onePage : State :=
  quiet.setBanks { Banks.atReset with
    a := { mem := [cell 78 0 40, cell 78 1 1, cell 78 2 1, cell 78 3 3, cell 78 4 1, cell 78 5 1, cell 78 6 1, cell 78 10 1]
           status := (List.replicate 79 .empty).set 78 .written, stamp := none } }

theorem test_one_page_valid : (∀ p, p < 79 → onePage.banks.a.status[p]? = some .written →
      firstFailure p (onePage.banks.a.page p) = none) ∧
    (∀ p, p < 79 → onePage.banks.b.status[p]? = some .written → firstFailure p (onePage.banks.b.page p) = none) ∧
    onePage.MemoriesWf ∧ onePage.BankLaw ∧ onePage.TankLaw := by decide +kernel
theorem test_tables_valid : onePage.TablesValid := by
  refine ⟨fun id p hp h => ?_, fun p w h => ?_, fun h => ?_, fun i p image next h => ?_, fun i p a next h => ?_, fun h => ?_⟩
  · cases id
    · exact test_one_page_valid.1 p hp h
    · exact test_one_page_valid.2.1 p hp h
  all_goals exact absurd h (by simp [onePage, quiet, State.reset, State.atReset, State.setBanks, State.setPosts, Banks.atReset,
    RunControl.atReset, Lines.quiet, Loader.isLoading])
theorem test_filter_law : plant.banks.live ≠ none ∧ (after .filterSwapTaken plant).filters.pre.state = .fresh ∧
    ((after (.filterAllocation (given 0 true)) (filterAt 8000)).filters.stage .pre).state = .worn ∧
    .filterSwapTaken ∈ (after (.banksSweepBegin 0) swapping).posts := by decide +kernel
theorem test_filter_law_holds : swapping.banks.live ≠ none ∧ (after (.banksSweepBegin 0) swapping).FilterLaw := by
  refine ⟨by decide +kernel, fun h => absurd h (by decide +kernel), Or.inl (by decide +kernel)⟩
theorem test_floor_or_swap : drying.FloorLaw ∧ .interlockSwapTaken ∈ (after (.banksSweepBegin 0) swapping).posts := by
  decide +kernel

end Sys2Proof.Tests
end

section
/-! The sweep timer (R16) and the sweep close (R44, R45): what an expiry gives in each of its three cases. -/

namespace Sys2Proof.Machine

/-! ### What the posts leave unchanged -/

@[simp] theorem State.setPosts_param (s : State) (x : List Instr) (page offset : Nat) :
    (s.setPosts x).param page offset = s.param page offset := rfl
@[simp] theorem State.setPosts_answering (s : State) (x : List Instr) : (s.setPosts x).answering = s.answering := rfl
@[simp] theorem State.setPosts_sweepPeriod (s : State) (x : List Instr) : (s.setPosts x).sweepPeriod = s.sweepPeriod := rfl

theorem State.post_post (s : State) (es fs : List Instr) : (s.post es).post fs = s.post (es ++ fs) := by simp

/-! ### An expiry by the outstanding mark (R16) -/

/-- R16: the ring once its next POLL is placed in the slot, from this source and with this sweep period. -/
def Ring.polled (src period : Nat) (r : Ring) : Ring :=
  { r with
    slot := some { src := src, number := r.nextNumber, watch := r.level == .watch }
    outstanding := some r.nextNumber
    late := 0
    nextNumber := (r.nextNumber + 1) % 256
    timer := some period
    lastBegin := some r.nextNumber }

theorem State.originate_eq (s : State) :
    s.originate = (s.setRing (s.ring.polled s.answering s.sweepPeriod)).post
      [.banksSweepBegin s.ring.nextNumber, .interlockSweepBegin s.ring.nextNumber] := rfl

theorem State.sweepExpiry_of_none (s : State) (h : s.ring.outstanding = none) : s.sweepExpiry = s.originate := by
  simp only [State.sweepExpiry, h]

theorem State.sweepExpiry_of_late_lt (s : State) (n : Nat) (h : s.ring.outstanding = some n) (hl : s.ring.late < 2) :
    s.sweepExpiry = s.setRing { s.ring with late := s.ring.late + 1, timer := some s.sweepPeriod } := by
  simp only [State.sweepExpiry, h, if_pos hl]

/-- R16: the third late expiry posts the LOST close ahead of the two sweep begins of the next POLL, whose outstanding mark
replaces the one the close cleared. -/
theorem State.sweepExpiry_of_two_le_late (s : State) (n : Nat) (h : s.ring.outstanding = some n) (hl : 2 ≤ s.ring.late) :
    s.sweepExpiry = (s.setRing (s.ring.polled s.answering s.sweepPeriod)).post
      [.sweepClose n false, .banksSweepBegin s.ring.nextNumber, .interlockSweepBegin s.ring.nextNumber] :=
  calc s.sweepExpiry
    _ = ((s.setRing { s.ring with outstanding := none }).post [.sweepClose n false]).originate := by
      simp only [State.sweepExpiry, h, if_neg (Nat.not_lt.mpr hl)]
    _ = ((s.setRing (s.ring.polled s.answering s.sweepPeriod)).post [.sweepClose n false]).post
          [.banksSweepBegin s.ring.nextNumber, .interlockSweepBegin s.ring.nextNumber] := rfl
    _ = _ := State.post_post _ _ _

/-! ### The two commands -/

/-- R16: the expiry of a running sweep timer occurs. -/
theorem exec_sweepTimerExpiry (s : State) (hheld : s.held = false) (hrun : s.ring.timer.isSome = true) :
    exec .sweepTimerExpiry s = .next (s.took .sweepTimerExpiry).sweepExpiry := by
  show execSweepTimerExpiry s = _
  rw [execSweepTimerExpiry, taking_awake s _ _ hheld, State.setPosts_ring, if_pos hrun]

/-- R44, R45: a sweep close reaches every zone the same way, COMPLETE or LOST, and a zone review is posted. -/
theorem exec_sweepClose (s : State) (n : Nat) (complete : Bool) (hheld : s.held = false) :
    exec (.sweepClose n complete) s =
      .next (((s.took (.sweepClose n complete)).setZones (s.zones.map (Zone.closeSweep n (s.param 78 4)))).post
        [.zoneReview n]) := by
  show execSweepClose n complete s = _
  rw [execSweepClose, taking_awake s _ _ hheld, State.setPosts_zones, State.setPosts_param]

/-- Settles O14, by the outstanding mark and the late count (R16). -/
theorem sweepExpiryOriginatesOrCounts : Obligations.SweepExpiryOriginatesOrCounts := by
  intro s u period hheld hrun hu hperiod
  have hring : u.ring = s.ring := by rw [hu, State.setPosts_ring]
  have hans : u.answering = s.answering := by rw [hu, State.setPosts_answering]
  have hp : u.sweepPeriod = period := by rw [hu, State.setPosts_sweepPeriod, hperiod, State.sweepPeriod]
  rw [exec_sweepTimerExpiry s hheld hrun, ← hu]
  refine ⟨fun hnone => ?originates, fun n hout hlate => ?counts, fun n hout hlate => ?lost, fun n => ?closes⟩
  case originates =>
    rw [State.sweepExpiry_of_none u (hring ▸ hnone), State.originate_eq, hring, hans, hp, Ring.polled]
  case counts =>
    rw [State.sweepExpiry_of_late_lt u n (hring ▸ hout) (hring ▸ hlate), hring, hp]
  case lost =>
    rw [State.sweepExpiry_of_two_le_late u n (hring ▸ hout) (hring ▸ hlate), hring, hans, hp, Ring.polled]
  case closes =>
    exact ⟨_, _, exec_sweepClose s n false hheld, exec_sweepClose s n true hheld, by simp, by simp, by simp⟩

end Sys2Proof.Machine
end

section
/-! The Zone Table at a full reset (R56), and the head a zone gains at a swap (R55). -/

namespace Sys2Proof.Machine

/-! ### The full reset (R9, R56, R180) -/

/-- R9: a completed power-on gives every block its full reset state, by the straps and the lines as they stand. -/
theorem exec_powerOn (x : Straps) (s : State) :
    exec (.powerOn x) s = .next (State.atReset (s.lines.withStraps x) s.free s.pending) := rfl

/-- R180: an RST_N release gives the same state as a completed power-on. -/
theorem exec_rstNRelease (x : Straps) (s : State) :
    exec (.rstNRelease x) s = .next (State.atReset (s.lines.withStraps x) s.free s.pending) := rfl

@[simp] theorem State.atReset_zones (l : Lines) (free : Nat) (pending : List Instr) :
    (State.atReset l free pending).zones = List.replicate 8 .absentZone := rfl
@[simp] theorem State.atReset_posts (l : Lines) (free : Nat) (pending : List Instr) :
    (State.atReset l free pending).posts = resetPosts l.door l.float := rfl

/-- §3.1: every reading of a fresh Zone Record is fresh. -/
theorem Zone.fresh_reading (st : ZoneState) (head : Option Nat) (f : ZoneField) :
    (Zone.fresh st head).readings.get f = .fresh := by
  cases f <;> rfl

/-- R56: what the blocks post as a full reset completes asks for no zone review. -/
theorem zoneReview_notMem_resetPosts (door float : Bool) (n : Nat) : .zoneReview n ∉ resetPosts door float := by
  cases float with
  | false => simp [resetPosts]
  | true => simp [resetPosts]

/-! ### The swap (R55) -/

@[simp] theorem State.setPosts_swapZone (s : State) (x : List Instr) (i : Nat) (z : Zone) :
    (s.setPosts x).swapZone i z = s.swapZone i z := rfl

/-- R55: a swap brings each zone up to date by its own number. -/
theorem exec_zoneSwapTaken (s : State) (hheld : s.held = false) :
    exec .zoneSwapTaken s =
      .next ((s.took .zoneSwapTaken).setZones (s.zones.zipIdx.map fun x => s.swapZone x.2 x.1)) := by
  show execZoneSwapTaken s = _
  rw [execZoneSwapTaken, taking_awake s _ _ hheld]
  simp only [State.took, State.setPosts_zones, State.setPosts_swapZone]

/-- R55: a zone whose HEAD address is new starts afresh, WAITING. -/
theorem State.swapZone_of_head_ne (s : State) (i a : Nat) (z : Zone) (hhead : s.banks.headOf i = some a)
    (hnew : z.head ≠ some a) : s.swapZone i z = Zone.fresh .waiting (some a) := by
  simp only [State.swapZone, hhead, if_neg hnew]

/-- The zone at a number once every zone is changed by its number. -/
theorem State.zone_setZones_zipIdx_map (s : State) (zs : List Zone) (f : Nat → Zone → Zone) (i : Nat) (z : Zone)
    (hz : zs[i]? = some z) : (s.setZones (zs.zipIdx.map fun x => f x.2 x.1)).zone i = f i z := by
  simp [State.zone, List.getD_eq_getElem?_getD, List.getElem?_zipIdx, hz]

/-- Settles O7, by the reset state's eight fresh ABSENT zones (R56) and the swap of a zone without a head (R55). -/
theorem zoneTableAfterFullReset : Obligations.ZoneTableAfterFullReset := by
  refine ⟨fun x s => ⟨_, exec_powerOn x s, exec_rstNRelease x s, rfl, ?length, fun z hz => ?fresh, fun n => ?posts⟩,
    fun s i a hheld hi hzones hhead => ⟨_, exec_zoneSwapTaken s hheld, ?gains⟩⟩
  case length => rw [State.atReset_zones, List.length_replicate]
  case fresh =>
    rw [State.atReset_zones] at hz
    obtain rfl : z = .absentZone := List.eq_of_mem_replicate hz
    exact ⟨rfl, rfl, rfl, rfl, rfl, rfl, rfl, rfl, rfl, rfl, rfl, Zone.fresh_reading .absent none⟩
  case posts =>
    rw [State.atReset_posts]
    exact zoneReview_notMem_resetPosts _ _ n
  case gains =>
    have hz : s.zones[i]? = some .absentZone := by rw [hzones, List.getElem?_replicate_of_lt hi]
    have hnone : Zone.absentZone.head ≠ some a := Option.some_ne_none a |>.symm
    rw [State.zone_setZones_zipIdx_map _ _ s.swapZone i _ hz, State.swapZone_of_head_ne s i a _ hhead hnone]
    exact ⟨rfl, rfl⟩

end Sys2Proof.Machine
end

section
/-! The Service Order of a review (R60): an insertion sort of the zones that ask for air. -/

namespace Sys2Proof.Machine

/-! ### The order of two zones (R60) -/

section
variable {demand age : Nat → Nat} {x y z : Nat}

theorem ahead_iff : ahead demand age x y = true ↔
    demand y < demand x ∨ demand x = demand y ∧ (age y < age x ∨ age x = age y ∧ x < y) := by
  simp only [ahead, Bool.or_eq_true, Bool.and_eq_true, decide_eq_true_eq]

theorem ahead_trans (hxy : ahead demand age x y = true) (hyz : ahead demand age y z = true) :
    ahead demand age x z = true := by
  rw [ahead_iff] at *
  omega

/-- The zone number breaks every tie: of two zones, one goes ahead. -/
theorem ahead_of_not_ahead (hne : x ≠ y) (hxy : ¬ ahead demand age x y = true) : ahead demand age y x = true := by
  rw [ahead_iff] at *
  omega

end

/-! ### The Service Order as an insertion sort -/

theorem insertZone_eq_orderedInsert (demand age : Nat → Nat) (x : Nat) (l : List Nat) :
    insertZone demand age x l = l.orderedInsert (ahead demand age · ·) x := by
  induction l with
  | nil => rfl
  | cons y ys ih => rw [insertZone, List.orderedInsert_cons, ih]

theorem serviceOrder_eq_insertionSort (demand age : Nat → Nat) :
    serviceOrder demand age =
      ((List.range 8).filter (0 < demand ·)).reverse.insertionSort (ahead demand age · ·) := by
  simp only [serviceOrder, List.insertionSort, List.foldr_reverse, List.foldl_filter, decide_eq_true_eq,
    insertZone_eq_orderedInsert]

theorem serviceOrder_perm (demand age : Nat → Nat) :
    (serviceOrder demand age).Perm ((List.range 8).filter (0 < demand ·)) := by
  rw [serviceOrder_eq_insertionSort]
  exact (List.perm_insertionSort _ _).trans (List.reverse_perm _)

theorem mem_serviceOrder {demand age : Nat → Nat} {z : Nat} :
    z ∈ serviceOrder demand age ↔ z < 8 ∧ 0 < demand z := by
  rw [(serviceOrder_perm demand age).mem_iff, List.mem_filter, List.mem_range, decide_eq_true_eq]

theorem nodup_serviceOrder (demand age : Nat → Nat) : (serviceOrder demand age).Nodup :=
  (serviceOrder_perm demand age).nodup_iff.mpr (List.nodup_range.filter _)

theorem length_serviceOrder_le (demand age : Nat → Nat) : (serviceOrder demand age).length ≤ 8 :=
  calc (serviceOrder demand age).length
    _ = ((List.range 8).filter (0 < demand ·)).length := (serviceOrder_perm demand age).length_eq
    _ ≤ (List.range 8).length := List.length_filter_le _ _
    _ = 8 := List.length_range

/-- `ahead` is a strict order, so the library's lemma on a total relation does not apply: that the zone is new to the list
stands in for totality. -/
theorem pairwise_ahead_orderedInsert {demand age : Nat → Nat} {x : Nat} {l : List Nat} (hnew : x ∉ l)
    (hl : l.Pairwise (ahead demand age · ·)) :
    (l.orderedInsert (ahead demand age · ·) x).Pairwise (ahead demand age · ·) := by
  induction l with
  | nil => exact List.pairwise_singleton _ _
  | cons y ys ih =>
    obtain ⟨hy, hys⟩ := List.pairwise_cons.mp hl
    obtain ⟨hne, hnew'⟩ := not_or.mp (mt List.mem_cons.mpr hnew)
    by_cases hxy : ahead demand age x y = true
    · rw [List.orderedInsert_cons, if_pos hxy]
      exact hl.cons (List.forall_mem_cons.mpr ⟨hxy, fun z hz => ahead_trans hxy (hy z hz)⟩)
    · rw [List.orderedInsert_cons, if_neg hxy]
      refine (ih hnew' hys).cons fun z hz => ?_
      rcases (List.mem_orderedInsert _).mp hz with rfl | hz
      · exact ahead_of_not_ahead hne hxy
      · exact hy z hz

theorem pairwise_ahead_insertionSort {demand age : Nat → Nat} {l : List Nat} (hl : l.Nodup) :
    (l.insertionSort (ahead demand age · ·)).Pairwise (ahead demand age · ·) := by
  induction l with
  | nil => exact List.Pairwise.nil
  | cons x xs ih =>
    obtain ⟨hx, hxs⟩ := List.nodup_cons.mp hl
    exact pairwise_ahead_orderedInsert (mt (List.mem_insertionSort _).mp hx) (ih hxs)

theorem pairwise_ahead_serviceOrder (demand age : Nat → Nat) :
    (serviceOrder demand age).Pairwise (ahead demand age · ·) := by
  rw [serviceOrder_eq_insertionSort]
  exact pairwise_ahead_insertionSort (List.nodup_reverse.mpr (List.nodup_range.filter _))

/-! ### The review (R58) -/

@[simp] theorem State.setPosts_allocation (s : State) (x : List Instr) (n : Nat) :
    (s.setPosts x).allocation n = s.allocation n := rfl

theorem State.allocation_effective (s : State) (n : Nat) :
    (s.allocation n).1.effective = (List.range 8).map s.effectiveDemand := rfl

/-- R68: a review replaces the record. -/
theorem State.review_record (s : State) (n : Nat) (h : s.takesReview = true) :
    (s.review n).alloc.record = some (s.allocation n).1 := by
  rw [State.review, h]
  rfl

/-- R60: a review replaces the Service Order, by the demands and ages before it. -/
theorem State.review_order (s : State) (n : Nat) (h : s.takesReview = true) :
    (s.review n).alloc.order = serviceOrder s.effectiveDemand (fun z => s.alloc.ages.getD z 0) := by
  rw [State.review, h]
  rfl

/-- R60: a review overwrites the kept list without reading it. -/
theorem State.review_setOrder (s : State) (n : Nat) (old : List Nat) (h : s.takesReview = true) :
    (s.setAlloc { s.alloc with order := old }).review n = s.review n := by
  have h' : (s.setAlloc { s.alloc with order := old }).takesReview = true := h
  rw [State.review, State.review, h, h']
  rfl

theorem exec_zoneReview (s : State) (n : Nat) (hheld : s.held = false) :
    exec (.zoneReview n) s = .next ((s.took (.zoneReview n)).review n) := by
  show execZoneReview n s = _
  rw [execZoneReview, taking_awake s _ _ hheld]

/-- Settles O27: the order is an insertion sort, by the strict order `ahead`, of the zones that ask for air. -/
theorem serviceOrderIsSorted : Obligations.ServiceOrderIsSorted := by
  intro n s hheld htakes
  have horder : ((s.took (.zoneReview n)).review n).alloc.order =
      serviceOrder s.effectiveDemand (fun z => s.alloc.ages.getD z 0) :=
    (s.took (.zoneReview n)).review_order n htakes
  refine ⟨_, _, exec_zoneReview s n hheld, State.review_record _ n htakes, fun z hz => ?effective, fun z => ?members,
    ?sorted, ?once, ?bound, fun old => ?rebuilt⟩
  case effective =>
    rw [State.setPosts_allocation, State.allocation_effective]
    simp [List.getD_eq_getElem?_getD, hz]
  case members => rw [horder, mem_serviceOrder]
  case sorted =>
    rw [horder]
    exact (pairwise_ahead_serviceOrder _ _).imp ahead_iff.mp
  case once =>
    rw [horder]
    exact nodup_serviceOrder _ _
  case bound =>
    rw [horder]
    exact length_serviceOrder_le _ _
  case rebuilt =>
    calc exec (.zoneReview n) (s.setAlloc { s.alloc with order := old })
      _ = .next (((s.took (.zoneReview n)).setAlloc { s.alloc with order := old }).review n) :=
        exec_zoneReview (s.setAlloc { s.alloc with order := old }) n hheld
      _ = .next ((s.took (.zoneReview n)).review n) :=
        congrArg _ ((s.took (.zoneReview n)).review_setOrder n old htakes)

end Sys2Proof.Machine
end

section
/-! The Table Banks at a full reset (R169), and the swap that the loader's success takes (R166, R181). -/

namespace Sys2Proof.Machine

/-! ### The banks and the loader in the full reset state (R169, R180) -/

@[simp] theorem State.atReset_banks (l : Lines) (free : Nat) (pending : List Instr) :
    (State.atReset l free pending).banks = .atReset := rfl
@[simp] theorem State.atReset_rc (l : Lines) (free : Nat) (pending : List Instr) :
    (State.atReset l free pending).rc = .atReset l.autold := rfl

/-- R169: both banks are BLANK. -/
theorem Banks.atReset_bank (id : BankId) : Banks.atReset.bank id = .blank := by
  cases id with
  | a => rfl
  | b => rfl

/-! ### A page of the shadow, and the swap (R157, R166) -/

/-- R157: the page written is in the shadow, whichever bank that is. -/
theorem Banks.shadow_putShadow (b : Banks) (page : Nat) (ws : List Word) (st : PageStatus) :
    (b.putShadow page ws st).shadow = b.shadow.putPage page ws st := by
  obtain ⟨_, _, live, _⟩ := b
  match live with
  | none => rfl
  | some .a => rfl
  | some .b => rfl

@[simp] theorem Banks.ends_live (b : Banks) (op : StoreOp) (page : Option Nat) (o : StoreOutcome) :
    (b.ends op page o).live = b.live := rfl
@[simp] theorem Banks.ends_generation (b : Banks) (op : StoreOp) (page : Option Nat) (o : StoreOutcome) :
    (b.ends op page o).generation = b.generation := rfl
@[simp] theorem Banks.ends_shadow (b : Banks) (op : StoreOp) (page : Option Nat) (o : StoreOutcome) :
    (b.ends op page o).shadow = b.shadow := rfl

theorem Banks.live_putShadow (b : Banks) (page : Nat) (ws : List Word) (st : PageStatus) :
    (b.putShadow page ws st).live = b.live :=
  (congrArg Banks.live (b.putShadow_rest page ws st) :)
theorem Banks.generation_putShadow (b : Banks) (page : Nat) (ws : List Word) (st : PageStatus) :
    (b.putShadow page ws st).generation = b.generation :=
  (congrArg Banks.generation (b.putShadow_rest page ws st) :)

/-- R157: while the selector is none the shadow is bank A. -/
theorem Banks.shadow_of_live_none (b : Banks) (h : b.live = none) : b.shadow = b.a := by
  simp only [Banks.shadow, Banks.shadowId, h, Banks.bank]

/-- R166: the first swap makes bank A live, stamped with the next generation. -/
theorem Banks.swapped_of_live_none (b : Banks) (h : b.live = none) :
    b.swapped = { b with
      a := { b.a with stamp := some ((b.generation + 1) % 65536) }
      live := some .a
      generation := (b.generation + 1) % 65536
      swapPending := false } := by
  simp only [Banks.swapped, Banks.shadow, Banks.shadowId, h, Banks.bank, Banks.setBank]

@[simp] theorem State.takeSwap_banks (s : State) : s.takeSwap.banks = s.banks.swapped := rfl
@[simp] theorem State.takeSwap_rc (s : State) : s.takeSwap.rc = s.rc := rfl

/-! ### The end of the walk (R181) -/

/-- R181: the write that the walk awaits completes. -/
theorem exec_loaderWriteComplete (s : State) (i p : Nat) (image : List Word) (next : Word) (hheld : s.held = false)
    (hload : s.rc.loader = .loading (.write i p image next)) :
    exec .loaderWriteComplete s = .next ((s.took .loaderWriteComplete).imageWritten i p image next) := by
  show execLoaderWriteComplete s = _
  rw [execLoaderWriteComplete, taking_awake s _ _ hheld]
  simp only [State.took, State.setPosts_rc, hload]

/-- R181: the write under a descriptor whose next address is 0 ends the chain. -/
theorem State.imageWritten_last (s : State) (i p : Nat) (image : List Word) :
    s.imageWritten i p image 0#16 =
      (s.setBanks ((s.banks.putShadow p image .written).ends .load (some p) .done)).walkEnd i := by
  rw [State.imageWritten, if_pos rfl]

/-- R181, R182: a chain that leaves the shadow complete and fit for the swap ends LOADED, with the swap taken. -/
theorem State.walkEnd_of_passes (s : State) (i : Nat) (hcomplete : s.banks.shadow.complete = true)
    (hcheck : s.banks.shadow.swapCheck s.ring.own = true) : s.walkEnd i = (s.setLoader .loaded).takeSwap := by
  simp [State.walkEnd, hcomplete, hcheck]

/-- R181: the chain's last write, into a shadow that it makes complete and fit for the swap, loads the tables. -/
theorem exec_loaderWriteComplete_loads (s : State) (i p : Nat) (image : List Word) (hheld : s.held = false)
    (hload : s.rc.loader = .loading (.write i p image 0#16))
    (hcomplete : (s.banks.shadow.putPage p image .written).complete = true)
    (hcheck : (s.banks.shadow.putPage p image .written).swapCheck s.ring.own = true) :
    exec .loaderWriteComplete s =
      .next ((((s.took .loaderWriteComplete).setBanks
        ((s.banks.putShadow p image .written).ends .load (some p) .done)).setLoader .loaded).takeSwap) := by
  rw [exec_loaderWriteComplete s i p image _ hheld hload, State.imageWritten_last, State.walkEnd_of_passes]
  case hcomplete => simpa [State.took, Banks.shadow_putShadow] using hcomplete
  case hcheck => simpa [State.took, Banks.shadow_putShadow] using hcheck
  simp only [State.took, State.setPosts_banks]

/-- Settles O8, by the reset state's BLANK banks (R169) and the first swap, which the chain's end takes (R166, R181). -/
theorem tableBanksAfterFullReset : Obligations.TableBanksAfterFullReset := by
  refine ⟨fun x s => ⟨_, exec_powerOn x s, exec_rstNRelease x s, ?reset⟩,
    fun s i p image hheld hlive hgen hload hcomplete hcheck => ?loads⟩
  case reset =>
    rw [State.atReset_banks, State.atReset_rc]
    refine ⟨rfl, rfl, rfl, rfl, fun id => ?blank, fun o => rfl, rfl, rfl, rfl, rfl, rfl, rfl⟩
    rw [Banks.atReset_bank]
    exact ⟨rfl, rfl⟩
  case loads =>
    rw [← s.banks.shadow_of_live_none hlive] at hcomplete hcheck
    refine ⟨_, exec_loaderWriteComplete_loads s i p image hheld hload hcomplete hcheck, ?_⟩
    have hnone : ((s.banks.putShadow p image .written).ends .load (some p) .done).live = none := by
      rw [Banks.ends_live, Banks.live_putShadow, hlive]
    simp [State.setLoader, Banks.swapped_of_live_none _ hnone, Banks.generation_putShadow, hgen]

end Sys2Proof.Machine
end

section
/-! The frame of the device: which blocks each command can change, and that it takes no event out of flight but its own. -/

namespace Sys2Proof.Machine

/-! ### Blocks -/

/-- The fields of the device apart from the events in flight. -/
inductive Block where
  | lines | held | ring | trans | zones | alloc | inter | dry | water | cycles | filters | banks | mu | rc | free
  | subTick | pending

/-- Two states agree on a block. -/
def State.agrees (s t : State) : Block → Prop
  | .lines => t.lines = s.lines
  | .held => t.held = s.held
  | .ring => t.ring = s.ring
  | .trans => t.trans = s.trans
  | .zones => t.zones = s.zones
  | .alloc => t.alloc = s.alloc
  | .inter => t.inter = s.inter
  | .dry => t.dry = s.dry
  | .water => t.water = s.water
  | .cycles => t.cycles = s.cycles
  | .filters => t.filters = s.filters
  | .banks => t.banks = s.banks
  | .mu => t.mu = s.mu
  | .rc => t.rc = s.rc
  | .free => t.free = s.free
  | .subTick => t.subTick = s.subTick
  | .pending => t.pending = s.pending

theorem State.agrees_rfl {s : State} (b : Block) : s.agrees s b := by
  cases b <;> rfl

theorem State.agrees_trans {s t u : State} {b : Block} (h : s.agrees t b) (k : t.agrees u b) : s.agrees u b := by
  cases b <;> exact Eq.trans k h

/-- Between two states no block changes but those listed, and no event leaves flight. -/
structure State.Within (bs : List Block) (s t : State) : Prop where
  same : ∀ b, b ∉ bs → s.agrees t b
  posts : s.posts ⊆ t.posts

namespace State.Within
variable {bs cs : List Block} {s t u : State}

theorem refl (s : State) : s.Within bs s := ⟨fun b _ => agrees_rfl b, fun _ h => h⟩

theorem trans (h : s.Within bs t) (k : t.Within cs u) (hsub : cs ⊆ bs) : s.Within bs u :=
  ⟨fun b hb => agrees_trans (h.same b hb) (k.same b fun hc => hb (hsub hc)), fun _ he => k.posts (h.posts he)⟩

theorem mono (h : s.Within cs t) (hsub : cs ⊆ bs) : s.Within bs t := (refl s).trans h hsub

/-- An update of one listed block. -/
theorem update (b : Block) (h : s.Within bs t) (hb : b ∈ bs) (hu : ∀ c, c ≠ b → t.agrees u c)
    (hp : t.posts ⊆ u.posts) : s.Within bs u :=
  ⟨fun c hc => agrees_trans (h.same c hc) (hu c fun e => hc (e ▸ hb)), fun _ he => hp (h.posts he)⟩

theorem setLines {x : Lines} (h : s.Within bs t) (hb : .lines ∈ bs) : s.Within bs (t.setLines x) :=
  h.update .lines hb (fun c hc => by cases c <;> first | rfl | exact absurd rfl hc) fun _ he => he
theorem setRing {x : Ring} (h : s.Within bs t) (hb : .ring ∈ bs) : s.Within bs (t.setRing x) :=
  h.update .ring hb (fun c hc => by cases c <;> first | rfl | exact absurd rfl hc) fun _ he => he
theorem setTrans {x : Translator} (h : s.Within bs t) (hb : .trans ∈ bs) : s.Within bs (t.setTrans x) :=
  h.update .trans hb (fun c hc => by cases c <;> first | rfl | exact absurd rfl hc) fun _ he => he
theorem setZones {x : List Zone} (h : s.Within bs t) (hb : .zones ∈ bs) : s.Within bs (t.setZones x) :=
  h.update .zones hb (fun c hc => by cases c <;> first | rfl | exact absurd rfl hc) fun _ he => he
theorem setAlloc {x : Allocator} (h : s.Within bs t) (hb : .alloc ∈ bs) : s.Within bs (t.setAlloc x) :=
  h.update .alloc hb (fun c hc => by cases c <;> first | rfl | exact absurd rfl hc) fun _ he => he
theorem setInter {x : Interlock} (h : s.Within bs t) (hb : .inter ∈ bs) : s.Within bs (t.setInter x) :=
  h.update .inter hb (fun c hc => by cases c <;> first | rfl | exact absurd rfl hc) fun _ he => he
theorem setDry {x : Drying} (h : s.Within bs t) (hb : .dry ∈ bs) : s.Within bs (t.setDry x) :=
  h.update .dry hb (fun c hc => by cases c <;> first | rfl | exact absurd rfl hc) fun _ he => he
theorem setWater {x : Water} (h : s.Within bs t) (hb : .water ∈ bs) : s.Within bs (t.setWater x) :=
  h.update .water hb (fun c hc => by cases c <;> first | rfl | exact absurd rfl hc) fun _ he => he
theorem setCycles {x : CycleEngine} (h : s.Within bs t) (hb : .cycles ∈ bs) : s.Within bs (t.setCycles x) :=
  h.update .cycles hb (fun c hc => by cases c <;> first | rfl | exact absurd rfl hc) fun _ he => he
theorem setFilters {x : Filters} (h : s.Within bs t) (hb : .filters ∈ bs) : s.Within bs (t.setFilters x) :=
  h.update .filters hb (fun c hc => by cases c <;> first | rfl | exact absurd rfl hc) fun _ he => he
theorem setBanks {x : Banks} (h : s.Within bs t) (hb : .banks ∈ bs) : s.Within bs (t.setBanks x) :=
  h.update .banks hb (fun c hc => by cases c <;> first | rfl | exact absurd rfl hc) fun _ he => he
theorem setMu {x : Management} (h : s.Within bs t) (hb : .mu ∈ bs) : s.Within bs (t.setMu x) :=
  h.update .mu hb (fun c hc => by cases c <;> first | rfl | exact absurd rfl hc) fun _ he => he
theorem setRc {x : RunControl} (h : s.Within bs t) (hb : .rc ∈ bs) : s.Within bs (t.setRc x) :=
  h.update .rc hb (fun c hc => by cases c <;> first | rfl | exact absurd rfl hc) fun _ he => he
theorem setSubTick {x : Nat} (h : s.Within bs t) (hb : .subTick ∈ bs) : s.Within bs (t.setSubTick x) :=
  h.update .subTick hb (fun c hc => by cases c <;> first | rfl | exact absurd rfl hc) fun _ he => he

theorem setPosts {es : List Instr} (h : s.Within bs t) (hp : t.posts ⊆ es) : s.Within bs (t.setPosts es) :=
  ⟨fun b hb => agrees_trans (h.same b hb) (by cases b <;> rfl), fun _ he => hp (h.posts he)⟩
theorem post {es : List Instr} (h : s.Within bs t) : s.Within bs (t.post es) :=
  h.setPosts (List.subset_append_left _ _)

end State.Within

/-! ### The shared operations -/

variable (s : State)

theorem State.evalSweeps_within : s.Within [.ring] s.evalSweeps := by
  unfold State.evalSweeps
  split
  · exact (Within.refl s).setRing (by simp)
  · split
    · exact ((Within.refl s).setRing (by simp)).post
    · exact .refl s

theorem State.offerDirty_within : s.Within [.inter, .ring] s.offerDirty := ((Within.refl s).setRing (by simp)).setInter (by simp)

theorem State.resolving_within (f : Interlock → Interlock) : s.Within [.inter, .ring] (s.resolving f) :=
  ((Within.refl s).setInter (by simp)).post.trans (State.offerDirty_within _) (by simp)

theorem State.setInhibit_within (m : Inhibit) (b : Bool) : s.Within [.inter, .ring] (s.setInhibit m b) := by
  unfold State.setInhibit
  split
  · exact .refl s
  · exact s.resolving_within _

theorem State.noteAfter_within (called : Bool) : s.Within [.ring, .mu] (s.noteAfter called) := by
  unfold State.noteAfter
  split
  · exact (Within.refl s).setRing (by simp)
  · split
    · split
      · exact (Within.refl s).setRing (by simp)
      · exact (Within.refl s).setMu (by simp)
    · exact .refl s

/-! ### The ring -/

theorem State.forward_within (ws : List Word) : s.Within [.ring] (s.forward ws) := by
  unfold State.forward
  split
  · exact (Within.refl s).setRing (by simp)
  · exact (Within.refl s).post

theorem State.pollReturned_within (f : Frame) : s.Within [.ring] (s.pollReturned f) := by
  unfold State.pollReturned
  split
  · exact .refl s
  · split
    · exact ((Within.refl s).setRing (by simp)).post
    · exact .refl s

theorem State.consume_within (f : Frame) : s.Within [.ring, .mu] (s.consume f) := by
  unfold State.consume
  split
  · exact (Within.refl s).setMu (by simp)
  · split
    · exact (Within.refl s).setRing (by simp)
    · exact (Within.refl s).post

theorem State.grant_within : s.Within [.lines, .ring] s.grant := by
  unfold State.grant
  split
  · exact (((Within.refl s).setRing (by simp)).setRing (by simp)).setLines (by simp)
  · split
    · exact .refl s
    · exact (((Within.refl s).setRing (by simp)).setRing (by simp)).setLines (by simp)
    · exact ((((Within.refl s).setRing (by simp)).setRing (by simp)).setLines (by simp)).post
    · split
      · exact ((((Within.refl s).setRing (by simp)).setRing (by simp)).setLines (by simp)).post
      · exact (((Within.refl s).setRing (by simp)).setRing (by simp)).setLines (by simp)

theorem State.originate_within : s.Within [.ring] s.originate := ((Within.refl s).setRing (by simp)).post

theorem State.sweepExpiry_within : s.Within [.ring] s.sweepExpiry := by
  unfold State.sweepExpiry
  split
  · exact s.originate_within
  · split
    · exact (Within.refl s).setRing (by simp)
    · exact ((Within.refl s).setRing (by simp)).post.trans (State.originate_within _) (by simp)

/-! ### The translator -/

theorem State.setGate_within (g : Gate) (b : Bool) : s.Within [.trans] (s.setGate g b) := by
  unfold State.setGate
  split
  · exact .refl s
  · split
    · exact (Within.refl s).setTrans (by simp)
    · exact ((Within.refl s).setTrans (by simp)).post

theorem State.setDefrost_within (b : Bool) : s.Within [.trans] (s.setDefrost b) := by
  unfold State.setDefrost
  split
  · exact .refl s
  · exact ((Within.refl s).setTrans (by simp)).post

theorem State.setNight_within (b : Bool) : s.Within [.trans] (s.setNight b) := by
  unfold State.setNight
  split
  · exact .refl s
  · exact ((Within.refl s).setTrans (by simp)).setPosts (by simp)

theorem State.takeFlow_within (k scale : Nat) (raw : Word) : s.Within [.trans] (s.takeFlow k scale raw) := by
  unfold State.takeFlow State.accumulate
  split
  · exact (Within.refl s).post
  · split
    · exact (Within.refl s).setTrans (by simp)
    · split
      · exact .refl s
      · exact (Within.refl s).post

theorem State.voidAcc_within (k : Nat) : s.Within [.trans] (s.voidAcc k) := by
  unfold State.voidAcc
  split
  · exact ((Within.refl s).setTrans (by simp)).post
  · exact .refl s

theorem Pairs.special_within (src : Nat) (zone : Option Nat) (code : Special) (p : Pairs) :
    p.s.Within [.trans] (p.special src zone code).s := by
  cases code with
  | pageNext => exact (State.Within.refl p.s).setTrans (by simp)
  | void k => exact p.s.voidAcc_within k
  | _ => exact (State.Within.refl p.s).post

theorem Pairs.act_within (src : Nat) (zone : Option Nat) (a : Action) (raw : Word) (p : Pairs) :
    p.s.Within [.trans] (p.act src zone a raw).s := by
  cases a with
  | ignore => exact .refl p.s
  | store t scale wake => exact (State.Within.refl p.s).post
  | accumulate k scale => exact p.s.takeFlow_within k scale raw
  | special code => exact p.special_within src zone code

theorem Pairs.take_within (src : Nat) (e : NodeEntry) (p : Pairs) (x : Word × Word) :
    p.s.Within [.trans] (p.take src e x).s := by
  unfold Pairs.take
  extract_lets page s
  have hs : p.s.Within [.trans] s := (State.Within.refl p.s).setTrans (by simp)
  split
  · exact hs.post
  · exact hs.trans (Pairs.act_within src e.sourceZone _ x.2 { s := s, boost := _, absorbed := _ }) (by simp)

theorem Pairs.foldl_within (src : Nat) (e : NodeEntry) (xs : List (Word × Word)) (p : Pairs) :
    p.s.Within [.trans] (xs.foldl (Pairs.take src e) p).s := by
  induction xs generalizing p with
  | nil => exact .refl p.s
  | cons x xs ih => exact (p.take_within src e x).trans (ih _) (by simp)

theorem State.translate_within (f : Frame) : s.Within [.trans] (s.translate f).1 := by
  unfold State.translate
  extract_lets e
  split
  · exact (Within.refl s).post
  · exact Pairs.foldl_within f.src e _ { s := s, boost := _, absorbed := true }

theorem State.broadcastSample_within (f : Frame) (ws : List Word) :
    s.Within [.ring, .trans] (s.broadcastSample f ws) := by
  unfold State.broadcastSample
  split
  · extract_lets r
    split
    · exact (s.translate_within f).mono (by simp)
    · exact ((s.translate_within f).mono (by simp)).trans (State.forward_within _ ws) (by simp)
  · exact (s.forward_within ws).mono (by simp)

theorem State.route_within (f : Frame) (ws : List Word) : s.Within [.ring, .trans, .mu] (s.route f ws) := by
  unfold State.route
  extract_lets len
  split
  · exact (Within.refl s).post
  · split
    · split
      · exact (s.pollReturned_within f).mono (by simp)
      · exact .refl s
    · split
      · split
        · exact (s.consume_within f).mono (by simp)
        · exact (Within.refl s).post
      · split
        · exact (s.broadcastSample_within f ws).mono (by simp)
        · split
          · exact ((s.forward_within ws).mono (by simp)).post
          · exact (s.forward_within ws).mono (by simp)

theorem State.runEnds_within (ws : List Word) : s.Within [.ring, .trans, .mu] (s.runEnds ws) := by
  unfold State.runEnds State.receive
  split
  · exact (Within.refl s).setRing (by simp)
  · split
    · exact (Within.refl s).post
    · split
      · exact (Within.refl s).post
      · exact s.route_within _ ws

/-! ### Zones and the allocator -/

theorem State.endWindow_within (z : Nat) : s.Within [.zones] (s.endWindow z) := by
  unfold State.endWindow
  split
  · exact (Within.refl s).setZones (by simp)
  · exact .refl s

theorem State.endBoost_within (z : Nat) : s.Within [.zones] (s.endBoost z) := by
  unfold State.endBoost
  split
  · exact (Within.refl s).setZones (by simp)
  · exact .refl s

theorem State.review_within (n : Nat) : s.Within [.alloc] (s.review n) := by
  unfold State.review
  split
  · exact .refl s
  · exact ((Within.refl s).setAlloc (by simp)).post

/-! ### The interlock -/

theorem State.takeFeedback_within (x : Option Nat) : s.Within [.inter, .ring] (s.takeFeedback x) := by
  unfold State.takeFeedback
  split
  · exact .refl s
  · extract_lets t
    split
    · exact (s.resolving_within _).post
    · exact s.resolving_within _

theorem State.clearBlowerFault_within : s.Within [.inter, .ring] s.clearBlowerFault := by
  unfold State.clearBlowerFault
  split
  · exact (s.resolving_within _).post
  · exact .refl s

/-! ### The drying controller -/

theorem State.classifyDry_within : s.Within [.dry] s.classifyDry := by
  unfold State.classifyDry
  split
  · exact .refl s
  · exact (Within.refl s).setDry (by simp)

theorem State.startMethod_within (m : Method) : s.Within [.dry] (s.startMethod m) :=
  ((Within.refl s).post.setDry (by simp)).trans (State.classifyDry_within _) (by simp)

theorem State.startChosen_within : s.Within [.dry] s.startChosen := by
  unfold State.startChosen
  split
  · exact s.startMethod_within _
  · exact (Within.refl s).setDry (by simp)

theorem State.switchMethod_within : s.Within [.dry] s.switchMethod := by
  unfold State.switchMethod
  split
  · exact .refl s
  · extract_lets t
    split
    · exact (Within.refl s).post.setDry (by simp)
    · exact (Within.refl s).post.trans (State.startChosen_within _) (by simp)

theorem State.switchOr_within (f : State → State) (hf : s.Within [.dry] (f s)) : s.Within [.dry] (s.switchOr f) := by
  unfold State.switchOr
  split
  · exact .refl s
  · split
    · exact hf
    · exact s.switchMethod_within

theorem State.dryEvent_within (f : State → State) (hf : s.Within [.dry] (f s)) : s.Within [.dry] (s.dryEvent f) := by
  unfold State.dryEvent
  extract_lets t
  split
  · exact hf
  · exact hf.post

theorem State.stopToOff_within : s.Within [.dry] s.stopToOff := by
  unfold State.stopToOff
  split
  · exact .refl s
  · exact (Within.refl s).post.setDry (by simp)

theorem State.actUnwanted_within : s.Within [.dry] s.actUnwanted := by
  unfold State.actUnwanted
  split
  · exact .refl s
  · exact s.stopToOff_within
  · split
    · exact .refl s
    · exact (Within.refl s).post.setDry (by simp)
  · exact (Within.refl s).setDry (by simp)
  · exact s.stopToOff_within
  · exact (Within.refl s).setDry (by simp)

theorem State.actWanted_within : s.Within [.dry] s.actWanted := by
  unfold State.actWanted
  split
  · exact s.startChosen_within
  · exact s.switchOr_within _ s.classifyDry_within
  · exact s.switchOr_within _ (.refl s)
  · split
    · split
      · exact .refl s
      · exact (Within.refl s).post.setDry (by simp)
    · exact (Within.refl s).setDry (by simp)
  · exact s.switchOr_within _ s.classifyDry_within
  · exact s.startChosen_within

theorem State.takeAllocation_within : s.Within [.dry] s.takeAllocation := by
  unfold State.takeAllocation
  extract_lets _ t u
  have hu : s.Within [.dry] u := ((Within.refl s).setDry (by simp)).post
  split
  · exact hu.trans (State.actWanted_within _) (by simp)
  · exact hu.trans (State.actUnwanted_within _) (by simp)

theorem State.dryOutputOn_within (m : Method) : s.Within [.dry] (s.dryOutputOn m) := by
  unfold State.dryOutputOn
  extract_lets d
  split <;> exact (Within.refl s).setDry (by simp)

theorem State.afterStop_within : s.Within [.dry] s.afterStop := by
  unfold State.afterStop
  split
  · split
    · exact s.startMethod_within _
    · exact s.startChosen_within
  · exact s.startChosen_within

theorem State.dryOutputOff_within (m : Method) : s.Within [.dry] (s.dryOutputOff m) := by
  unfold State.dryOutputOff
  extract_lets t
  have ht : s.Within [.dry] t := (Within.refl s).setDry (by simp)
  split
  · split
    · exact ht.trans (t.switchOr_within _ t.classifyDry_within) (by simp)
    · split
      · exact ht.trans t.afterStop_within (by simp)
      · exact ht.setDry (by simp)
    all_goals exact ht
  · exact ht

theorem State.takeCoilTemp_within (v : Int) : s.Within [.dry] (s.takeCoilTemp v) := by
  unfold State.takeCoilTemp
  extract_lets _ t u
  have ht : s.Within [.dry] t := (Within.refl s).setDry (by simp)
  split
  · split
    · exact ht.post.trans u.switchMethod_within (by simp)
    · exact ht.post
  · exact ht

theorem State.actOnOutcome_within : s.Within [.dry] s.actOnOutcome := by
  unfold State.actOnOutcome
  split
  · split
    · exact s.startChosen_within
    · exact .refl s
  · exact s.classifyDry_within
  all_goals exact .refl s

/-! ### Water -/

theorem State.evalTank_within : s.Within [.water] s.evalTank := by
  rw [State.evalTank_eq]
  exact ((Within.refl s).setWater (by simp)).setPosts (by simp)

theorem State.waterEvent_within (probe : Option Nat) (f : Water → Water) : s.Within [.water] (s.waterEvent probe f) :=
  (((Within.refl s).setWater (by simp)).trans (State.evalTank_within _) (by simp)).post

theorem State.reportOnly_within (probe : Option Nat) : s.Within [.water] (s.reportOnly probe) := (Within.refl s).post

theorem State.takeTankLevel_within (x : Option (Fin 16)) : s.Within [.water] (s.takeTankLevel x) := by
  unfold State.takeTankLevel
  split
  · split
    · exact s.waterEvent_within _ _
    · exact s.reportOnly_within _
  · split
    · exact s.waterEvent_within _ _
    · exact s.reportOnly_within _

theorem State.takeFloat_within (b : Bool) : s.Within [.water] (s.takeFloat b) := by
  unfold State.takeFloat
  split
  · exact s.reportOnly_within _
  · exact s.waterEvent_within _ _

theorem State.latchPumpFault_within : s.Within [.water] s.latchPumpFault := by
  unfold State.latchPumpFault
  split
  · exact .refl s
  · exact ((Within.refl s).setWater (by simp)).post

theorem State.takePumpOutcome_within (o : CycleOutcome) : s.Within [.water] (s.takePumpOutcome o) := by
  unfold State.takePumpOutcome
  split
  · exact s.latchPumpFault_within.post
  · exact s.reportOnly_within _
  · exact s.reportOnly_within _
  · exact s.waterEvent_within _ _
  all_goals exact s.reportOnly_within _

theorem State.clearPumpFault_within : s.Within [.water] s.clearPumpFault := by
  unfold State.clearPumpFault
  split
  · exact ((Within.refl s).setWater (by simp)).post.post.post
  · exact s.reportOnly_within _

theorem State.waterSwap_within : s.Within [.water] s.waterSwap := by
  unfold State.waterSwap
  extract_lets old _ t u
  have ht : s.Within [.water] t := ((Within.refl s).setWater (by simp)).trans (State.evalTank_within _) (by simp)
  have hu : s.Within [.water] u := by
    unfold u
    split
    · exact ht.post
    · exact ht
  exact hu.post

/-! ### The cycle engine -/

theorem State.beginStep_within (c : Cycle) : s.Within [.cycles] (s.beginStep c) := ((Within.refl s).setCycles (by simp)).post

theorem State.ended_within (c : Cycle) (planned : Bool) (o : CycleOutcome) (result : List (Option Curve)) :
    s.Within [.cycles] (s.ended c planned o result) := ((Within.refl s).setCycles (by simp)).post

theorem State.run_within (fresh : Bool) (c : Cycle) : s.Within [.cycles] (s.run fresh c) := by
  unfold State.run
  split
  · split
    · exact ((Within.refl s).setCycles (by simp)).post
    · exact (s.beginStep_within _).post
  · split
    · exact (s.beginStep_within _).post
    · exact s.beginStep_within _

theorem State.startPicked_within (fresh : Bool) (c : Cycle) : s.Within [.cycles] (s.startPicked fresh c).1 := by
  unfold State.startPicked
  split
  · exact s.ended_within _ _ _ _
  · exact s.run_within fresh _

theorem State.takeHighest_within {fresh : Bool} {c : Cycle} {t : State} (h : s.takeHighest = some (fresh, c, t)) :
    s.Within [.cycles] t := by
  unfold State.takeHighest at h
  split at h
  · cases h
  · cases h; exact (Within.refl s).setCycles (by simp)
  · cases h; exact (Within.refl s).setCycles (by simp)
  · split at h
    · cases h; exact (Within.refl s).setCycles (by simp)
    · cases h; exact (Within.refl s).setCycles (by simp)

theorem State.pickLoop_within (n : Nat) : s.Within [.cycles] (s.pickLoop n) := by
  induction n generalizing s with
  | zero => exact .refl s
  | succ n ih =>
    unfold State.pickLoop
    split
    · exact .refl s
    · next fresh c t h =>
      have ht := (s.takeHighest_within h).trans (t.startPicked_within fresh c) (by simp)
      extract_lets r
      split
      · exact ht
      · exact ht.trans (ih r.1) (by simp)

theorem State.pick_within : s.Within [.cycles] s.pick := by
  unfold State.pick
  split
  · exact .refl s
  · exact s.pickLoop_within _

theorem State.endRunning_within (c : Cycle) (o : CycleOutcome) (result : List (Option Curve)) :
    s.Within [.cycles] (s.endRunning c o result) :=
  (((Within.refl s).setCycles (by simp)).trans (State.ended_within _ c true o result) (by simp)).trans (State.pick_within _) (by simp)

theorem State.preempt_within (k : CycleKind) : s.Within [.cycles] (s.preempt k) := by
  unfold State.preempt
  split
  · exact .refl s
  · split
    · split
      · exact ((Within.refl s).setCycles (by simp)).post.trans (State.pick_within _) (by simp)
      · exact s.endRunning_within _ _ _
    · exact .refl s

theorem State.preemptTest_within : s.Within [.cycles] s.preemptTest := by
  unfold State.preemptTest
  split
  · exact .refl s
  · exact s.preempt_within _

theorem State.heldTest_within : s.Within [.cycles] s.heldTest := by
  unfold State.heldTest
  split
  · exact .refl s
  · split
    · exact s.endRunning_within _ _ _
    · exact .refl s

theorem State.requestCycle_within (k : CycleKind) : s.Within [.cycles] (s.requestCycle k).1 := by
  unfold State.requestCycle
  split
  · exact .refl s
  · split
    · exact .refl s
    · extract_lets _ t u
      have ht : s.Within [.cycles] t := (Within.refl s).setCycles (by simp)
      show s.Within [.cycles] (if t.cycles.running.isSome then (t.preempt k).heldTest else t.pick)
      split
      · exact (ht.trans (t.preempt_within k) (by simp)).trans (State.heldTest_within _) (by simp)
      · exact ht.trans t.pick_within (by simp)

theorem State.cycleCoilTemp_within (v : Int) : s.Within [.cycles] (s.cycleCoilTemp v) := by
  unfold State.cycleCoilTemp
  split
  · exact .refl s
  · split
    · exact s.endRunning_within _ _ _
    · exact .refl s

theorem State.dpSample_within (st : Stage) (v : Nat) : s.Within [.cycles] (s.dpSample st v) := by
  unfold State.dpSample
  split
  · exact .refl s
  · split
    · split
      · exact .refl s
      · split
        · split
          · exact s.beginStep_within _
          · exact .refl s
        · exact (Within.refl s).setCycles (by simp)
    all_goals exact .refl s

theorem State.pumpFlow_within (v : Nat) : s.Within [.cycles] (s.pumpFlow v) := by
  unfold State.pumpFlow
  split
  · exact .refl s
  · split
    · exact s.beginStep_within _
    · exact .refl s

theorem State.takeTankReport_within (r : TankReport) : s.Within [.cycles] (s.takeTankReport r) := by
  unfold State.takeTankReport
  extract_lets _ t
  have ht : s.Within [.cycles] t := (Within.refl s).setCycles (by simp)
  split
  · exact ht
  · split
    · unfold State.reportToPump
      split
      · exact ht.trans (State.endRunning_within _ _ _ _) (by simp)
      · split
        · exact ht.trans (State.endRunning_within _ _ _ _) (by simp)
        · exact ht
    · unfold State.reportToRegen
      split
      · exact (ht.setCycles (by simp)).post.trans (State.heldTest_within _) (by simp)
      · split
        · exact (ht.setCycles (by simp)).post
        · exact ht
    all_goals exact ht

theorem State.measureOver_within (c : Cycle) (k : Nat) : s.Within [.cycles] (s.measureOver c k) := by
  unfold State.measureOver
  split
  · exact s.endRunning_within _ _ _
  · extract_lets d
    split
    · exact s.endRunning_within _ _ _
    · exact s.beginStep_within _

theorem State.settleOver_within (c : Cycle) (k : Nat) : s.Within [.cycles] (s.settleOver c k) := by
  unfold State.settleOver
  split
  · exact s.beginStep_within _
  · exact (Within.refl s).setCycles (by simp)

theorem State.stepOver_within (c : Cycle) : s.Within [.cycles] (s.stepOver c) := by
  unfold State.stepOver
  split
  · exact s.endRunning_within _ _ _
  · exact s.beginStep_within _
  · exact s.endRunning_within _ _ _
  · exact s.settleOver_within c _
  · exact s.measureOver_within c _
  all_goals exact .refl s

theorem State.cycleOver_within (c : Cycle) : s.Within [.cycles] (s.cycleOver c) := by
  unfold State.cycleOver
  split
  · exact s.endRunning_within _ _ _
  · exact s.endRunning_within _ _ _
  · exact s.endRunning_within _ _ _
  all_goals exact .refl s

theorem State.cancel_within (cs : List Cycle) :
    s.Within [.cycles] (cs.foldl (fun t c => t.ended c false .cancelled []) s) := by
  induction cs generalizing s with
  | nil => exact .refl s
  | cons c cs ih => exact (s.ended_within c false .cancelled []).trans (ih _) (by simp)

theorem State.abortRunning_within (hit : CycleKind → Bool) (r : AbortReason) :
    s.Within [.cycles] (s.abortRunning hit r) := by
  unfold State.abortRunning
  split
  · exact .refl s
  · split
    · exact ((Within.refl s).setCycles (by simp)).trans (State.ended_within _ _ _ _ _) (by simp)
    · exact .refl s

theorem State.abortSuspended_within (hit : CycleKind → Bool) (r : AbortReason) :
    s.Within [.cycles] (s.abortSuspended hit r) := by
  unfold State.abortSuspended
  split
  · exact .refl s
  · split
    · exact ((Within.refl s).setCycles (by simp)).trans (State.ended_within _ _ _ _ _) (by simp)
    · exact .refl s

theorem State.afterAborts_within (before : Option Cycle) : s.Within [.cycles] (s.afterAborts before) := by
  unfold State.afterAborts
  split
  · exact s.pick_within
  · split
    · exact s.preemptTest_within
    · exact .refl s

theorem State.abortKinds_within (hit : CycleKind → Bool) (r : AbortReason) :
    s.Within [.cycles] (s.abortKinds hit r) := by
  have h := (s.abortRunning_within hit r).trans (State.abortSuspended_within _ hit r) (by simp)
  exact ((h.setCycles (by simp)).trans (State.cancel_within _ _) (by simp)).trans (State.afterAborts_within _ _) (by simp)

theorem State.cycleDoor_within (b : Bool) : s.Within [.cycles] (s.cycleDoor b) := by
  unfold State.cycleDoor
  extract_lets _ t
  have ht : s.Within [.cycles] t := (Within.refl s).setCycles (by simp)
  split
  · exact ht.trans (t.abortKinds_within _ _) (by simp)
  · exact ht

theorem State.cycleLevel_within (l : RunLevel) : s.Within [.cycles] (s.cycleLevel l) := by
  unfold State.cycleLevel
  split
  · exact .refl s
  · extract_lets _ t
    have ht : s.Within [.cycles] t := (Within.refl s).setCycles (by simp)
    split
    · exact ht.trans (t.abortKinds_within _ _) (by simp)
    · exact ht.trans (t.abortKinds_within _ _) (by simp)
    · exact ht
    · exact ht

theorem State.abortCycle_within (k : CycleKind) : s.Within [.cycles] (s.abortCycle k).1 := by
  unfold State.abortCycle
  split
  · exact s.abortKinds_within _ _
  · exact .refl s

/-! ### Filters -/

theorem State.filterChange_within (f : Filters → Filters) : s.Within [.filters] (s.filterChange f) :=
  (((Within.refl s).setFilters (by simp)).setFilters (by simp)).post

theorem State.countRun_within : s.Within [.filters] s.countRun := by
  unfold State.countRun
  split
  · exact .refl s
  · exact (Within.refl s).setFilters (by simp)

theorem State.profileStep_within : s.Within [.filters] s.profileStep := by
  unfold State.profileStep
  split
  · exact ((Within.refl s).setFilters (by simp)).post
  · exact (Within.refl s).setFilters (by simp)

theorem State.takeProfile_within (o : CycleOutcome) (result : List (Option Curve)) :
    s.Within [.filters] (s.takeProfile o result) := by
  unfold State.takeProfile
  split
  · exact s.filterChange_within _
  · exact .refl s

theorem State.filterDoor_within (b : Bool) : s.Within [.filters] (s.filterDoor b) := by
  unfold State.filterDoor
  split
  · exact .refl s
  · split
    · exact (Within.refl s).setFilters (by simp)
    · exact (Within.refl s).setFilters (by simp)

theorem State.filterReset_within (st : Stage) : s.Within [.filters] (s.filterReset st).1 := by
  unfold State.filterReset
  split
  · exact ((s.filterChange_within _).setFilters (by simp)).post
  · exact .refl s

theorem State.setCharge_within (st : Stage) (v : Nat) : s.Within [.filters] (s.setCharge st v).1 := by
  unfold State.setCharge
  split
  · dsimp only
    exact s.filterChange_within _
  · exact .refl s

/-! ### Banks, Run Control and the loader -/

theorem State.takeSwap_within : s.Within [.banks] s.takeSwap := ((Within.refl s).setBanks (by simp)).setPosts (by simp)

theorem State.takePending_within : s.Within [.banks] s.takePending := by
  unfold State.takePending
  split
  · exact s.takeSwap_within
  · exact .refl s

theorem State.validated_within (p : Nat) : s.Within [.banks] (s.validated p) := by
  unfold State.validated
  split
  · exact ((Within.refl s).setBanks (by simp)).post
  · exact (Within.refl s).setBanks (by simp)

theorem State.setLevel_within (l : RunLevel) : s.Within [.rc] (s.setLevel l) := by
  unfold State.setLevel
  split
  · exact .refl s
  · exact ((Within.refl s).setRc (by simp)).post

theorem State.loadFailed_within (r : LoadFailure) (i : Nat) : s.Within [.rc] (s.loadFailed r i) :=
  ((Within.refl s).setRc (by simp)).post

theorem State.walkEnd_within (i : Nat) : s.Within [.banks, .rc] (s.walkEnd i) := by
  unfold State.walkEnd
  split
  · exact (s.loadFailed_within _ i).mono (by simp)
  · split
    · exact (s.loadFailed_within _ i).mono (by simp)
    · exact ((Within.refl s).setRc (by simp)).trans (State.takeSwap_within _) (by simp)

theorem State.headerRead_within (ws : List Word) : s.Within [.banks, .rc] (s.headerRead ws) := by
  unfold State.headerRead
  extract_lets signature version first
  split
  · exact (s.loadFailed_within _ _).mono (by simp)
  · split
    · exact (s.loadFailed_within _ _).mono (by simp)
    · split
      · exact s.walkEnd_within 0
      · exact (Within.refl s).setRc (by simp)

theorem State.descriptorRead_within (i : Nat) (ws : List Word) : s.Within [.banks, .rc] (s.descriptorRead i ws) := by
  unfold State.descriptorRead
  extract_lets page
  split
  · exact (s.loadFailed_within _ _).mono (by simp)
  · exact (Within.refl s).setRc (by simp)

theorem State.imageRead_within (i p : Nat) (next : Word) (ws : List Word) :
    s.Within [.banks, .rc] (s.imageRead i p next ws) := by
  unfold State.imageRead
  extract_lets image
  split
  · exact (((Within.refl s).setBanks (by simp)).setRc (by simp)).post
  · exact (Within.refl s).setRc (by simp)

theorem State.imageWritten_within (i p : Nat) (image : List Word) (next : Word) :
    s.Within [.banks, .rc] (s.imageWritten i p image next) := by
  unfold State.imageWritten
  extract_lets t
  have ht : s.Within [.banks, .rc] t := (Within.refl s).setBanks (by simp)
  split
  · exact ht.trans (t.walkEnd_within i) (by simp)
  · split
    · exact ht.trans (t.loadFailed_within _ i) (by simp)
    · exact ht.setRc (by simp)

/-! ### The Management Unit -/

theorem State.setFlag_within (f : StickyFlag) : s.Within [.ring, .mu] (s.setFlag f) := by
  unfold State.setFlag
  split
  · exact .refl s
  · exact ((Within.refl s).setMu (by simp)).trans (State.noteAfter_within _ _) (by simp)

theorem State.setCondition_within (c : Condition) (b : Bool) : s.Within [.ring, .mu] (s.setCondition c b) := by
  unfold State.setCondition
  split
  · exact .refl s
  · exact ((Within.refl s).setMu (by simp)).trans (State.noteAfter_within _ _) (by simp)

theorem State.setMuLevel_within (l : RunLevel) : s.Within [.ring, .mu] (s.setMuLevel l) := by
  unfold State.setMuLevel
  split
  · exact .refl s
  · exact ((Within.refl s).setMu (by simp)).trans (State.noteAfter_within _ _) (by simp)

theorem State.ackFlags_within (mask : Word) : s.Within [.ring, .mu] (s.ackFlags mask) := by
  unfold State.ackFlags
  split
  · exact .refl s
  · exact ((Within.refl s).setMu (by simp)).trans (State.noteAfter_within _ _) (by simp)

theorem State.offerOwedNote_within : s.Within [.ring, .mu] s.offerOwedNote := by
  unfold State.offerOwedNote
  split
  · exact .refl s
  · split
    · exact ((Within.refl s).setRing (by simp)).setMu (by simp)
    · split
      · exact ((Within.refl s).setRing (by simp)).setMu (by simp)
      · exact .refl s

theorem State.storeRequest_within {bs : List Block} (f : State → State × Answer) (hf : s.Within bs (f s).1) :
    s.Within bs (s.storeRequest f).1 := by
  unfold State.storeRequest
  split
  · exact .refl s
  · exact hf

theorem State.commitPage_within (p : Nat) (calEn : Bool) : s.Within [.banks] (s.commitPage p calEn).1 := by
  unfold State.commitPage
  split
  · exact .refl s
  · split
    · exact .refl s
    · exact (Within.refl s).setBanks (by simp)

theorem State.copyLive_within : s.Within [.banks] s.copyLive.1 := by
  unfold State.copyLive
  split
  · exact (Within.refl s).setBanks (by simp)
  · exact .refl s

theorem State.swapBanks_within : s.Within [.banks] s.swapBanks.1 := by
  unfold State.swapBanks
  split
  · exact .refl s
  · split
    · exact .refl s
    · split
      · exact (Within.refl s).setBanks (by simp)
      · exact s.takeSwap_within

theorem State.setRunLevel_within (l : RunLevel) (wake : Bool) : s.Within [.rc] (s.setRunLevel l wake).1 := by
  unfold State.setRunLevel
  split
  · exact .refl s
  · exact ((Within.refl s).setRc (by simp)).trans (State.setLevel_within _ l) (by simp)

/-- R172.5, R172.6: a request whose arguments do not fit is refused, and any other is executed. -/
theorem State.checkAndRun_cases (r : Request) (ok : Request → Bool) (run : Request → State → State × Answer) :
    (∃ a, s.checkAndRun r ok run = .answered s a) ∨
      s.checkAndRun r ok run = .answered (run r s).1 (run r s).2 ∧ ok r = true := by
  unfold State.checkAndRun
  split
  · next hok => exact .inr ⟨rfl, hok⟩
  · exact .inl ⟨_, rfl⟩

/-- R172: what settling a request comes to. Only the requests of setup mode are executed while the loader is LOADING. -/
theorem State.settleRequest_cases (r : Request) (ok : Request → Bool) (run : Request → State → State × Answer) :
    s.settleRequest r ok run = .dropped ∨ (∃ a, s.settleRequest r ok run = .answered s a) ∨
      s.settleRequest r ok run = .answered (run r s).1 (run r s).2 ∧ ok r = true ∧
        (setupAllows r.code = true ∨ s.rc.loader.isLoading = false) := by
  have hrun := s.checkAndRun_cases r ok run
  unfold State.settleRequest
  split
  · split
    · next hallow => exact .inr (hrun.imp_right fun ⟨h, hok⟩ => ⟨h, hok, .inl hallow⟩)
    · exact .inl rfl
  · split
    · exact .inr (.inl ⟨_, rfl⟩)
    · split
      · exact .inr (.inl ⟨_, rfl⟩)
      · next hload =>
        split
        · exact .inr (.inl ⟨_, rfl⟩)
        · refine .inr (hrun.imp_right fun ⟨h, hok⟩ => ⟨h, hok, ?_⟩)
          by_cases hcode : r.code = some 0x01
          · exact .inl (by rw [hcode]; rfl)
          · exact .inr (by simpa [hcode] using hload)

/-- R171, R172: what serving the head request can come to: nothing, a removal, a refusal, or the request's own rule with
its answer. -/
theorem State.serve_cases (mine ok : Request → Bool) (run : Request → State → State × Answer) :
    s.serve mine ok run = s ∨ ∃ r rest, s.headRequest = some (r, rest) ∧ mine r = true ∧
      (s.serve mine ok run = (s.reserve rest).dropRequest ∨
        (∃ a, s.serve mine ok run = (s.reserve rest).answerWith r a) ∨
        s.serve mine ok run = (run r (s.reserve rest)).1.answerWith r (run r (s.reserve rest)).2 ∧ ok r = true ∧
          (setupAllows r.code = true ∨ s.rc.loader.isLoading = false)) := by
  unfold State.serve
  split
  · exact .inl rfl
  · next r rest hhead =>
    split
    · next hmine =>
      refine .inr ⟨r, rest, hhead, hmine, ?_⟩
      obtain h | ⟨a, h⟩ | ⟨h, hok, hload⟩ := (s.reserve rest).settleRequest_cases r ok run
      · exact .inl (by rw [h])
      · exact .inr (.inl ⟨a, by rw [h]⟩)
      · exact .inr (.inr ⟨by rw [h], hok, hload⟩)
    · exact .inl rfl

/-- Serving a request changes the two queues and what its own rule changes. -/
theorem State.serve_within {bs : List Block} (mine ok : Request → Bool) (run : Request → State → State × Answer)
    (hring : .ring ∈ bs) (hmu : .mu ∈ bs) (hrun : ∀ (r : Request) (t : State), t.Within bs (run r t).1) :
    s.Within bs (s.serve mine ok run) := by
  have hres : ∀ rest, s.Within bs (s.reserve rest) := fun rest => ((Within.refl s).setMu hmu).setRing hring
  obtain h | ⟨r, rest, -, -, h | ⟨a, h⟩ | ⟨h, -⟩⟩ := s.serve_cases mine ok run <;> rw [h]
  · exact .refl s
  · exact ((hres rest).setRing hring).post
  · exact (hres rest).setRing hring
  · exact ((hres rest).trans (hrun r _) (List.Subset.refl _)).setRing hring

/-! ### Every command -/

/-- The commands that put the device, or the blocks a SOFT RESET names, into a reset state (R9, R178, R180). -/
@[simp] def resets : Instr → Bool
  | .powerOn _ => true
  | .rstNLow _ => true
  | .rstNRelease _ => true
  | .softResetTaken _ _ => true
  | _ => false

/-- The blocks a command can change, where it is no reset. -/
@[simp] def touched : Instr → List Block
  | .setupLineChange _ => [.lines, .ring]
  | .doorLineChange _ => [.lines, .ring, .inter, .alloc, .cycles, .filters]
  | .floatLineChange _ => [.lines, .water]
  | .rxFrame _ => [.lines, .ring, .trans, .mu]
  | .transmitGrant => [.lines, .ring]
  | .noteOwedOffer | .flagSetClaim _ | .conditionPost _ _ | .muRunLevelChange _ => [.ring, .mu]
  | .sweepTimerExpiry | .ringRunLevelChange _ | .ringSwapTaken => [.ring]
  | .defrostRegimeSet | .defrostRegimeClear | .translatorOutputChanged _ _ | .regenActive | .regenInactive => [.trans]
  | .zoneStore _ _ _ _ | .zoneFaultReport _ _ | .boostToggle _ | .windowOpen _ | .windowShut _ | .regimeChanged
  | .sweepClose _ _ | .boostTimerExpiry _ | .windowTimerExpiry _ | .zoneSwapTaken => [.zones]
  | .zoneReview _ => [.alloc]
  | .dirtyRowOffer | .normalRequests _ _ | .runRequest _ _ | .stopRequest _ | .cyclePlan _ _ | .planRelease
  | .inhibitClaim _ | .inhibitRelease _ | .blowerFbSample _ | .minOnExpiry | .minOffExpiry | .settleTimerExpiry
  | .interlockSweepBegin _ | .interlockSwapTaken => [.inter, .ring]
  | .dryingAllocation _ | .dryingOutputOn _ | .dryingOutputOff _ | .dryingCoilTemp _ | .dryingCycleOutcome _ _ => [.dry]
  | .deposit _ _ | .removal _ _ | .uncertain | .tankLevel _ | .tankOut | .tankIn | .pumpOutOutcome _
  | .waterSwapTaken => [.water]
  | .cycleRequest _ | .cycleCoilTemp _ | .dpSample _ _ | .pumpFlow _ | .tankReport _ | .cycleOutputChanged _ _
  | .airflowLost | .cycleRunLevelChange _ | .stepTimerExpiry | .cycleTimerExpiry => [.cycles]
  | .filterAllocation _ | .profileOutcome _ _ | .filterSwapTaken => [.filters]
  | .banksSweepBegin _ | .sweepsDisabled | .validationComplete | .commitComplete | .copyPageComplete
  | .erasePageComplete => [.banks]
  | .loaderReadComplete _ | .loaderWriteComplete => [.banks, .rc]
  | .wakeEvent _ _ | .rcSwapTaken => [.rc]
  | .readStatus | .ackFlags | .setNoteMask | .readZone | .readFilter | .readTank | .readCycle | .readTable | .setAddress
  | .softReset | .unassignedRequest => [.ring, .mu]
  | .clearFault => [.ring, .mu, .inter, .water]
  | .setFilterCharge | .filterReset => [.ring, .mu, .filters]
  | .requestCycle | .abortCycle => [.ring, .mu, .cycles]
  | .setRegime => [.ring, .mu, .trans]
  | .setRunLevel => [.ring, .mu, .rc]
  | .loadStaging | .clearStaging | .copyLive | .swapBanks => [.ring, .mu, .banks]
  | .commitPage _ | .eraseShadow _ => [.ring, .mu, .lines, .banks]
  | .powerOn _ | .rstNLow _ | .rstNRelease _ | .softResetTaken _ _ => []

theorem State.taking_within {bs : List Block} {c : Instr} {t : State} {f : State → State} (h : taking c s f = .next t)
    (hf : ∀ u : State, u.Within bs (f u)) : (s.took c).Within bs t := by
  unfold taking at h
  split at h
  · cases h
    exact ⟨fun b _ => by cases b <;> rfl, fun _ he => List.mem_of_mem_erase he⟩
  · cases h
    exact hf _

theorem State.requestRow_within {bs : List Block} {c : Instr} {t : State} {code : Nat} {ok : Request → Bool}
    {run : Request → State → State × Answer} (h : requestRow c code ok run s = .next t)
    (hring : .ring ∈ bs) (hmu : .mu ∈ bs) (hrun : ∀ (r : Request) (u : State), u.Within bs (run r u).1) : (s.took c).Within bs t :=
  s.taking_within h fun u => u.serve_within _ ok run hring hmu hrun

end Sys2Proof.Machine
end

section
/-! The frame of every command, and of a step. -/

namespace Sys2Proof.Machine
open State

variable (s : State)

/-- The lines follow the pins, held or not, ahead of what the blocks make of the change. -/
theorem State.lineChange_within {bs : List Block} {c : Instr} {t : State} {x : Lines} {f : State → State}
    {p : Prop} [Decidable p]
    (h : (if p then .next (s.setLines x) else taking c (s.setLines x) f) = Host.Outcome.next t)
    (hb : .lines ∈ bs) (hf : ∀ u : State, u.Within bs (f u)) : (s.took c).Within bs t := by
  have hlines : (s.took c).Within bs ((s.setLines x).took c) := (Within.refl (s.took c)).setLines hb
  split at h
  · cases h
    exact hlines.update .lines hb (fun b _ => by cases b <;> rfl) fun _ he => List.mem_of_mem_erase he
  · exact hlines.trans ((s.setLines x).taking_within h hf) (List.Subset.refl _)

/-- What a command other than a reset leaves: the blocks it does not touch, and every event in flight but itself. -/
theorem exec_within {c : Instr} {t : State} (h : exec c s = .next t) (hc : resets c = false) :
    (s.took c).Within (touched c) t := by
  cases c with
  | powerOn _ => cases hc
  | rstNLow _ => cases hc
  | rstNRelease _ => cases hc
  | softResetTaken _ _ => cases hc
  | setupLineChange high => exact s.lineChange_within h (by simp) fun u => u.evalSweeps_within.mono (by simp)
  | doorLineChange isOpen =>
    refine s.lineChange_within h (by simp) fun u => ?_
    have hinter := (u.setInhibit_within .door isOpen).mono (bs := [.lines, .ring, .inter, .alloc, .cycles, .filters]) (by simp)
    exact ((hinter.post.setAlloc (by simp)).trans (State.cycleDoor_within _ isOpen) (by simp)).trans (State.filterDoor_within _ isOpen) (by simp)
  | floatLineChange raised => exact s.lineChange_within h (by simp) fun u => (u.takeFloat_within raised).mono (by simp)
  | rxFrame words =>
    change execRxFrame words s = _ at h
    unfold execRxFrame at h
    split at h
    · cases h
      exact ⟨fun b hb => by cases b <;> first | rfl | simp at hb, fun _ he => List.mem_of_mem_erase he⟩
    · exact s.taking_within h fun u => (u.runEnds_within words).mono (by simp)
  | transmitGrant =>
    rw [exec, execTransmitGrant] at h
    refine s.taking_within h fun u => ?_
    split
    · exact .refl u
    · exact ((Within.refl u).setRing (by simp)).trans (State.grant_within _) (by simp)
  | dirtyRowOffer => exact s.taking_within h fun u => u.offerDirty_within
  | noteOwedOffer => exact s.taking_within h fun u => u.offerOwedNote_within
  | sweepTimerExpiry =>
    rw [exec, execSweepTimerExpiry] at h
    refine s.taking_within h fun u => ?_
    split
    · exact u.sweepExpiry_within
    · exact .refl u
  | ringRunLevelChange _ =>
    rw [exec, execRingRunLevelChange] at h
    exact s.taking_within h fun u => ((Within.refl u).setRing (by simp)).trans (State.evalSweeps_within _) (by simp)
  | ringSwapTaken => exact s.taking_within h fun u => u.evalSweeps_within
  | defrostRegimeSet => exact s.taking_within h fun u => u.setDefrost_within _
  | defrostRegimeClear => exact s.taking_within h fun u => u.setDefrost_within _
  | translatorOutputChanged _ _ => exact s.taking_within h fun u => u.setGate_within _ _
  | regenActive => exact s.taking_within h fun u => u.setGate_within _ _
  | regenInactive => exact s.taking_within h fun u => u.setGate_within _ _
  | zoneStore _ _ _ _ => exact s.taking_within h fun u => (Within.refl u).setZones (by simp)
  | zoneFaultReport _ _ => exact s.taking_within h fun u => (Within.refl u).setZones (by simp)
  | boostToggle _ => exact s.taking_within h fun u => (Within.refl u).setZones (by simp)
  | windowOpen _ => exact s.taking_within h fun u => (Within.refl u).setZones (by simp)
  | windowShut _ => exact s.taking_within h fun u => u.endWindow_within _
  | regimeChanged =>
    rw [exec, execRegimeChanged] at h
    exact s.taking_within h fun u => (Within.refl u).setZones (by simp)
  | sweepClose _ _ =>
    rw [exec, execSweepClose] at h
    exact s.taking_within h fun u => ((Within.refl u).setZones (by simp)).post
  | boostTimerExpiry _ => exact s.taking_within h fun u => u.endBoost_within _
  | windowTimerExpiry _ => exact s.taking_within h fun u => u.endWindow_within _
  | zoneSwapTaken =>
    rw [exec, execZoneSwapTaken] at h
    exact s.taking_within h fun u => (Within.refl u).setZones (by simp)
  | zoneReview _ => exact s.taking_within h fun u => u.review_within _
  | normalRequests _ _ => exact s.taking_within h fun u => u.resolving_within _
  | runRequest _ _ => exact s.taking_within h fun u => u.resolving_within _
  | stopRequest _ => exact s.taking_within h fun u => u.resolving_within _
  | cyclePlan _ _ => exact s.taking_within h fun u => u.resolving_within _
  | planRelease => exact s.taking_within h fun u => u.resolving_within _
  | inhibitClaim _ => exact s.taking_within h fun u => u.setInhibit_within _ _
  | inhibitRelease _ => exact s.taking_within h fun u => u.setInhibit_within _ _
  | blowerFbSample _ => exact s.taking_within h fun u => u.takeFeedback_within _
  | minOnExpiry =>
    rw [exec, execMinOnExpiry] at h
    refine s.taking_within h fun u => ?_
    split
    · exact u.resolving_within _
    · exact .refl u
  | minOffExpiry =>
    rw [exec, execMinOffExpiry] at h
    refine s.taking_within h fun u => ?_
    split
    · exact u.resolving_within _
    · exact .refl u
  | settleTimerExpiry =>
    rw [exec, execSettleTimerExpiry] at h
    refine s.taking_within h fun u => ?_
    split
    · exact (Within.refl u).setInter (by simp)
    · exact .refl u
  | interlockSweepBegin _ =>
    rw [exec, execInterlockSweepBegin] at h
    exact s.taking_within h fun u => ((Within.refl u).setInter (by simp)).trans (State.offerDirty_within _) (by simp)
  | interlockSwapTaken => exact s.taking_within h fun u => u.resolving_within _
  | dryingAllocation _ => exact s.taking_within h fun u => u.dryEvent_within _ u.takeAllocation_within
  | dryingOutputOn _ =>
    rw [exec, execDryingOutputOn] at h
    refine s.taking_within h fun u => ?_
    split
    · exact .refl u
    · split
      · exact .refl u
      · exact u.dryEvent_within _ (u.dryOutputOn_within _)
  | dryingOutputOff _ =>
    rw [exec, execDryingOutputOff] at h
    refine s.taking_within h fun u => ?_
    split
    · exact .refl u
    · split
      · exact u.dryEvent_within _ (u.dryOutputOff_within _)
      · exact .refl u
  | dryingCoilTemp _ =>
    rw [exec, execDryingCoilTemp] at h
    refine s.taking_within h fun u => ?_
    split
    · exact .refl u
    · exact u.dryEvent_within _ (u.takeCoilTemp_within _)
  | dryingCycleOutcome _ _ => exact s.taking_within h fun u => u.dryEvent_within _ (((Within.refl u).setDry (by simp)).trans (State.actOnOutcome_within _) (by simp))
  | deposit _ _ =>
    rw [exec, execDeposit] at h
    refine s.taking_within h fun u => ?_
    split
    · exact u.waterEvent_within _ _
    · exact u.reportOnly_within _
  | removal _ _ =>
    rw [exec, execRemoval] at h
    refine s.taking_within h fun u => ?_
    split
    · exact u.waterEvent_within _ _
    · exact u.reportOnly_within _
  | uncertain =>
    rw [exec, execUncertain] at h
    refine s.taking_within h fun u => ?_
    split
    · exact u.reportOnly_within _
    · exact u.waterEvent_within _ _
  | tankLevel _ => exact s.taking_within h fun u => u.takeTankLevel_within _
  | tankOut =>
    rw [exec, execTankOut] at h
    refine s.taking_within h fun u => ?_
    split
    · exact u.waterEvent_within _ _
    · exact u.reportOnly_within _
  | tankIn =>
    rw [exec, execTankIn] at h
    refine s.taking_within h fun u => ?_
    split
    · exact u.waterEvent_within _ _
    · exact u.reportOnly_within _
  | pumpOutOutcome _ => exact s.taking_within h fun u => u.takePumpOutcome_within _
  | waterSwapTaken => exact s.taking_within h fun u => u.waterSwap_within
  | cycleRequest _ =>
    rw [exec, execCycleRequest] at h
    exact s.taking_within h fun u => u.requestCycle_within _
  | cycleCoilTemp _ =>
    rw [exec, execCycleCoilTemp] at h
    refine s.taking_within h fun u => ?_
    split
    · exact .refl u
    · exact u.cycleCoilTemp_within _
  | dpSample _ _ =>
    rw [exec, execDpSample] at h
    refine s.taking_within h fun u => ?_
    split
    · exact .refl u
    · exact u.dpSample_within _ _
  | pumpFlow _ =>
    rw [exec, execPumpFlow] at h
    refine s.taking_within h fun u => ?_
    split
    · exact .refl u
    · exact u.pumpFlow_within _
  | tankReport _ => exact s.taking_within h fun u => u.takeTankReport_within _
  | cycleOutputChanged _ _ =>
    rw [exec, execCycleOutputChanged] at h
    refine s.taking_within h fun u => ?_
    split
    · exact .refl u
    · split
      · exact (Within.refl u).setCycles (by simp)
      · exact .refl u
  | airflowLost =>
    rw [exec, execAirflowLost] at h
    refine s.taking_within h fun u => ?_
    split
    · exact .refl u
    · split
      · exact .refl u
      · exact u.endRunning_within _ _ _
  | cycleRunLevelChange _ => exact s.taking_within h fun u => u.cycleLevel_within _
  | stepTimerExpiry =>
    rw [exec, execStepTimerExpiry] at h
    refine s.taking_within h fun u => ?_
    split
    · exact .refl u
    · split
      · exact u.stepOver_within _
      · exact .refl u
  | cycleTimerExpiry =>
    rw [exec, execCycleTimerExpiry] at h
    refine s.taking_within h fun u => ?_
    split
    · exact .refl u
    · split
      · exact u.cycleOver_within _
      · exact .refl u
  | filterAllocation _ =>
    rw [exec, execFilterAllocation] at h
    exact s.taking_within h fun u => ((u.filterChange_within _).trans (State.countRun_within _) (by simp)).trans (State.profileStep_within _) (by simp)
  | profileOutcome _ _ => exact s.taking_within h fun u => u.takeProfile_within _ _
  | filterSwapTaken =>
    rw [exec, execFilterSwapTaken] at h
    exact s.taking_within h fun u => u.filterChange_within _
  | banksSweepBegin _ => exact s.taking_within h fun u => u.takePending_within
  | sweepsDisabled => exact s.taking_within h fun u => u.takePending_within
  | validationComplete =>
    rw [exec, execValidationComplete] at h
    refine s.taking_within h fun u => ?_
    split
    · exact u.validated_within _
    · exact .refl u
    · exact .refl u
    · exact .refl u
    · exact .refl u
  | commitComplete =>
    rw [exec, execCommitComplete] at h
    refine s.taking_within h fun u => ?_
    split
    · exact (Within.refl u).setBanks (by simp)
    · exact .refl u
    · exact .refl u
    · exact .refl u
    · exact .refl u
  | copyPageComplete =>
    rw [exec, execCopyPageComplete] at h
    refine s.taking_within h fun u => ?_
    split
    · exact (Within.refl u).setBanks (by simp)
    · exact .refl u
    · exact .refl u
    · exact .refl u
  | erasePageComplete =>
    rw [exec, execErasePageComplete] at h
    refine s.taking_within h fun u => ?_
    split
    · exact (Within.refl u).setBanks (by simp)
    · exact .refl u
    · exact .refl u
    · exact .refl u
  | loaderReadComplete words =>
    rw [exec, execLoaderReadComplete] at h
    refine s.taking_within h fun u => ?_
    split
    · exact u.headerRead_within words
    · exact u.descriptorRead_within _ words
    · exact u.imageRead_within _ _ _ words
    all_goals exact .refl u
  | loaderWriteComplete =>
    rw [exec, execLoaderWriteComplete] at h
    refine s.taking_within h fun u => ?_
    split
    · exact u.imageWritten_within _ _ _ _
    all_goals exact .refl u
  | flagSetClaim _ => exact s.taking_within h fun u => u.setFlag_within _
  | conditionPost _ _ => exact s.taking_within h fun u => u.setCondition_within _ _
  | muRunLevelChange _ => exact s.taking_within h fun u => u.setMuLevel_within _
  | wakeEvent _ _ =>
    rw [exec, execWakeEvent] at h
    refine s.taking_within h fun u => ?_
    extract_lets t'
    split
    · exact (Within.refl u).post.trans (State.setLevel_within _ _) (by simp)
    · exact (Within.refl u).post
  | rcSwapTaken =>
    rw [exec, execRcSwapTaken] at h
    refine s.taking_within h fun u => ?_
    split
    · exact u.setLevel_within _
    · exact .refl u
  | readStatus => exact s.requestRow_within h (by simp) (by simp) fun r u => .refl u
  | ackFlags => exact s.requestRow_within h (by simp) (by simp) fun r u => u.ackFlags_within _
  | setNoteMask => exact s.requestRow_within h (by simp) (by simp) fun r u => (Within.refl u).setMu (by simp)
  | clearFault =>
    refine s.requestRow_within h (by simp) (by simp) fun r u => ?_
    dsimp only [runClearFault]
    split
    · exact u.clearBlowerFault_within.mono (by simp)
    · exact u.clearPumpFault_within.mono (by simp)
  | readZone => exact s.requestRow_within h (by simp) (by simp) fun r u => .refl u
  | readFilter => exact s.requestRow_within h (by simp) (by simp) fun r u => .refl u
  | setFilterCharge => exact s.requestRow_within h (by simp) (by simp) fun r u => (u.setCharge_within _ _).mono (by simp)
  | filterReset => exact s.requestRow_within h (by simp) (by simp) fun r u => (u.filterReset_within _).mono (by simp)
  | readTank => exact s.requestRow_within h (by simp) (by simp) fun r u => .refl u
  | readCycle => exact s.requestRow_within h (by simp) (by simp) fun r u => .refl u
  | requestCycle => exact s.requestRow_within h (by simp) (by simp) fun r u => (u.requestCycle_within _).mono (by simp)
  | abortCycle => exact s.requestRow_within h (by simp) (by simp) fun r u => (u.abortCycle_within _).mono (by simp)
  | setRegime => exact s.requestRow_within h (by simp) (by simp) fun r u => (u.setNight_within _).mono (by simp)
  | setRunLevel => exact s.requestRow_within h (by simp) (by simp) fun r u => (u.setRunLevel_within _ _).mono (by simp)
  | loadStaging => exact s.requestRow_within h (by simp) (by simp) fun r u => u.storeRequest_within _ ((Within.refl u).setBanks (by simp))
  | clearStaging => exact s.requestRow_within h (by simp) (by simp) fun r u => u.storeRequest_within _ ((Within.refl u).setBanks (by simp))
  | commitPage _ => exact s.requestRow_within h (by simp) (by simp) fun r u => ((Within.refl u).setLines (by simp)).trans (State.storeRequest_within _ _ (State.commitPage_within _ _ _)) (by simp)
  | copyLive => exact s.requestRow_within h (by simp) (by simp) fun r u => u.storeRequest_within _ (u.copyLive_within.mono (by simp))
  | eraseShadow _ =>
    exact s.requestRow_within h (by simp) (by simp) fun r u => ((Within.refl u).setLines (by simp)).trans
      (State.storeRequest_within (bs := [.banks]) _ _ ((Within.refl _).setBanks (by simp))) (by simp)
  | swapBanks => exact s.requestRow_within h (by simp) (by simp) fun r u => u.storeRequest_within _ (u.swapBanks_within.mono (by simp))
  | readTable => exact s.requestRow_within h (by simp) (by simp) fun r u => .refl u
  | setAddress =>
    refine s.requestRow_within h (by simp) (by simp) fun r u => ?_
    unfold runSetAddress
    split
    · exact (Within.refl u).setRing (by simp)
    · exact .refl u
  | softReset => exact s.requestRow_within h (by simp) (by simp) fun r u => (Within.refl u).setMu (by simp)
  | unassignedRequest => exact s.taking_within h fun u => u.serve_within _ _ _ (by simp) (by simp) fun r v => .refl v

/-! ### Resets, time, and a step -/

/-- The blocks a SOFT RESET leaves as they are (R178). -/
theorem State.softReset_keeps (arriving between : Bool) :
    (s.softReset arriving between).lines = s.lines ∧ (s.softReset arriving between).held = s.held ∧
      (s.softReset arriving between).pending = s.pending := ⟨rfl, rfl, rfl⟩

/-- The four resets: what each comes to. -/
theorem exec_resets {c : Instr} {t : State} (h : exec c s = .next t) (hc : resets c = true) :
    (∃ l, t = State.atReset l s.free s.pending) ∨
      (∃ l, t = ((State.atReset l s.free s.pending).setPosts []).setHeld true) ∨ t = s ∨ t = s.took c ∨
      ∃ arriving between, t = (s.took c).softReset arriving between := by
  cases c with
  | powerOn x => exact .inl ⟨_, (Host.Outcome.next.inj h).symm⟩
  | rstNRelease x => exact .inl ⟨_, (Host.Outcome.next.inj h).symm⟩
  | rstNLow sent => exact .inr (.inl ⟨_, (Host.Outcome.next.inj h).symm⟩)
  | softResetTaken arriving between =>
    rw [exec, execSoftResetTaken, taking] at h
    split at h
    · exact .inr (.inr (.inl (Host.Outcome.next.inj h).symm))
    · obtain rfl := Host.Outcome.next.inj h
      split
      · exact .inr (.inr (.inr (.inr ⟨arriving, between, rfl⟩)))
      · exact .inr (.inr (.inr (.inl rfl)))
  | _ => cases hc

theorem State.tick_within : s.Within [.ring, .zones, .inter, .cycles, .subTick] s.tick := by
  unfold State.tick
  extract_lets t
  have ht : s.Within [.ring, .zones, .inter, .cycles, .subTick] t := (Within.refl s).setRing (by simp)
  split
  · exact (((ht.setSubTick (by simp)).setZones (by simp)).setInter (by simp)).setCycles (by simp)
  · exact ht.setSubTick (by simp)

/-- A step runs a command, or lets a unit of time pass, or does nothing. -/
theorem step_cases {t : State} (h : step s = .next t) :
    (∃ c rest, exec c (s.setPending rest) = .next t) ∨ (∃ c, exec c s = .next t) ∨ t = s.tick ∨ t = s := by
  unfold step at h
  split at h
  · exact .inl ⟨_, _, h⟩
  · unfold idle at h
    split at h
    · exact .inr (.inr (.inr (Host.Outcome.next.inj h).symm))
    · split at h
      · exact .inr (.inl ⟨_, h⟩)
      · exact .inr (.inr (.inl (Host.Outcome.next.inj h).symm))

/-- A property that every command, every unit of time and every change of the queue of waiting commands keeps, every step
keeps. -/
theorem step_keeps {P : State → Prop} (hexec : ∀ (c : Instr) (s t : State), P s → exec c s = .next t → P t)
    (htick : ∀ s : State, P s → P s.tick) (hpending : ∀ (s : State) (x : List Instr), P s → P (s.setPending x))
    {s t : State} (h : P s) (hs : step s = .next t) : P t := by
  obtain ⟨c, rest, hc⟩ | ⟨c, hc⟩ | rfl | rfl := step_cases s hs
  · exact hexec c _ t (hpending s rest h) hc
  · exact hexec c s t h hc
  · exact htick s h
  · exact h

/-- A property of the full reset state, whatever its lines, which no event in flight and no level of RST_N bears on, is kept
by a reset if a SOFT RESET keeps it. -/
theorem reset_keeps {P : State → Prop} (hreset : ∀ l free pending, P (State.atReset l free pending))
    (hposts : ∀ (s : State) (x : List Instr), P s → P (s.setPosts x))
    (hheld : ∀ s : State, P s → P (s.setHeld true))
    (hsoft : ∀ (s : State) (arriving between : Bool), P s → P (s.softReset arriving between))
    {c : Instr} {s t : State} (h : P s) (hc : resets c = true) (he : exec c s = .next t) : P t := by
  obtain ⟨l, rfl⟩ | ⟨l, rfl⟩ | rfl | rfl | ⟨a, b, rfl⟩ := exec_resets s he hc
  · exact hreset _ _ _
  · exact hheld _ (hposts _ _ (hreset _ _ _))
  · exact h
  · exact hposts _ _ h
  · exact hsoft _ a b (hposts _ _ h)

/-- A command leaves what it does not touch. -/
theorem exec_agrees {c : Instr} {t : State} (h : exec c s = .next t) (hc : resets c = false) (b : Block)
    (hb : b ∉ touched c) : s.agrees t b :=
  State.agrees_trans (by cases b <;> rfl) ((exec_within s h hc).same b hb)

/-- A command takes no event out of flight but itself. -/
theorem exec_posts {c : Instr} {t : State} (h : exec c s = .next t) (hc : resets c = false) {e : Instr}
    (he : e ∈ s.posts) (hne : e ≠ c) : e ∈ t.posts :=
  (exec_within s h hc).posts ((List.mem_erase_of_ne hne).2 he)

/-- R171, R172: a request row changes nothing but the two queues, or it executes its request and answers it. -/
theorem requestRow_cases {c : Instr} {t : State} {code : Nat} {ok : Request → Bool}
    {run : Request → State → State × Answer} (h : requestRow c code ok run s = .next t) :
    (s.took c).Within [.ring, .mu] t ∨ ∃ r rest, s.held = false ∧ s.headRequest = some (r, rest) ∧ ok r = true ∧
      (setupAllows (some code) = true ∨ s.rc.loader.isLoading = false) ∧
      t = (run r ((s.took c).reserve rest)).1.answerWith r (run r ((s.took c).reserve rest)).2 := by
  unfold requestRow taking at h
  split at h
  · cases h
    exact .inl ⟨fun b _ => by cases b <;> rfl, fun _ he => List.mem_of_mem_erase he⟩
  · next hheld =>
    obtain rfl := Host.Outcome.next.inj h
    obtain he | ⟨r, rest, hhead, hmine, he | ⟨a, he⟩ | ⟨he, hok, hload⟩⟩ := (s.took c).serve_cases _ ok run <;>
      simp only [State.took] at he <;> rw [he]
    · exact .inl (.refl _)
    · exact .inl (((((Within.refl _).setMu (by simp)).setRing (by simp)).setRing (by simp)).post)
    · exact .inl (((((Within.refl _).setMu (by simp)).setRing (by simp)).setRing (by simp)))
    · have hcode : r.code = some code := by simpa using hmine
      exact .inr ⟨r, rest, by simpa using hheld, hhead, hok, hcode ▸ hload, rfl⟩

end Sys2Proof.Machine
end

section
/-! The machine as a whole: the queue of waiting commands, the device's own work, and the units of time. -/

namespace Sys2Proof.Machine

/-- Settles O1, by the branch of a step that finds a command waiting. -/
theorem stepRunsFrontCommand : Obligations.StepRunsFrontCommand := by
  intro c rest s h
  rw [step, h]

/-! ### The device's own work (log 1, 2, 4) -/

theorem step_of_pending_nil (s : State) (h : s.pending = []) : step s = idle s := by rw [step, h]

theorem idle_held (s : State) (h : s.held = true) : idle s = .next s := by rw [idle, if_pos h]

theorem idle_of_ownWork (s : State) (c : Instr) (h : s.held = false) (hw : s.ownWork = some c) : idle s = exec c s := by
  rw [idle, if_neg (by simp [h]), hw]

theorem idle_of_no_ownWork (s : State) (h : s.held = false) (hw : s.ownWork = none) : idle s = .next s.tick := by
  rw [idle, if_neg (by simp [h]), hw]

theorem State.ownWork_of_posts (s : State) (e : Instr) (es : List Instr) (h : s.posts = e :: es) :
    s.ownWork = some e := by
  rw [State.ownWork, h]

theorem State.ownWork_of_request (s : State) (r : Request) (rest : List Request) (h : s.posts = [])
    (hr : s.headRequest = some (r, rest)) : s.ownWork = some (commandOf s.lines.calEn r) := by
  rw [State.ownWork, h, hr]

/-- With nothing in flight and no request to start, the port comes ahead of the expiries that are due. -/
theorem State.ownWork_of_quiet (s : State) (h : s.posts = []) (hr : s.headRequest = none) :
    s.ownWork = if s.portWork then some (if s.sendingSoft then .softResetTaken false false else .transmitGrant)
      else s.dueExpiry := by
  rw [State.ownWork, h, hr]

/-- Settles O2, by what the device finds to do: an event, a request, the port, an expiry, or nothing. -/
theorem emptyQueueRunsOwnWork : Obligations.EmptyQueueRunsOwnWork := by
  intro s hp
  rw [step_of_pending_nil s hp]
  refine ⟨idle_held s, fun h => ⟨fun e es he => ?event, fun he => ⟨fun r rest hr => ?request, fun hr => ?quiet⟩⟩⟩
  case event => exact idle_of_ownWork s e h (s.ownWork_of_posts e es he)
  case request => exact idle_of_ownWork s _ h (s.ownWork_of_request r rest he hr)
  case quiet =>
    have hw := s.ownWork_of_quiet he hr
    refine ⟨fun hport hsoft => ?_, fun hport hsoft => ?_, fun hport => ⟨fun c hdue => ?_, fun hdue => ?_⟩⟩
    · exact idle_of_ownWork s _ h (by rw [hw, hport, hsoft]; rfl)
    · exact idle_of_ownWork s _ h (by rw [hw, hport, hsoft]; rfl)
    · exact idle_of_ownWork s _ h (by rw [hw, hport, hdue]; rfl)
    · exact idle_of_no_ownWork s h (by rw [hw, hport, hdue]; rfl)

/-! ### Every command completes -/

/-- A device held in reset and an awake one both have a next state, whatever the command: no arm faults or refuses. -/
theorem exec_completes (c : Instr) (s : State) : ∃ t, exec c s = .next t := by
  cases c with
  | doorLineChange isOpen =>
    change ∃ t, (if s.held ∨ s.lines.door = isOpen then _ else taking _ _ _) = Host.Outcome.next t
    split
    · exact ⟨_, rfl⟩
    · exact taking_completes _ _ _
  | _ =>
    obtain ⟨lines, held, _⟩ := s
    cases held <;> exact ⟨_, rfl⟩

/-- No command touches the queue of waiting commands. -/
theorem exec_pending (c : Instr) (s t : State) (h : exec c s = .next t) : t.pending = s.pending := by
  by_cases hc : resets c = true
  · obtain ⟨l, rfl⟩ | ⟨l, rfl⟩ | rfl | rfl | ⟨a, b, rfl⟩ := exec_resets s h hc <;> rfl
  · have hp : .pending ∉ touched c := by cases c <;> simp
    exact exec_agrees s h (by simpa using hc) .pending hp

/-- Settles O3, by completion and the frame of the queue. -/
theorem everyCommandCompletes : Obligations.EveryCommandCompletes := fun c s =>
  (exec_completes c s).imp fun t h => ⟨h, exec_pending c s t h⟩

/-! ### RST_N low (R9) -/

theorem Lines.cutOff_none (l : Lines) (n : Nat) : l.cutOff n none = l := rfl
theorem Lines.cutOff_some (l : Lines) (n : Nat) (p : Sending) :
    l.cutOff n (some p) = { l with tx := p.words.take n, txOpen := decide (n < p.words.length) } := rfl

theorem exec_rstNLow (n : Nat) (s : State) : exec (.rstNLow n) s =
    .next { State.atReset (s.lines.cutOff n s.ring.port) s.free s.pending with posts := [], held := true } := rfl

/-- R9: the lines of a device held in reset after a command. -/
def Lines.whileHeld (c : Instr) (l : Lines) : Lines :=
  match c with
  | .rxFrame ws => l.bypass ws
  | .doorLineChange b => { l with door := b }
  | .floatLineChange b => { l with float := b }
  | .setupLineChange b => { l with setup := b }
  | _ => l

/-- R9: while RST_N is low only the lines follow. -/
theorem exec_of_held (c : Instr) (s : State) (hheld : s.held = true) (h1 : ∀ x, c ≠ .powerOn x)
    (h2 : ∀ x, c ≠ .rstNRelease x) (h3 : ∀ n, c ≠ .rstNLow n) :
    exec c s = .next (s.setLines (s.lines.whileHeld c)) := by
  obtain ⟨lines, held, _⟩ := s
  obtain rfl : held = true := hheld
  cases c with
  | powerOn x => exact absurd rfl (h1 x)
  | rstNRelease x => exact absurd rfl (h2 x)
  | rstNLow n => exact absurd rfl (h3 n)
  | doorLineChange b =>
    rw [exec, execDoorLineChange]
    exact if_pos (Or.inl rfl)
  | _ => rfl

/-- Settles O4, by the cut-off of the port's frame and the commands of a held device. -/
theorem resetLineHoldsEveryBlock : Obligations.ResetLineHoldsEveryBlock := by
  refine ⟨fun n s l hnone hsome => ?_, fun c s hheld h1 h2 h3 => ⟨_, exec_of_held c s hheld h1 h2 h3, ?_, ?_, ?_, ?_, ?_⟩⟩
  · have hl : l = s.lines.cutOff n s.ring.port := by
      cases hport : s.ring.port with
      | none => rw [hnone hport, Lines.cutOff_none]
      | some p => rw [hsome p hport, Lines.cutOff_some]
    rw [hl, exec_rstNLow]
  · rfl
  all_goals
    rintro x rfl
    rfl

/-! ### One unit of time (log 4, 58) -/

theorem State.tick_of_lt (s : State) (h : s.subTick < 19) : s.tick = s.tickSweep.setSubTick (s.subTick + 1) := by
  rw [State.tick, if_neg (by omega)]

theorem State.tick_of_le (s : State) (h : 19 ≤ s.subTick) : s.tick = (s.tickSweep.setSubTick 0).tickSecond := by
  rw [State.tick, if_pos h]

theorem mem_dueOf (e x : Instr) (timer : Option Nat) : e ∈ dueOf x timer ↔ e = x ∧ timer = some 0 := by
  unfold dueOf
  split <;> simp [*]

theorem mem_clockDue (s : State) (e : Instr) : e ∈ s.clockDue ↔
    (e = .minOnExpiry ∧ s.inter.stopHeld = true ∧ s.param 74 1 ≤ s.inter.clock.onTime) ∨
      (e = .minOffExpiry ∧ s.inter.startPending = true ∧ s.inter.proof = true ∧
        s.param 74 2 ≤ s.inter.clock.offTime) := by
  unfold State.clockDue
  rw [List.mem_append]
  refine or_congr ?_ ?_
  · split <;> simp_all [State.plant]
  · split <;> simp_all [State.plant]

theorem mem_cycleDue (c : Cycle) (e : Instr) : e ∈ c.due ↔
    (e = .stepTimerExpiry ∧ c.held = false ∧ c.stepTimer = some 0) ∨
      (e = .cycleTimerExpiry ∧ c.cycleTimer = some 0) := by
  unfold Cycle.due
  rw [List.mem_append, mem_dueOf]
  refine or_congr_left ?_
  cases c.held <;> simp [mem_dueOf]

theorem mem_zonesDue (zs : List Zone) (e : Instr) : e ∈ zs.zipIdx.flatMap (fun x => x.1.due x.2) ↔
    ∃ i z, zs[i]? = some z ∧ ((e = .boostTimerExpiry (Fin.ofNat 8 i) ∧ z.boost = some 0) ∨
      (e = .windowTimerExpiry (Fin.ofNat 8 i) ∧ z.window = some 0)) := by
  simp only [List.mem_flatMap, Prod.exists, List.mem_zipIdx_iff_getElem?, Zone.due, List.mem_append, mem_dueOf]
  exact exists_comm

/-- The expiries due, by their sources: the sweep timer, the hold timers, the compressor's times, the running cycle. -/
theorem mem_due (s : State) (e : Instr) : e ∈ s.due ↔
    (e = .sweepTimerExpiry ∧ s.ring.timer = some 0) ∨
      (∃ i z, s.zones[i]? = some z ∧ ((e = .boostTimerExpiry (Fin.ofNat 8 i) ∧ z.boost = some 0) ∨
        (e = .windowTimerExpiry (Fin.ofNat 8 i) ∧ z.window = some 0))) ∨
      e ∈ s.clockDue ∨ ∃ c, s.cycles.running = some c ∧ e ∈ c.due := by
  rw [State.due, List.mem_append, List.mem_append, List.mem_append, mem_dueOf, mem_zonesDue, or_assoc, or_assoc]
  simp

/-- With eight zones, the zone an expiry names is the zone its timer is of. -/
theorem exists_zone_iff (zs : List Zone) (h : zs.length = 8) (i : Fin 8) (p : Zone → Prop) :
    (∃ j z, zs[j]? = some z ∧ i = Fin.ofNat 8 j ∧ p z) ↔ ∃ z, zs[i.val]? = some z ∧ p z := by
  refine ⟨fun ⟨j, z, hz, hi, hp⟩ => ⟨z, ?_, hp⟩, fun ⟨z, hz, hp⟩ => ⟨i.val, z, hz, by simp, hp⟩⟩
  have hj : j < 8 := h ▸ (List.getElem?_eq_some_iff.1 hz).1
  have : i.val = j := by rw [hi, Fin.val_ofNat]; exact Nat.mod_eq_of_lt hj
  rw [this, hz]

/-- R50, R81, R84, R128: what one second does. -/
theorem State.tickSecond_eq (s : State) : s.tickSecond =
    ((s.setZones (s.zones.map Zone.tick)).setInter s.inter.tick).setCycles
      { s.cycles with running := s.cycles.running.map Cycle.tick } := rfl

theorem Interlock.tick_eq (i : Interlock) : i.tick = { i with
    settle := i.settle.map (fun t => t - 1)
    clock := match i.clock with
      | .on n => .on (min 1023 (n + 1))
      | .off n => .off (min 1023 (n + 1)) } := by
  unfold Interlock.tick CompClock.tick
  cases i.clock <;> rfl

theorem State.tick_ring (s : State) : s.tick.ring = { s.ring with timer := s.ring.timer.map fun t => t - 1 } := by
  rcases Nat.lt_or_ge s.subTick 19 with h | h
  · rw [s.tick_of_lt h]; rfl
  · rw [s.tick_of_le h]; rfl

/-- The expiries of the sweep timer, the compressor's times and the running cycle stand among those due by their timers alone. -/
theorem mem_due_iff (s : State) :
    (.sweepTimerExpiry ∈ s.due ↔ s.ring.timer = some 0) ∧
    (.minOnExpiry ∈ s.due ↔ s.inter.stopHeld = true ∧ s.param 74 1 ≤ s.inter.clock.onTime) ∧
    (.minOffExpiry ∈ s.due ↔
      s.inter.startPending = true ∧ s.inter.proof = true ∧ s.param 74 2 ≤ s.inter.clock.offTime) ∧
    (.stepTimerExpiry ∈ s.due ↔ ∃ c, s.cycles.running = some c ∧ c.held = false ∧ c.stepTimer = some 0) ∧
    (.cycleTimerExpiry ∈ s.due ↔ ∃ c, s.cycles.running = some c ∧ c.cycleTimer = some 0) := by
  simp [mem_due, mem_clockDue, mem_cycleDue]

/-- With eight zones, a hold expiry is due by the timer of the zone it names. -/
theorem mem_due_hold_iff (s : State) (hz : s.zones.length = 8) (i : Fin 8) :
    (.boostTimerExpiry i ∈ s.due ↔ ∃ z, s.zones[i.val]? = some z ∧ z.boost = some 0) ∧
      (.windowTimerExpiry i ∈ s.due ↔ ∃ z, s.zones[i.val]? = some z ∧ z.window = some 0) := by
  rw [← exists_zone_iff s.zones hz i fun z => z.boost = some 0,
    ← exists_zone_iff s.zones hz i fun z => z.window = some 0]
  simp [mem_due, mem_clockDue, mem_cycleDue]

/-- Settles O5, by the two forms of a unit and the sources of the expiries. -/
theorem timePassesInUnits : Obligations.TimePassesInUnits := by
  intro s
  obtain ⟨hsweep, hminOn, hminOff, hstep, hcycle⟩ := mem_due_iff s
  refine ⟨s.tick_ring, fun h => ?unit, fun h => ?second, hsweep, mem_due_hold_iff s, hminOn, hminOff, hstep, hcycle,
    fun e he => List.mem_of_mem_head? he, List.head?_eq_none_iff⟩
  case unit =>
    rw [s.tick_of_lt h]
    exact ⟨rfl, rfl⟩
  case second =>
    rw [s.tick_of_le h, State.tickSecond_eq]
    exact ⟨rfl, rfl, s.inter.tick_eq, rfl, by apply State.ext <;> simp [State.tickSweep]⟩

/-! ### The full reset (R9, R180) -/

/-- R7: straps of 30 and 31 are taken as 29. -/
theorem min_29_eq (n : Nat) : min n 29 = if 29 < n then 29 else n := by
  split <;> omega

/-- Settles O6, by the reset state field by field. -/
theorem fullResetGivesTheTables : Obligations.FullResetGivesTheTables := by
  intro x s
  have hgates : ∀ g, (State.atReset (s.lines.withStraps x) s.free s.pending).trans.gates.get g = false := by
    intro g; cases g <;> rfl
  have hrecords : ∀ k, (State.atReset (s.lines.withStraps x) s.free s.pending).cycles.record k = .atReset := by
    intro k; cases k <;> rfl
  have hstages : ∀ st, (State.atReset (s.lines.withStraps x) s.free s.pending).filters.stage st = .atReset := by
    intro st; cases st <;> rfl
  have hown : (State.atReset (s.lines.withStraps x) s.free s.pending).ring.own =
      if 29 < x.addr.toNat then 29 else x.addr.toNat := min_29_eq _
  refine ⟨_, exec_powerOn x s, exec_rstNRelease x s, ?_⟩
  and_intros
  all_goals first | exact hown | exact hgates | exact hrecords | exact hstages | rfl

end Sys2Proof.Machine
end

section
/-! What a command can do to the Table Banks and the loader (chapters 10, 12), and the laws of the banks that every step
keeps (R157, R161, R165, R181, log 40). -/

namespace Sys2Proof.Machine
open State

/-! ### What a command can do to the banks and the loader -/

/-- The Table Banks b with the loader l, before, and after a command. -/
inductive BanksStep (b : Banks) (l : Loader) : Banks → Loader → Prop
  | stays : BanksStep b l b l
  /-- R158: the staging buffer is written. -/
  | stages (o : Nat) (ws : List Word) (m : List Bool) : b.busy = false →
      BanksStep b l { b with staging := b.staging.writeList o ws, marks := m } l
  /-- R160, R163, R164: the engine starts. -/
  | starts (e : Engine) : b.busy = false → l.isLoading = false → (∀ p w, e = .committing p w → p < 79 ∧ w = false) →
      (e = .copying → b.live ≠ none) → BanksStep b l { b with engine := e, progress := 0 } l
  /-- R165: a swap becomes pending. -/
  | awaits : b.busy = false → l.isLoading = false → b.shadow.complete = true →
      BanksStep b l { b with swapPending := true } l
  /-- R165: a swap is taken at once. -/
  | swaps : b.busy = false → l.isLoading = false → b.shadow.complete = true → BanksStep b l b.swapped l
  /-- R166: a pending swap is taken. -/
  | takes : b.swapPending = true → BanksStep b l b.swapped l
  /-- R161: a commit fails its validation. -/
  | refuses (p o : Nat) : b.engine = .committing p false → BanksStep b l (b.ends .commit (some p) (.failed o)) l
  /-- R161: a commit passes its validation. -/
  | passes (p : Nat) : b.engine = .committing p false → firstFailure p (b.builtPage p) = none →
      BanksStep b l { b with engine := .committing p true } l
  /-- R160: a commit's page is written. -/
  | commits (p : Nat) : b.engine = .committing p true → BanksStep b l (b.committed p) l
  /-- R163: a page is copied. -/
  | copies : b.engine = .copying → BanksStep b l b.copied l
  /-- R164: a page is erased. -/
  | erases (keepCal : Bool) : b.engine = .erasing keepCal → BanksStep b l (b.erased keepCal) l
  /-- R181: the walk reads on, or fails. -/
  | walks (w : Walk) (l' : Loader) : l = .loading w → (∀ i p a n, l' = .loading (.image i p a n) → p < 79) →
      (∀ i p image n, l' = .loading (.write i p image n) →
        (∃ a, w = .image i p a n) ∧ image.length = 64 ∧ firstFailure p image = none) → BanksStep b l b l'
  /-- R182: an image fails its validation. -/
  | rejects (w : Walk) (p i o : Nat) (r : LoadFailure) : l = .loading w →
      BanksStep b l (b.ends .load (some p) (.failed o)) (.failed r i)
  /-- R181: an image is written, and the walk goes on, or fails. -/
  | writes (i p : Nat) (image : List Word) (n : Word) (l' : Loader) : l = .loading (.write i p image n) →
      (∀ w, l' = .loading w → ∃ j a, w = .descriptor j a) →
      BanksStep b l ((b.putShadow p image .written).ends .load (some p) .done) l'
  /-- R181: the chain has ended, and the swap is taken. -/
  | loads (w : Walk) (b' : Banks) : l = .loading w →
      (b' = b ∨ ∃ i p image n, w = .write i p image n ∧
        b' = (b.putShadow p image .written).ends .load (some p) .done) →
      b'.shadow.complete = true → BanksStep b l b'.swapped .loaded
  /-- R170. -/
  | softResets (index : Nat) (between : Bool) : BanksStep b l (b.softReset index between) l
  /-- R169, R180. -/
  | resets (autold : Bool) : BanksStep b l .atReset (RunControl.atReset autold).loader

/-- The banks and the loader of one state became those of another. -/
abbrev State.BanksTo (s t : State) : Prop := BanksStep s.banks s.rc.loader t.banks t.rc.loader

theorem State.BanksTo.of_eq {s t : State} (hb : t.banks = s.banks) (hl : t.rc.loader = s.rc.loader) : s.BanksTo t := by
  rw [State.BanksTo, hb, hl]
  exact .stays

/-- A command of the device other than a reset changes neither the banks nor the loader where it touches neither. -/
theorem State.BanksTo.of_untouched {c : Instr} {s t : State} (he : exec c s = .next t) (hc : resets c = false)
    (hb : .banks ∉ touched c) (hr : .rc ∉ touched c) : s.BanksTo t :=
  .of_eq (exec_agrees s he hc .banks hb) (congrArg RunControl.loader (exec_agrees s he hc .rc hr))

theorem State.BanksTo.of_taking {c : Instr} {s t : State} {f : State → State} (he : taking c s f = .next t)
    (hf : ∀ u : State, u.BanksTo (f u)) : s.BanksTo t := by
  unfold taking at he
  split at he
  · cases he; exact .stays
  · cases he; exact hf (s.took c)

theorem State.BanksTo.of_within {s t : State} (h : s.Within [.ring, .mu] t) : s.BanksTo t :=
  .of_eq (h.same .banks (by simp)) (congrArg RunControl.loader (h.same .rc (by simp)))

/-- A request row changes the banks and the loader as its own rule does. -/
theorem State.BanksTo.of_requestRow {c : Instr} {s t : State} {code : Nat} {ok : Request → Bool}
    {run : Request → State → State × Answer} (he : requestRow c code ok run s = .next t)
    (hcode : setupAllows (some code) = false)
    (hrun : ∀ (r : Request) (u : State), u.rc.loader.isLoading = false → u.BanksTo (run r u).1) : s.BanksTo t := by
  obtain h | ⟨r, rest, -, -, -, hload, rfl⟩ := requestRow_cases s he
  · exact State.BanksTo.of_within (s := s.took c) h
  · exact hrun r ((s.took c).reserve rest) (hload.resolve_left (by rw [hcode]; exact Bool.false_ne_true))

theorem State.BanksTo.of_storeRequest {s : State} {f : State → State × Answer}
    (hf : s.banks.busy = false → s.BanksTo (f s).1) : s.BanksTo (s.storeRequest f).1 := by
  unfold State.storeRequest
  split
  · exact .stays
  · next h => exact hf (by simpa using h)

theorem State.setLevel_loader (s : State) (l : RunLevel) : (s.setLevel l).rc.loader = s.rc.loader := by
  unfold State.setLevel
  split <;> rfl

theorem State.setLevel_banks (s : State) (l : RunLevel) : (s.setLevel l).banks = s.banks :=
  (s.setLevel_within l).same .banks (by simp)

theorem State.takePending_banksTo (s : State) : s.BanksTo s.takePending := by
  unfold State.takePending
  split
  · next h => exact .takes h
  · exact .stays

theorem State.validated_banksTo (s : State) (p : Nat) (h : s.banks.engine = .committing p false) :
    s.BanksTo (s.validated p) := by
  unfold State.validated
  split
  · exact .refuses p _ h
  · next hv => exact .passes p h hv

theorem State.commitPage_banksTo (s : State) (p : Nat) (calEn : Bool) (hl : s.rc.loader.isLoading = false)
    (hb : s.banks.busy = false) : s.BanksTo (s.commitPage p calEn).1 := by
  unfold State.commitPage
  split
  · exact .stays
  · split
    · exact .stays
    · exact .starts _ hb hl (fun q w e => by cases e; exact ⟨by omega, rfl⟩) (fun e => by cases e)

theorem State.copyLive_banksTo (s : State) (hl : s.rc.loader.isLoading = false) (hb : s.banks.busy = false) :
    s.BanksTo s.copyLive.1 := by
  unfold State.copyLive
  split
  · next hlive => exact .starts _ hb hl (fun _ _ e => by cases e) fun _ e => by simp [State.isLive, e] at hlive
  · exact .stays

theorem State.swapBanks_banksTo (s : State) (hl : s.rc.loader.isLoading = false) (hb : s.banks.busy = false) :
    s.BanksTo s.swapBanks.1 := by
  unfold State.swapBanks
  split
  · exact .stays
  · next hcomplete =>
    have hcomplete : s.banks.shadow.complete = true := by simpa using hcomplete
    split
    · exact .stays
    · split
      · exact .awaits hb hl hcomplete
      · exact .swaps hb hl hcomplete

/-- R181: the end of the chain, for the banks b with which the walk began its last event. -/
theorem State.walkEnd_banksStep (s : State) (b : Banks) (w : Walk) (index : Nat)
    (h : s.banks = b ∨ ∃ i p image n, w = .write i p image n ∧
      s.banks = (b.putShadow p image .written).ends .load (some p) .done) :
    BanksStep b (.loading w) (s.walkEnd index).banks (s.walkEnd index).rc.loader := by
  have hfail : ∀ r, BanksStep b (.loading w) s.banks (.failed r index) := by
    intro r
    obtain h | ⟨i, p, image, n, rfl, h⟩ := h
    · rw [h]
      exact .walks w _ rfl (fun _ _ _ _ e => by cases e) fun _ _ _ _ e => by cases e
    · rw [h]
      exact .writes i p image n _ rfl fun _ e => by cases e
  unfold State.walkEnd
  split
  · exact hfail _
  · next hcomplete =>
    split
    · exact hfail _
    · exact .loads w s.banks rfl h (by simpa using hcomplete)

theorem State.headerRead_banksTo (s : State) (ws : List Word) (h : s.rc.loader = .loading .header) :
    s.BanksTo (s.headerRead ws) := by
  rw [State.BanksTo, h]
  have hwalk : ∀ l', (∀ i p a n, l' ≠ .loading (.image i p a n)) → (∀ i p image n, l' ≠ .loading (.write i p image n)) →
      BanksStep s.banks (.loading .header) s.banks l' := fun l' h1 h2 =>
    .walks .header l' rfl (fun i p a n e => absurd e (h1 i p a n)) fun i p image n e => absurd e (h2 i p image n)
  unfold State.headerRead
  extract_lets signature version first
  split
  · exact hwalk _ (by simp [State.loadFailed, State.setLoader]) (by simp [State.loadFailed, State.setLoader])
  · split
    · exact hwalk _ (by simp [State.loadFailed, State.setLoader]) (by simp [State.loadFailed, State.setLoader])
    · split
      · exact s.walkEnd_banksStep s.banks .header 0 (.inl rfl)
      · exact hwalk _ (by simp [State.setLoader]) (by simp [State.setLoader])

theorem State.descriptorRead_banksTo (s : State) (i : Nat) (a : Word) (ws : List Word)
    (h : s.rc.loader = .loading (.descriptor i a)) : s.BanksTo (s.descriptorRead i ws) := by
  rw [State.BanksTo, h]
  unfold State.descriptorRead
  extract_lets page
  split
  · exact .walks _ _ rfl (fun _ _ _ _ e => by cases e) fun _ _ _ _ e => by cases e
  · exact .walks _ _ rfl (fun _ _ _ _ e => by cases e; omega) fun _ _ _ _ e => by cases e

theorem State.imageRead_banksTo (s : State) (i p : Nat) (a next : Word) (ws : List Word)
    (h : s.rc.loader = .loading (.image i p a next)) : s.BanksTo (s.imageRead i p next ws) := by
  rw [State.BanksTo, h]
  unfold State.imageRead
  extract_lets image
  split
  · exact .rejects _ p i _ _ rfl
  · next hv =>
    refine .walks _ _ rfl (fun _ _ _ _ e => by cases e) fun _ _ _ _ e => ?_
    cases e
    exact ⟨⟨a, rfl⟩, by simp [image], hv⟩

theorem State.imageWritten_banksTo (s : State) (i p : Nat) (image : List Word) (next : Word)
    (h : s.rc.loader = .loading (.write i p image next)) : s.BanksTo (s.imageWritten i p image next) := by
  rw [State.BanksTo, h]
  unfold State.imageWritten
  extract_lets t
  split
  · exact t.walkEnd_banksStep s.banks _ i (.inr ⟨i, p, image, next, rfl, rfl⟩)
  · split
    · exact .writes i p image next _ rfl fun _ e => by cases e
    · exact .writes i p image next _ rfl fun _ e => by cases e; exact ⟨_, _, rfl⟩

/-- Every command changes the banks and the loader in one of these ways. -/
theorem exec_banksTo {c : Instr} {s t : State} (h : exec c s = .next t) : s.BanksTo t := by
  by_cases hc : resets c = true
  · obtain ⟨l, rfl⟩ | ⟨l, rfl⟩ | rfl | rfl | ⟨a, b, rfl⟩ := exec_resets s h hc
    · exact .resets l.autold
    · exact .resets l.autold
    · exact .stays
    · exact .stays
    · exact .softResets s.free b
  · have hc : resets c = false := by simpa using hc
    cases c with
    | banksSweepBegin n => exact .of_taking h State.takePending_banksTo
    | sweepsDisabled => exact .of_taking h State.takePending_banksTo
    | validationComplete =>
      rw [exec, execValidationComplete] at h
      refine .of_taking h fun u => ?_
      split
      · next p he => exact u.validated_banksTo p he
      all_goals exact .stays
    | commitComplete =>
      rw [exec, execCommitComplete] at h
      refine .of_taking h fun u => ?_
      split
      · next p he => exact .commits p he
      all_goals exact .stays
    | copyPageComplete =>
      rw [exec, execCopyPageComplete] at h
      refine .of_taking h fun u => ?_
      split
      · next he => exact .copies he
      all_goals exact .stays
    | erasePageComplete =>
      rw [exec, execErasePageComplete] at h
      refine .of_taking h fun u => ?_
      split
      · next k he => exact .erases k he
      all_goals exact .stays
    | loaderReadComplete words =>
      rw [exec, execLoaderReadComplete] at h
      refine .of_taking h fun u => ?_
      split
      · next hl => exact u.headerRead_banksTo words hl
      · next i a hl => exact u.descriptorRead_banksTo i a words hl
      · next i p a n hl => exact u.imageRead_banksTo i p a n words hl
      all_goals exact .stays
    | loaderWriteComplete =>
      rw [exec, execLoaderWriteComplete] at h
      refine .of_taking h fun u => ?_
      split
      · next i p image n hl => exact u.imageWritten_banksTo i p image n hl
      all_goals exact .stays
    | wakeEvent f v =>
      rw [exec, execWakeEvent] at h
      refine .of_taking h fun u => ?_
      extract_lets t'
      split
      · exact .of_eq (t'.setLevel_banks _) (t'.setLevel_loader _)
      · exact .stays
    | rcSwapTaken =>
      rw [exec, execRcSwapTaken] at h
      refine .of_taking h fun u => ?_
      split
      · exact .of_eq (u.setLevel_banks _) (u.setLevel_loader _)
      · exact .stays
    | setRunLevel =>
      refine .of_requestRow h rfl fun r u _ => ?_
      unfold runSetRunLevel State.setRunLevel
      split
      · exact .stays
      · exact .of_eq (State.setLevel_banks _ _) (State.setLevel_loader _ _)
    | loadStaging => exact .of_requestRow h rfl fun r u _ => .of_storeRequest fun hb => .stages _ _ _ hb
    | clearStaging =>
      exact .of_requestRow h rfl fun r u _ => .of_storeRequest fun hb => .stages 0 [] noMarks hb
    | commitPage calEn =>
      exact .of_requestRow h rfl fun r u hl =>
        .of_storeRequest (s := u.sampleCal calEn) fun hb => State.commitPage_banksTo _ _ _ hl hb
    | copyLive => exact .of_requestRow h rfl fun r u hl => .of_storeRequest (u.copyLive_banksTo hl)
    | eraseShadow calEn =>
      exact .of_requestRow h rfl fun r u hl => .of_storeRequest (s := u.sampleCal calEn) fun hb =>
        .starts _ hb hl (fun _ _ e => by cases e) fun e => by cases e
    | swapBanks => exact .of_requestRow h rfl fun r u hl => .of_storeRequest (u.swapBanks_banksTo hl)
    | _ => exact .of_untouched h hc (by simp) (by simp)

/-! ### The operations of the banks, field by field -/

theorem Banks.busy_eq_false (b : Banks) : b.busy = false ↔ b.engine = .idle ∧ b.swapPending = false := by
  simp [Banks.busy]

/-- R157: a bank is COMPLETE when each of its 79 pages is WRITTEN. -/
theorem Bank.complete_iff (b : Bank) (h : b.status.length = 79) :
    b.complete = true ↔ ∀ p < 79, b.status[p]? = some .written := by
  simp only [Bank.complete, List.all_eq_true, beq_iff_eq]
  refine ⟨fun hall p hp => ?_, fun hall x hx => ?_⟩
  · have hlt : p < b.status.length := by omega
    rw [List.getElem?_eq_getElem hlt, hall _ (List.getElem_mem hlt)]
  · obtain ⟨p, hp, rfl⟩ := List.getElem_of_mem hx
    have := hall p (by omega)
    rw [List.getElem?_eq_getElem hp] at this
    exact Option.some.inj this

theorem Banks.bank_setBank (b : Banks) (id id' : BankId) (x : Bank) :
    (b.setBank id x).bank id' = if id' = id then x else b.bank id' := by
  cases id <;> cases id' <;> rfl

/-- R157: the page put into the shadow is in no other bank. -/
theorem Banks.bank_putShadow (b : Banks) (id : BankId) (p : Nat) (ws : List Word) (st : PageStatus) :
    (b.putShadow p ws st).bank id = if id = b.shadowId then (b.bank id).putPage p ws st else b.bank id := by
  unfold Banks.putShadow
  rw [Banks.bank_setBank]
  split
  · next h => rw [h]; rfl
  · rfl

/-- R166: a swap changes no words and no statuses. -/
theorem Banks.bank_swapped (b : Banks) (id : BankId) :
    (b.swapped.bank id).mem = (b.bank id).mem ∧ (b.swapped.bank id).status = (b.bank id).status := by
  have h : b.swapped.bank id = (b.setBank b.shadowId { b.shadow with stamp := some ((b.generation + 1) % 65536) }).bank id := by
    cases id <;> rfl
  rw [h, Banks.bank_setBank]
  split
  · next e => rw [e]; exact ⟨rfl, rfl⟩
  · exact ⟨rfl, rfl⟩

@[simp] theorem Banks.live_swapped (b : Banks) : b.swapped.live = some b.shadowId := rfl
@[simp] theorem Banks.swapPending_swapped (b : Banks) : b.swapped.swapPending = false := rfl
@[simp] theorem Banks.bank_ends (b : Banks) (op : StoreOp) (p : Option Nat) (o : StoreOutcome) (id : BankId) :
    (b.ends op p o).bank id = b.bank id := by cases id <;> rfl
@[simp] theorem Banks.engine_ends (b : Banks) (op : StoreOp) (p : Option Nat) (o : StoreOutcome) :
    (b.ends op p o).engine = .idle := rfl
@[simp] theorem Banks.swapPending_ends (b : Banks) (op : StoreOp) (p : Option Nat) (o : StoreOutcome) :
    (b.ends op p o).swapPending = b.swapPending := rfl

theorem Banks.engine_swapped (b : Banks) : b.swapped.engine = b.engine := by
  unfold Banks.swapped
  cases b.shadowId <;> rfl

theorem Banks.staging_swapped (b : Banks) : b.swapped.staging = b.staging := by
  unfold Banks.swapped
  cases b.shadowId <;> rfl

theorem Banks.staging_putShadow (b : Banks) (p : Nat) (ws : List Word) (st : PageStatus) :
    (b.putShadow p ws st).staging = b.staging := by
  unfold Banks.putShadow
  cases b.shadowId <;> rfl

theorem Banks.swapPending_putShadow (b : Banks) (p : Nat) (ws : List Word) (st : PageStatus) :
    (b.putShadow p ws st).swapPending = b.swapPending := by
  unfold Banks.putShadow
  cases b.shadowId <;> rfl

/-- R157: the shadow is never the live bank. -/
theorem Banks.shadowId_ne_of_live (b : Banks) (id : BankId) (h : b.live = some id) : id ≠ b.shadowId := by
  cases id <;> simp [Banks.shadowId, h, BankId.other]

theorem Banks.engine_putShadow (b : Banks) (p : Nat) (ws : List Word) (st : PageStatus) :
    (b.putShadow p ws st).engine = b.engine := by
  unfold Banks.putShadow
  cases b.shadowId <;> rfl

theorem Bank.length_status_putPage (b : Bank) (p : Nat) (ws : List Word) (st : PageStatus) :
    (b.putPage p ws st).status.length = b.status.length := by
  rw [Bank.putPage, List.length_set]

/-- R163, R164: the progress of an operation and its end change no bank, and neither the selector nor a pending swap. -/
theorem Banks.advance_keeps (b : Banks) (op : StoreOp) (n : Nat) :
    (∀ id, (b.advance op n).bank id = b.bank id) ∧ (b.advance op n).live = b.live ∧
      (b.advance op n).swapPending = b.swapPending ∧ (b.advance op n).staging = b.staging ∧
      ((b.advance op n).engine = .idle ∨ (b.advance op n).engine = b.engine) := by
  unfold Banks.advance
  split
  · exact ⟨fun id => by cases id <;> rfl, rfl, rfl, rfl, .inl rfl⟩
  · exact ⟨fun id => by cases id <;> rfl, rfl, rfl, rfl, .inr rfl⟩

/-- R159, R170: the banks b' are the banks b but for one torn page of the shadow, or none; the engine is IDLE. -/
structure Banks.CutTo (b b' : Banks) : Prop where
  bank : (∀ id, b'.bank id = b.bank id) ∨
    ∃ p ws, ws.length = 64 ∧ ∀ id, b'.bank id = (b.putShadow p ws .torn).bank id
  live : b'.live = b.live
  staging : b'.staging = b.staging
  engine : b'.engine = .idle

theorem Banks.cutTo_ends (b : Banks) (op : StoreOp) (page : Option Nat) : b.CutTo (b.ends op page .torn) :=
  ⟨.inl (b.bank_ends op page .torn), rfl, rfl, rfl⟩

theorem Banks.cutTo_tear (b : Banks) (index p : Nat) (new : List Word) (op : StoreOp) (page : Option Nat) :
    b.CutTo ((b.tear index p new).ends op page .torn) :=
  ⟨.inr ⟨p, tornWords index (b.shadow.page p) new, by simp [tornWords], fun id => by rw [Banks.bank_ends, Banks.tear]⟩,
    b.live_putShadow _ _ _, b.staging_putShadow _ _ _, rfl⟩

theorem Banks.cutTo_cutPage (b : Banks) (op : StoreOp) (index : Nat) (between : Bool) (new : List Word) :
    b.CutTo (b.cutPage op index between new) := by
  unfold Banks.cutPage
  split
  · exact b.cutTo_ends op none
  · exact b.cutTo_tear _ _ _ op _

theorem Banks.cutTo_cutOff (b : Banks) (index : Nat) (between : Bool) : b.CutTo (b.cutOff index between) := by
  unfold Banks.cutOff
  split
  · next he => exact ⟨.inl fun _ => rfl, rfl, rfl, he⟩
  · exact b.cutTo_ends .commit _
  · exact b.cutTo_tear _ _ _ .commit _
  · exact b.cutTo_cutPage .copy _ _ _
  · exact b.cutTo_cutPage .erase _ _ _

/-- R170: a SOFT RESET cuts off what the engine was writing. -/
theorem Banks.cutTo_softReset (b : Banks) (index : Nat) (between : Bool) : b.CutTo (b.softReset index between) := by
  obtain ⟨hbank, hlive, hstaging, hengine⟩ := b.cutTo_cutOff index between
  have hsame : ∀ id, (b.softReset index between).bank id = (b.cutOff index between).bank id := by
    intro id
    unfold Banks.softReset
    cases id <;> rfl
  simp only [← hsame] at hbank
  exact ⟨hbank, hlive, hstaging, hengine⟩

@[simp] theorem Banks.swapPending_softReset (b : Banks) (index : Nat) (between : Bool) :
    (b.softReset index between).swapPending = false := rfl

end Sys2Proof.Machine
end

section
/-! The laws of the banks that every step keeps: the canonical form of the memories (log 40), the live bank whole (R157,
R165), and every WRITTEN page valid (R161, R181). -/

namespace Sys2Proof.Machine
open State

variable {b b' : Banks} {l l' : Loader}

/-- A property of the banks and the loader that every such change keeps, every step keeps. -/
theorem step_keeps_banks {Q : Banks → Loader → Prop} (hQ : ∀ {b l b' l'}, Q b l → BanksStep b l b' l' → Q b' l')
    {s t : State} (h : Q s.banks s.rc.loader) (hs : step s = .next t) : Q t.banks t.rc.loader := by
  refine step_keeps (P := fun s => Q s.banks s.rc.loader) (fun c s t h he => hQ h (exec_banksTo he))
    (fun s h => ?_) (fun s x h => h) h hs
  have htick := s.tick_within
  rw [htick.same .banks (by simp), htick.same .rc (by simp)]
  exact h

/-! ### The canonical form (log 40) -/

/-- Both banks and the staging buffer are in the canonical form. -/
structure Banks.MemsWf (b : Banks) : Prop where
  bank : ∀ id, Memory.wf (b.bank id).mem
  staging : Memory.wf b.staging

theorem State.memoriesWf_iff (s : State) : s.MemoriesWf ↔ s.banks.MemsWf :=
  ⟨fun ⟨ha, hb, hs⟩ => ⟨fun id => by cases id <;> [exact ha; exact hb], hs⟩,
    fun h => ⟨h.bank .a, h.bank .b, h.staging⟩⟩

theorem Banks.MemsWf.of_eq (h : b.MemsWf) (hbank : ∀ id, b'.bank id = b.bank id) (hstaging : b'.staging = b.staging) :
    b'.MemsWf :=
  ⟨fun id => hbank id ▸ h.bank id, hstaging ▸ h.staging⟩

theorem Banks.MemsWf.putShadow (h : b.MemsWf) (p : Nat) (ws : List Word) (st : PageStatus) :
    (b.putShadow p ws st).MemsWf := by
  obtain ⟨ha, hb⟩ := b.putShadow_wf p ws st (h.bank .a) (h.bank .b)
  exact ⟨fun id => by cases id <;> [exact ha; exact hb], b.staging_putShadow p ws st ▸ h.staging⟩

theorem Banks.MemsWf.swapped (h : b.MemsWf) : b.swapped.MemsWf :=
  ⟨fun id => (b.bank_swapped id).1 ▸ h.bank id, b.staging_swapped ▸ h.staging⟩

theorem Banks.MemsWf.ends (h : b.MemsWf) (op : StoreOp) (p : Option Nat) (o : StoreOutcome) :
    (b.ends op p o).MemsWf := h.of_eq (b.bank_ends op p o) rfl

theorem Banks.MemsWf.advance (h : b.MemsWf) (op : StoreOp) (n : Nat) : (b.advance op n).MemsWf := by
  obtain ⟨hbank, -, -, hstaging, -⟩ := b.advance_keeps op n
  exact h.of_eq hbank hstaging

theorem Banks.MemsWf.cutTo (h : b.MemsWf) (hcut : b.CutTo b') : b'.MemsWf := by
  obtain ⟨hbank | ⟨p, ws, -, hbank⟩, -, hstaging, -⟩ := hcut
  · exact h.of_eq hbank hstaging
  · exact (h.putShadow p ws .torn).of_eq hbank (hstaging.trans (b.staging_putShadow p ws .torn).symm)

theorem Banks.memsWf_atReset : Banks.atReset.MemsWf :=
  ⟨fun id => by cases id <;> exact ⟨List.Pairwise.nil, by simp [Banks.atReset, Banks.bank, Bank.blank]⟩,
    ⟨List.Pairwise.nil, by simp [Banks.atReset]⟩⟩

theorem BanksStep.keeps_memsWf (h : b.MemsWf) (hstep : BanksStep b l b' l') : b'.MemsWf := by
  cases hstep with
  | stays => exact h
  | stages o ws m => exact ⟨h.bank, Memory.wf_writeList ws _ o h.staging⟩
  | starts e => exact ⟨h.bank, h.staging⟩
  | awaits => exact ⟨h.bank, h.staging⟩
  | swaps => exact h.swapped
  | takes => exact h.swapped
  | refuses p o => exact h.ends _ _ _
  | passes p => exact ⟨h.bank, h.staging⟩
  | commits p =>
    have hends := (h.putShadow p (b.builtPage p) .written).ends .commit (some p) .done
    exact ⟨hends.bank, hends.staging⟩
  | copies => exact (h.putShadow _ _ _).advance _ _
  | erases k => exact (h.putShadow _ _ _).advance _ _
  | walks w l' => exact h
  | rejects w p i o r => exact h.ends _ _ _
  | writes i p image n l' => exact (h.putShadow _ _ _).ends _ _ _
  | loads w b' hl hb hcomplete =>
    obtain rfl | ⟨i, p, image, n, -, rfl⟩ := hb
    · exact h.swapped
    · exact ((h.putShadow _ _ _).ends _ _ _).swapped
  | softResets index between => exact h.cutTo (b.cutTo_softReset index between)
  | resets autold => exact Banks.memsWf_atReset

/-! ### The live bank whole (R157, R165) -/

/-- §10.1, R157, R165 as a property of the banks and the loader. -/
structure Banks.Whole (b : Banks) (l : Loader) : Prop where
  length : ∀ id, (b.bank id).status.length = 79
  live : ∀ id, b.live = some id → ∀ p < 79, (b.bank id).status[p]? = some .written
  pending : b.swapPending = true →
    (∀ p < 79, b.shadow.status[p]? = some .written) ∧ b.engine = .idle ∧ l.isLoading = false

theorem State.bankLaw_iff (s : State) : s.BankLaw ↔ s.banks.Whole s.rc.loader :=
  ⟨fun ⟨ha, hb, hlive, hpending⟩ => ⟨fun id => by cases id <;> [exact ha; exact hb], fun id h => hlive id h, hpending⟩,
    fun h => ⟨h.length .a, h.length .b, fun id hid => h.live id hid, h.pending⟩⟩

/-- The pages of the banks after an event: each bank's as before, or the shadow's with one status changed. -/
def Banks.Restamped (b b' : Banks) : Prop :=
  ∀ id, (b'.bank id).status = (b.bank id).status ∨
    id = b.shadowId ∧ ∃ p st, (b'.bank id).status = (b.bank id).status.set p st

theorem Banks.restamped_of_bank_eq (h : ∀ id, b'.bank id = b.bank id) : b.Restamped b' := fun id => .inl (by rw [h])

theorem Banks.restamped_putShadow {p : Nat} {ws : List Word} {st : PageStatus}
    (h : ∀ id, b'.bank id = (b.putShadow p ws st).bank id) : b.Restamped b' := by
  intro id
  rw [h, Banks.bank_putShadow]
  split
  · next e => exact .inr ⟨e, p, st, rfl⟩
  · exact .inl rfl

theorem Banks.restamped_cutTo (h : b.CutTo b') : b.Restamped b' := by
  obtain ⟨hbank | ⟨p, ws, -, hbank⟩, -, -, -⟩ := h
  · exact Banks.restamped_of_bank_eq hbank
  · exact Banks.restamped_putShadow hbank

/-- An event that writes into the shadow at most, and after which no swap is pending, keeps the live bank whole. -/
theorem Banks.Whole.restamped (h : b.Whole l) (hbank : b.Restamped b') (hlive : b'.live = b.live)
    (hpending : b'.swapPending = false) : b'.Whole l' := by
  refine ⟨fun id => ?_, fun id hid p hp => ?_, fun hp => absurd hp (by simp [hpending])⟩
  · obtain e | ⟨-, p, st, e⟩ := hbank id
    · rw [e, h.length]
    · rw [e, List.length_set, h.length]
  · rw [hlive] at hid
    obtain e | ⟨e, -⟩ := hbank id
    · rw [e, h.live id hid p hp]
    · exact absurd e (b.shadowId_ne_of_live id hid)

/-- R166: a swap of a COMPLETE shadow keeps the live bank whole. -/
theorem Banks.Whole.swapped (h : ∀ id, (b.bank id).status.length = 79)
    (hcomplete : ∀ p < 79, b.shadow.status[p]? = some .written) : b.swapped.Whole l' := by
  refine ⟨fun id => ?_, fun id hid p hp => ?_, fun hp => by simp at hp⟩
  · rw [(b.bank_swapped id).2, h]
  · obtain rfl : b.shadowId = id := Option.some.inj hid
    rw [(b.bank_swapped _).2]
    exact hcomplete p hp

theorem Banks.Whole.not_pending_of_engine (h : b.Whole l) (he : b.engine ≠ .idle) : b.swapPending = false := by
  by_contra hp
  exact he (h.pending (by simpa using hp)).2.1

theorem Banks.Whole.not_pending_of_loading (h : b.Whole l) (w : Walk) (hl : l = .loading w) :
    b.swapPending = false := by
  by_contra hp
  have := (h.pending (by simpa using hp)).2.2
  simp [hl, Loader.isLoading] at this

theorem Banks.whole_atReset (l : Loader) : Banks.atReset.Whole l :=
  ⟨fun id => (by cases id <;> exact List.length_replicate), (fun _ h => nomatch h), (fun h => nomatch h)⟩

theorem BanksStep.keeps_whole (h : b.Whole l) (hstep : BanksStep b l b' l') : b'.Whole l' := by
  cases hstep with
  | stays => exact h
  | stages o ws m hb =>
    exact h.restamped (Banks.restamped_of_bank_eq fun _ => rfl) rfl (b.busy_eq_false.1 hb).2
  | starts e hb => exact h.restamped (Banks.restamped_of_bank_eq fun _ => rfl) rfl (b.busy_eq_false.1 hb).2
  | awaits hb hl hcomplete =>
    obtain ⟨he, -⟩ := b.busy_eq_false.1 hb
    exact ⟨h.length, h.live, fun _ => ⟨(Bank.complete_iff _ (h.length _)).1 hcomplete, he, hl⟩⟩
  | swaps hb hl hcomplete => exact .swapped h.length ((Bank.complete_iff _ (h.length _)).1 hcomplete)
  | takes hp => exact .swapped h.length (h.pending hp).1
  | refuses p o he =>
    exact h.restamped (Banks.restamped_of_bank_eq (b.bank_ends _ _ _)) rfl (h.not_pending_of_engine (by simp [he]))
  | passes p he =>
    exact h.restamped (Banks.restamped_of_bank_eq fun _ => rfl) rfl (h.not_pending_of_engine (by simp [he]))
  | commits p he =>
    refine h.restamped (Banks.restamped_putShadow (p := p) (ws := b.builtPage p) (st := .written) fun id => ?_)
      (b.live_putShadow _ _ _) ((b.swapPending_putShadow _ _ _).trans (h.not_pending_of_engine (by simp [he])))
    exact Banks.bank_ends (b.putShadow p (b.builtPage p) .written) .commit (some p) .done id
  | copies he =>
    obtain ⟨hbank, hlive, hpending, -, -⟩ := (b.putShadow b.progress (b.livePage b.progress) .written).advance_keeps .copy
      (b.progress + 1)
    exact h.restamped (Banks.restamped_putShadow hbank) (hlive.trans (b.live_putShadow _ _ _))
      (hpending.trans ((b.swapPending_putShadow _ _ _).trans (h.not_pending_of_engine (by simp [he]))))
  | erases k he =>
    obtain ⟨hbank, hlive, hpending, -, -⟩ := (b.putShadow b.progress blankPage .empty).advance_keeps .erase
      (nextErase k b.progress)
    exact h.restamped (Banks.restamped_putShadow hbank) (hlive.trans (b.live_putShadow _ _ _))
      (hpending.trans ((b.swapPending_putShadow _ _ _).trans (h.not_pending_of_engine (by simp [he]))))
  | walks w l' hl =>
    exact h.restamped (Banks.restamped_of_bank_eq fun _ => rfl) rfl (h.not_pending_of_loading w hl)
  | rejects w p i o r hl =>
    exact h.restamped (Banks.restamped_of_bank_eq (b.bank_ends _ _ _)) rfl (h.not_pending_of_loading w hl)
  | writes i p image n l' hl =>
    exact h.restamped (Banks.restamped_putShadow (Banks.bank_ends _ _ _ _)) (b.live_putShadow _ _ _)
      ((b.swapPending_putShadow _ _ _).trans (h.not_pending_of_loading _ hl))
  | loads w b' hl hb hcomplete =>
    have hw : b'.Whole Loader.loaded := by
      obtain rfl | ⟨i, p, image, n, -, rfl⟩ := hb
      · exact h.restamped (Banks.restamped_of_bank_eq fun _ => rfl) rfl (h.not_pending_of_loading w hl)
      · exact h.restamped (Banks.restamped_putShadow (Banks.bank_ends _ _ _ _)) (b.live_putShadow _ _ _)
          ((b.swapPending_putShadow _ _ _).trans (h.not_pending_of_loading _ hl))
    exact .swapped hw.length ((Bank.complete_iff _ (hw.length _)).1 hcomplete)
  | softResets index between =>
    have hcut := b.cutTo_softReset index between
    exact h.restamped (Banks.restamped_cutTo hcut) hcut.live rfl
  | resets autold => exact Banks.whole_atReset _

/-! ### Every WRITTEN page valid (R161, R181) -/

theorem Bank.page_eq (x : Bank) (p : Nat) : x.page p = (List.range 64).map fun o => x.mem.read (p * 64 + o) := rfl

/-- A page of 64 words that was put into a bank reads back, and leaves every other page as it was. -/
theorem Bank.page_putPage (x : Bank) (p q : Nat) (ws : List Word) (st : PageStatus) (hwf : Memory.wf x.mem)
    (hlen : ws.length = 64) : (x.putPage q ws st).page p = if p = q then ws else x.page p := by
  have hread : ∀ o < 64, (x.putPage q ws st).mem.read (p * 64 + o) =
      if p = q then ws.getD o 0#16 else x.mem.read (p * 64 + o) := by
    intro o ho
    rw [Bank.putPage, Memory.read_writeList ws _ _ _ hwf, hlen]
    by_cases h : p = q
    · rw [if_pos h, if_pos (by omega)]
      congr 1
      omega
    · rw [if_neg h, if_neg (by omega)]
  rw [Bank.page_eq, List.map_congr_left fun o ho => hread o (List.mem_range.1 ho)]
  split
  · refine List.ext_getElem (by simp [hlen]) fun i h1 h2 => ?_
    simp [h2]
  · exact (x.page_eq p).symm

/-- R157, R163: the words a copy takes are the live bank's page. -/
theorem Banks.livePage_eq (b : Banks) (id : BankId) (h : b.live = some id) (p : Nat) :
    b.livePage p = (b.bank id).page p := by
  unfold Banks.livePage Banks.liveWord
  rw [h]
  rfl

/-- Every WRITTEN page of a bank passes validation. -/
def Bank.PagesValid (x : Bank) : Prop :=
  ∀ p < 79, x.status[p]? = some .written → firstFailure p (x.page p) = none

theorem Bank.PagesValid.putPage {x : Bank} (h : x.PagesValid) (hwf : Memory.wf x.mem) (q : Nat) (ws : List Word)
    (st : PageStatus) (hlen : ws.length = 64) (hv : st = .written → q < 79 → firstFailure q ws = none) :
    (x.putPage q ws st).PagesValid := by
  intro p hp hs
  rw [x.page_putPage p q ws st hwf hlen]
  by_cases he : p = q
  · subst he
    rw [if_pos rfl]
    refine hv ?_ hp
    rw [Bank.putPage] at hs
    have hlt : p < (x.status.set p st).length := (List.getElem?_eq_some_iff.1 hs).1
    rw [List.length_set] at hlt
    rw [List.getElem?_set_self hlt] at hs
    exact Option.some.inj hs
  · rw [if_neg he]
    refine h p hp ?_
    rw [← hs, Bank.putPage, List.getElem?_set_ne (fun e => he e.symm)]

theorem Banks.pagesValid_putShadow (h : ∀ id, (b.bank id).PagesValid) (hwf : b.MemsWf) (q : Nat) (ws : List Word)
    (st : PageStatus) (hlen : ws.length = 64) (hv : st = .written → q < 79 → firstFailure q ws = none) (id : BankId) :
    ((b.putShadow q ws st).bank id).PagesValid := by
  rw [Banks.bank_putShadow]
  split
  · exact (h id).putPage (hwf.bank id) q ws st hlen hv
  · exact h id

theorem Bank.pagesValid_congr {x y : Bank} (h : x.PagesValid) (hm : y.mem = x.mem) (hs : y.status = x.status) :
    y.PagesValid := by
  intro p hp hw
  rw [hs] at hw
  have := h p hp hw
  rwa [Bank.page_eq, ← hm, ← Bank.page_eq] at this

/-- R159, R161, R163, R181 as a property of the banks and the loader. -/
structure Banks.Valid (b : Banks) (l : Loader) : Prop where
  pages : ∀ id, (b.bank id).PagesValid
  commit : ∀ p w, b.engine = .committing p w → p < 79 ∧ (w = true → firstFailure p (b.builtPage p) = none)
  copying : b.engine = .copying → b.live ≠ none
  image : ∀ i p image next, l = .loading (.write i p image next) →
    p < 79 ∧ image.length = 64 ∧ firstFailure p image = none
  address : ∀ i p a next, l = .loading (.image i p a next) → p < 79
  loading : l.isLoading = true → b.live = none ∧ b.engine = .idle

theorem State.tablesValid_iff (s : State) : s.TablesValid ↔ s.banks.Valid s.rc.loader :=
  ⟨fun ⟨h1, h2, h3, h4, h5, h6⟩ => ⟨fun id p hp => h1 id p hp, h2, h3, h4, h5, h6⟩,
    fun h => ⟨fun id p hp => h.pages id p hp, h.commit, h.copying, h.image, h.address, h.loading⟩⟩

/-- With the loader not LOADING there is nothing but the pages and the engine to be valid. -/
theorem Banks.Valid.of_engine (hpages : ∀ id, (b.bank id).PagesValid) (hl : l.isLoading = false)
    (hcommit : ∀ p w, b.engine = .committing p w → p < 79 ∧ (w = true → firstFailure p (b.builtPage p) = none))
    (hcopy : b.engine = .copying → b.live ≠ none) : b.Valid l := by
  refine ⟨hpages, hcommit, hcopy, fun i p image n e => ?_, fun i p a n e => ?_, fun e => by simp [hl] at e⟩
  all_goals simp [e, Loader.isLoading] at hl

theorem Banks.Valid.of_pages (hpages : ∀ id, (b.bank id).PagesValid) (he : b.engine = .idle)
    (hl : l.isLoading = false) : b.Valid l :=
  .of_engine hpages hl (fun p w e => by simp [he] at e) fun e => by simp [he] at e

/-- The pages of the banks stay valid, the engine is or becomes IDLE, and the loader stays as it is. -/
theorem Banks.Valid.idles (h : b.Valid l) (hpages : ∀ id, (b'.bank id).PagesValid) (he : b'.engine = .idle)
    (hlive : b'.live = b.live) : b'.Valid l :=
  ⟨hpages, fun p w e => by simp [he] at e, fun e => by simp [he] at e, h.image, h.address,
    fun hl => ⟨hlive.trans (h.loading hl).1, he⟩⟩

theorem Banks.Valid.not_loading_of_engine (h : b.Valid l) (he : b.engine ≠ .idle) : l.isLoading = false := by
  by_contra hl
  exact he (h.loading (by simpa using hl)).2

theorem Banks.Valid.not_loading_of_live (h : b.Valid l) (hlive : b.live ≠ none) : l.isLoading = false := by
  by_contra hl
  exact hlive (h.loading (by simpa using hl)).1

theorem Banks.pagesValid_swapped (h : ∀ id, (b.bank id).PagesValid) (id : BankId) : (b.swapped.bank id).PagesValid :=
  Bank.pagesValid_congr (h id) (b.bank_swapped id).1 (b.bank_swapped id).2

theorem Banks.length_builtPage (b : Banks) (p : Nat) : (b.builtPage p).length = 64 := by simp [Banks.builtPage]
theorem Banks.length_livePage (b : Banks) (p : Nat) : (b.livePage p).length = 64 := by simp [Banks.livePage]

theorem Banks.pagesValid_cutTo (h : ∀ id, (b.bank id).PagesValid) (hwf : b.MemsWf) (hcut : b.CutTo b') (id : BankId) :
    (b'.bank id).PagesValid := by
  obtain ⟨hbank | ⟨p, ws, hlen, hbank⟩, -, -, -⟩ := hcut
  · rw [hbank]
    exact h id
  · rw [hbank]
    exact Banks.pagesValid_putShadow h hwf p ws .torn hlen (by simp) id

/-- The page of a copy is valid, being a page of the live bank. -/
theorem Banks.firstFailure_livePage (hw : b.Whole l) (hv : b.Valid l) (he : b.engine = .copying) (p : Nat) (hp : p < 79) :
    firstFailure p (b.livePage p) = none := by
  obtain ⟨id, hid⟩ := Option.ne_none_iff_exists'.1 (hv.copying he)
  rw [b.livePage_eq id hid]
  exact hv.pages id p hp (hw.live id hid p hp)

/-- R163, R164: a copy or an erasure that goes on, or ends. -/
theorem Banks.Valid.advance (hpages : ∀ id, (b.bank id).PagesValid) (hl : l.isLoading = false)
    (he : b.engine = .copying ∧ b.live ≠ none ∨ ∃ k, b.engine = .erasing k) (op : StoreOp) (n : Nat) :
    (b.advance op n).Valid l := by
  obtain ⟨hbank, hlive, -, -, hengine⟩ := b.advance_keeps op n
  refine .of_engine (fun id => hbank id ▸ hpages id) hl (fun p w e => ?_) fun e => ?_
  · obtain hengine | hengine := hengine <;> rw [hengine] at e
    · cases e
    · obtain ⟨he, -⟩ | ⟨k, he⟩ := he <;> rw [he] at e <;> cases e
  · rw [hlive]
    obtain hengine | hengine := hengine <;> rw [hengine] at e
    · cases e
    · obtain ⟨-, hlive⟩ | ⟨k, he⟩ := he
      · exact hlive
      · rw [he] at e
        cases e

theorem Banks.pagesValid_ends (h : ∀ id, (b.bank id).PagesValid) (op : StoreOp) (p : Option Nat) (o : StoreOutcome)
    (id : BankId) : ((b.ends op p o).bank id).PagesValid := by
  rw [Banks.bank_ends]
  exact h id

/-- R181: the image of the walk goes into the shadow as a WRITTEN page. -/
theorem Banks.pagesValid_imageWritten (hm : b.MemsWf) {i p : Nat} {image : List Word} {n : Word}
    (h : b.Valid (.loading (.write i p image n))) (id : BankId) :
    (((b.putShadow p image .written).ends .load (some p) .done).bank id).PagesValid := by
  obtain ⟨-, hlen, hf⟩ := h.image i p image n rfl
  exact Banks.pagesValid_ends (Banks.pagesValid_putShadow h.pages hm p image .written hlen fun _ _ => hf) _ _ _ id

theorem Banks.valid_atReset (autold : Bool) : Banks.atReset.Valid (RunControl.atReset autold).loader := by
  refine ⟨fun id p hp e => ?_, fun p w e => (nomatch e), fun e => (nomatch e), fun i p image n e => ?_, fun i p a n e => ?_,
    fun _ => ⟨rfl, rfl⟩⟩
  · have hstatus : (Banks.atReset.bank id).status = List.replicate 79 .empty := by cases id <;> rfl
    rw [hstatus, List.getElem?_replicate, if_pos hp] at e
    cases e
  all_goals cases autold <;> cases e

/-- Each way a command can change the banks and the loader keeps every WRITTEN page valid. -/
theorem BanksStep.keeps_valid (hm : b.MemsWf) (hw : b.Whole l) (h : b.Valid l) (hstep : BanksStep b l b' l') :
    b'.Valid l' := by
  cases hstep with
  | stays => exact h
  | stages o ws m hb =>
    exact h.idles h.pages (b.busy_eq_false.1 hb).1 rfl
  | starts e hb hl hc hcopy =>
    refine .of_engine h.pages hl (fun p w he => ?_) hcopy
    obtain ⟨hp, rfl⟩ := hc p w he
    exact ⟨hp, fun e => nomatch e⟩
  | awaits hb hl => exact .of_pages h.pages (b.busy_eq_false.1 hb).1 hl
  | swaps hb hl =>
    exact .of_pages (Banks.pagesValid_swapped h.pages) (b.engine_swapped.trans (b.busy_eq_false.1 hb).1) hl
  | takes hp =>
    obtain ⟨-, he, hl⟩ := hw.pending hp
    exact .of_pages (Banks.pagesValid_swapped h.pages) (b.engine_swapped.trans he) hl
  | refuses p o he => exact h.idles (Banks.pagesValid_ends h.pages _ _ _) rfl rfl
  | passes p he hf =>
    refine .of_engine h.pages (h.not_loading_of_engine (by simp [he])) (fun q w e => ?_) fun e => nomatch e
    cases e
    exact ⟨(h.commit p false he).1, fun _ => hf⟩
  | commits p he =>
    have hf := (h.commit p true he).2 rfl
    refine h.idles (fun id => ?_) rfl (b.live_putShadow _ _ _)
    exact Banks.pagesValid_ends (Banks.pagesValid_putShadow h.pages hm p _ .written (b.length_builtPage p) fun _ _ => hf)
      .commit (some p) .done id
  | copies he =>
    have hlive : (b.putShadow b.progress (b.livePage b.progress) .written).live ≠ none := by
      rw [b.live_putShadow]
      exact h.copying he
    exact .advance (Banks.pagesValid_putShadow h.pages hm _ _ _ (b.length_livePage _)
      fun _ => Banks.firstFailure_livePage hw h he _) (h.not_loading_of_engine (by simp [he]))
      (.inl ⟨(b.engine_putShadow _ _ _).trans he, hlive⟩) _ _
  | erases k he =>
    exact .advance (Banks.pagesValid_putShadow h.pages hm _ blankPage .empty List.length_replicate fun e => nomatch e)
      (h.not_loading_of_engine (by simp [he])) (.inr ⟨k, (b.engine_putShadow _ _ _).trans he⟩) _ _
  | walks w l' hl haddress himage =>
    subst hl
    obtain ⟨hlive, he⟩ := h.loading rfl
    exact ⟨h.pages, h.commit, h.copying, fun i p image n e => by
      obtain ⟨⟨a, rfl⟩, hlen, hf⟩ := himage i p image n e
      exact ⟨h.address i p a n rfl, hlen, hf⟩, haddress, fun _ => ⟨hlive, he⟩⟩
  | rejects w p i o r hl => exact .of_pages (Banks.pagesValid_ends h.pages _ _ _) rfl rfl
  | writes i p image n l' hl hnext =>
    subst hl
    obtain ⟨hlive, -⟩ := h.loading rfl
    refine ⟨Banks.pagesValid_imageWritten hm h, fun p w e => (nomatch e), fun e => (nomatch e), fun i p image n e => ?_,
      fun i p a n e => ?_, fun _ => ⟨(b.live_putShadow _ _ _).trans hlive, rfl⟩⟩
    all_goals
      obtain ⟨j, a, e'⟩ := hnext _ e
      cases e'
  | loads w b' hl hb hcomplete =>
    subst hl
    obtain ⟨-, he⟩ := h.loading rfl
    obtain rfl | ⟨i, p, image, n, rfl, rfl⟩ := hb
    · exact .of_pages (Banks.pagesValid_swapped h.pages) (b'.engine_swapped.trans he) rfl
    · exact .of_pages (Banks.pagesValid_swapped (Banks.pagesValid_imageWritten hm h)) (Banks.engine_swapped _) rfl
  | softResets index between =>
    have hcut := b.cutTo_softReset index between
    exact h.idles (Banks.pagesValid_cutTo h.pages hm hcut) hcut.engine hcut.live
  | resets autold => exact Banks.valid_atReset autold

/-- Settles O55: each way a command can change the banks keeps the canonical form, the live bank whole and, with these
two, every WRITTEN page valid. -/
theorem stepKeepsBanksWhole : Obligations.StepKeepsBanksWhole := by
  refine ⟨fun s t h hs => ?_, fun s t h hs => ?_, fun s t hm hw hv hs => ?_⟩
  · rw [State.memoriesWf_iff] at h ⊢
    exact step_keeps_banks (Q := fun b _ => b.MemsWf) (fun hq hstep => hstep.keeps_memsWf hq) h hs
  · rw [State.bankLaw_iff] at h ⊢
    exact step_keeps_banks (fun hq hstep => hstep.keeps_whole hq) h hs
  · rw [State.memoriesWf_iff] at hm
    rw [State.bankLaw_iff] at hw
    rw [State.tablesValid_iff] at hv ⊢
    have hall : ∀ {b l b' l'}, b.MemsWf ∧ b.Whole l ∧ b.Valid l → BanksStep b l b' l' →
        b'.MemsWf ∧ b'.Whole l' ∧ b'.Valid l' := fun ⟨hm, hw, hv⟩ hstep =>
      ⟨hstep.keeps_memsWf hm, hstep.keeps_whole hw, hstep.keeps_valid hm hw hv⟩
    exact (step_keeps_banks hall ⟨hm, hw, hv⟩ hs).2.2

end Sys2Proof.Machine
end

section
/-! The queues of the ring within their capacities and the sweep record sound (R6, R10–R12, R14–R16): what each command does
to the Ring Interface and to the Management Request Queue. -/

namespace Sys2Proof.Machine
open State

/-! ### The Ring Interface -/

/-- R10, R11, R12, R14: the queues of a Ring Interface, a reserved place counted. -/
structure Ring.QueuesSound (g : Ring) : Prop where
  forward : g.forward.length ≤ 16
  origin : g.origin.length + (if g.reserved then 1 else 0) ≤ 24
  acts : (g.origin.filterMap OriginFrame.actKey).Nodup
  notes : (g.origin.filter OriginFrame.isNote).length ≤ 1
  wait : g.headWait.isSome = !g.origin.isEmpty

/-- R15, R16: the sweep record of a Ring Interface. -/
structure Ring.SweepSound (g : Ring) : Prop where
  timer : g.timer.isSome = g.enabled
  late : g.late ≤ 2
  number : g.nextNumber < 256
  disabled : g.enabled = false → g.slot = none ∧ g.outstanding = none ∧ g.late = 0
  closed : g.outstanding = none → g.late = 0

/-- What an event keeps of the Ring Interface, whether a place is reserved or not. -/
structure Ring.Keeps (g g' : Ring) : Prop where
  reserved : g'.reserved = g.reserved
  queues : g.QueuesSound → g'.QueuesSound
  sweep : g.SweepSound → g'.SweepSound

theorem State.sweepRecordSound_iff (s : State) : s.SweepRecordSound ↔ s.ring.SweepSound :=
  ⟨fun ⟨h1, h2, h3, h4, h5⟩ => ⟨h1, h2, h3, h4, h5⟩, fun h => ⟨h.timer, h.late, h.number, h.disabled, h.closed⟩⟩

theorem State.queuesBounded_iff (s : State) :
    s.QueuesBounded ↔ s.ring.QueuesSound ∧ s.ring.reserved = false ∧ s.mu.queue.length ≤ 8 :=
  ⟨fun ⟨hf, ho, hm, hr, ha, hn, hw⟩ => ⟨⟨hf, by simpa [hr] using ho, ha, hn, hw⟩, hr, hm⟩,
    fun ⟨h, hr, hm⟩ => ⟨h.forward, by simpa [hr] using h.origin, hm, hr, h.acts, h.notes, h.wait⟩⟩

namespace Ring.Keeps
variable {g g' g'' : Ring}

theorem refl (g : Ring) : g.Keeps g := ⟨rfl, id, id⟩

theorem trans (h : g.Keeps g') (k : g'.Keeps g'') : g.Keeps g'' :=
  ⟨k.reserved.trans h.reserved, k.queues ∘ h.queues, k.sweep ∘ h.sweep⟩

/-- A change of fields that no queue and no sweep rule names. -/
theorem of_eq (hf : g'.forward = g.forward) (ho : g'.origin = g.origin) (hw : g'.headWait = g.headWait)
    (hr : g'.reserved = g.reserved) (hs : g.SweepSound → g'.SweepSound) : g.Keeps g' :=
  ⟨hr, fun h => ⟨hf ▸ h.forward, by rw [ho, hr]; exact h.origin, ho ▸ h.acts, ho ▸ h.notes, by rw [hw, ho]; exact h.wait⟩, hs⟩

end Ring.Keeps

/-- A frame that joins keeps the Origin Queue sound where its place is free, no ACT of its output is queued, and it is no
second NOTE. -/
theorem Ring.QueuesSound.join {g : Ring} (h : g.QueuesSound) (f : OriginFrame) (r : Bool)
    (hlen : g.origin.length + (if r then 1 else 0) < 24)
    (hact : ∀ k, f.actKey = some k → k ∉ g.origin.filterMap OriginFrame.actKey)
    (hnote : f.isNote = true → g.hasNote = false) : ({ g.join f with reserved := r } : Ring).QueuesSound := by
  refine ⟨h.forward, ?_, ?_, ?_, ?_⟩
  · simp only [Ring.join, List.length_append, List.length_singleton]
    omega
  · change (g.origin ++ [f]).filterMap OriginFrame.actKey |>.Nodup
    rw [List.filterMap_append]
    refine List.nodup_append.2 ⟨h.acts, ?_, fun a ha b hb e => ?_⟩
    · rw [List.filterMap_cons]
      split <;> simp
    · have hb : f.actKey = some b := by simpa using hb
      exact hact b hb (e ▸ ha)
  · simp only [Ring.join, List.filter_append, List.length_append]
    cases hn : f.isNote
    · simpa [hn] using h.notes
    · have hnone : g.origin.filter OriginFrame.isNote = [] := by
        simpa [Ring.hasNote] using hnote hn
      simp [hnone, hn]
  · have hw := h.wait
    cases ho : g.origin <;> simp [Ring.join, ho] at hw ⊢
    exact hw

theorem Ring.SweepSound.of_frame {g g' : Ring} (h : g.SweepSound)
    (hframe : ({ g' with origin := g.origin, headWait := g.headWait } : Ring) = g) : g'.SweepSound := by
  rw [← hframe] at h
  exact ⟨h.timer, h.late, h.number, h.disabled, h.closed⟩

theorem Ring.placeFree_iff (g : Ring) :
    g.placeFree = true ↔ g.origin.length + (if g.reserved then 1 else 0) < 24 := decide_eq_true_iff

theorem Ring.keeps_join {g : Ring} (f : OriginFrame) (hfree : g.placeFree = true)
    (hact : ∀ k, f.actKey = some k → k ∉ g.origin.filterMap OriginFrame.actKey)
    (hnote : f.isNote = true → g.hasNote = false) : g.Keeps (g.join f) :=
  ⟨rfl, fun h => h.join f g.reserved ((g.placeFree_iff).1 hfree) hact hnote, fun h => h.of_frame rfl⟩

/-- R11: an ACT for the output is queued exactly when its key is among the queued keys. -/
theorem Ring.mem_actKeys (g : Ring) (d f p : Nat) :
    (d, f, p) ∈ g.origin.filterMap OriginFrame.actKey ↔ g.hasAct d f p = true := by
  rw [List.mem_filterMap, Ring.hasAct, List.any_eq_true]
  refine exists_congr fun x => and_congr_right fun _ => ?_
  cases x <;> simp [OriginFrame.actKey, OriginFrame.isActFor, and_assoc]

/-- New content for queued frames keeps the Origin Queue sound where the frames keep their kind and their output. -/
theorem Ring.keeps_mapOrigin {g : Ring} (k : OriginFrame → OriginFrame) (hkey : ∀ f, (k f).actKey = f.actKey)
    (hnote : ∀ f, (k f).isNote = f.isNote) : g.Keeps { g with origin := g.origin.map k } := by
  refine ⟨rfl, fun h => ⟨h.forward, by simpa using h.origin, ?_, ?_, by simpa using h.wait⟩, fun h => h.of_frame rfl⟩
  · rw [List.filterMap_map]
    have : OriginFrame.actKey ∘ k = OriginFrame.actKey := funext hkey
    rw [this]
    exact h.acts
  · rw [List.filter_map, List.length_map]
    have : OriginFrame.isNote ∘ k = OriginFrame.isNote := funext hnote
    rw [this]
    exact h.notes

theorem Ring.keeps_refreshNote (g : Ring) (fl co : Word) (l : RunLevel) : g.Keeps (g.refreshNote fl co l) := by
  refine Ring.keeps_mapOrigin _ (fun f => ?_) fun f => ?_
  · cases f <;> rfl
  · cases f <;> rfl

theorem Ring.keeps_offerAct {g g' : Ring} {dst src fn port v : Nat} (h : g.offerAct dst src fn port v = some g') :
    g.Keeps g' := by
  unfold Ring.offerAct at h
  split at h
  · cases h
    refine Ring.keeps_mapOrigin _ (fun f => ?_) fun f => ?_
    all_goals
      split
      · cases f <;> rfl
      · rfl
  · next hact =>
    split at h
    · next hfree =>
      cases h
      refine Ring.keeps_join _ hfree (fun k hk => ?_) fun e => nomatch e
      cases hk
      rw [Ring.mem_actKeys]
      exact hact
    · cases h

theorem Ring.keeps_offerRow (src : Nat) (g : Ring) (r : Row) : g.Keeps (g.offerRow src r).1 := by
  unfold Ring.offerRow
  split
  · split
    · next h => exact Ring.keeps_offerAct h
    · exact .refl g
  · exact .refl g

theorem keeps_offerRows (src : Nat) (g : Ring) (rs : List Row) : g.Keeps (offerRows src g rs).1 := by
  induction rs generalizing g with
  | nil => exact .refl g
  | cons r rs ih => exact (g.keeps_offerRow src r).trans (ih _)

/-! ### The ring and the request queue of the device -/

/-- What an event keeps of the Ring Interface and of the Management Request Queue. -/
structure State.RingTo (s t : State) : Prop where
  ring : s.ring.Keeps t.ring
  queue : s.mu.queue.length ≤ 8 → t.mu.queue.length ≤ 8

namespace State.RingTo
variable {s t u : State}

theorem refl (s : State) : s.RingTo s := ⟨.refl _, id⟩

theorem trans (h : s.RingTo t) (k : t.RingTo u) : s.RingTo u := ⟨h.ring.trans k.ring, k.queue ∘ h.queue⟩

/-- The second event first: what it begins with is then known. -/
theorem after (k : t.RingTo u) (h : s.RingTo t) : s.RingTo u := h.trans k

theorem of_eq (hr : t.ring = s.ring) (hm : t.mu.queue = s.mu.queue) : s.RingTo t :=
  ⟨hr ▸ .refl _, fun h => hm ▸ h⟩

theorem post {es : List Instr} : s.RingTo (s.post es) := of_eq rfl rfl

/-- An event that changes neither block. -/
theorem of_within {bs : List Block} (h : s.Within bs t) (hr : .ring ∉ bs) (hm : .mu ∉ bs) : s.RingTo t :=
  of_eq (h.same .ring hr) (congrArg Management.queue (h.same .mu hm))

/-- An event that changes the Ring Interface only. -/
theorem of_ring {bs : List Block} (h : s.Within bs t) (hm : .mu ∉ bs) (hr : s.ring.Keeps t.ring) : s.RingTo t :=
  ⟨hr, fun hq => congrArg Management.queue (h.same .mu hm) ▸ hq⟩

end State.RingTo

variable (s : State)

theorem State.offerDirty_ringTo : s.RingTo s.offerDirty :=
  .of_ring s.offerDirty_within (by simp)
    ((keeps_offerRows s.answering s.ring s.inter.leaving).trans (keeps_offerRows s.answering _ s.inter.rows))

theorem State.resolving_ringTo (f : Interlock → Interlock) : s.RingTo (s.resolving f) :=
  (State.RingTo.of_within (((Within.refl s).setInter (by simp)).post (bs := [.inter])) (by simp) (by simp)).trans
    (State.offerDirty_ringTo _)

theorem State.setInhibit_ringTo (m : Inhibit) (b : Bool) : s.RingTo (s.setInhibit m b) := by
  unfold State.setInhibit
  split
  · exact .refl s
  · exact s.resolving_ringTo _

theorem State.takeFeedback_ringTo (x : Option Nat) : s.RingTo (s.takeFeedback x) := by
  unfold State.takeFeedback
  split
  · exact .refl s
  · extract_lets t
    have ht : s.RingTo t := s.resolving_ringTo _
    split
    · exact ht.trans .post
    · exact ht

theorem State.clearBlowerFault_ringTo : s.RingTo s.clearBlowerFault := by
  unfold State.clearBlowerFault
  split
  · exact (s.resolving_ringTo _).trans .post
  · exact .refl s

theorem State.evalSweeps_ringTo : s.RingTo s.evalSweeps := by
  refine .of_ring s.evalSweeps_within (by simp) ?_
  unfold State.evalSweeps
  split
  · next hw =>
    refine .of_eq rfl rfl rfl rfl fun h => ⟨rfl, h.late, h.number, fun e => (nomatch e), h.closed⟩
  · split
    · exact .of_eq rfl rfl rfl rfl fun h => ⟨rfl, by simp, h.number, fun _ => ⟨rfl, rfl, rfl⟩, fun _ => rfl⟩
    · exact .refl _

theorem State.ringKeeps_join (f : OriginFrame) (hfree : s.ring.placeFree = true) (hact : f.actKey = none)
    (hnote : f.isNote = true → s.ring.hasNote = false) : s.ring.Keeps (s.ring.join f) :=
  Ring.keeps_join f hfree (fun k hk => by simp [hact] at hk) hnote

theorem State.noteAfter_ringTo (called : Bool) : s.RingTo (s.noteAfter called) := by
  unfold State.noteAfter
  split
  · exact ⟨s.ring.keeps_refreshNote _ _ _, id⟩
  · next hnone =>
    split
    · split
      · next hfree => exact ⟨s.ringKeeps_join _ hfree rfl fun _ => by simpa using hnone, id⟩
      · exact .of_eq rfl rfl
    · exact .refl s

theorem State.setFlag_ringTo (f : StickyFlag) : s.RingTo (s.setFlag f) := by
  unfold State.setFlag
  split
  · exact .refl s
  · exact .after (State.noteAfter_ringTo _ _) (.of_eq rfl rfl)

theorem State.setCondition_ringTo (c : Condition) (b : Bool) : s.RingTo (s.setCondition c b) := by
  unfold State.setCondition
  split
  · exact .refl s
  · exact .after (State.noteAfter_ringTo _ _) (.of_eq rfl rfl)

theorem State.setMuLevel_ringTo (l : RunLevel) : s.RingTo (s.setMuLevel l) := by
  unfold State.setMuLevel
  split
  · exact .refl s
  · exact .after (State.noteAfter_ringTo _ _) (.of_eq rfl rfl)

theorem State.ackFlags_ringTo (mask : Word) : s.RingTo (s.ackFlags mask) := by
  unfold State.ackFlags
  split
  · exact .refl s
  · exact .after (State.noteAfter_ringTo _ _) (.of_eq rfl rfl)

theorem State.offerOwedNote_ringTo : s.RingTo s.offerOwedNote := by
  unfold State.offerOwedNote
  split
  · exact .refl s
  · split
    · exact ⟨s.ring.keeps_refreshNote _ _ _, id⟩
    · next hnone =>
      split
      · next hfree => exact ⟨s.ringKeeps_join _ hfree rfl fun _ => by simpa using hnone, id⟩
      · exact .refl s

/-! ### Receiving -/

theorem State.forward_ringTo (ws : List Word) : s.RingTo (s.forward ws) := by
  unfold State.forward
  split
  · next hlt =>
    refine ⟨⟨rfl, fun h => ⟨?_, h.origin, h.acts, h.notes, h.wait⟩, fun h => ⟨h.timer, h.late, h.number, h.disabled,
      h.closed⟩⟩, id⟩
    have : s.ring.forward.length < 16 := hlt
    simp
    omega
  · exact .of_eq rfl rfl

theorem State.pollReturned_ringTo (f : Frame) : s.RingTo (s.pollReturned f) := by
  unfold State.pollReturned
  split
  · exact .refl s
  · split
    · exact ⟨.of_eq rfl rfl rfl rfl fun h =>
        ⟨h.timer, by simp, h.number, fun e => ⟨(h.disabled e).1, rfl, rfl⟩, fun _ => rfl⟩, id⟩
    · exact .refl s

theorem State.consume_ringTo (f : Frame) : s.RingTo (s.consume f) := by
  unfold State.consume
  split
  · next hlt =>
    refine ⟨.refl _, fun _ => ?_⟩
    have : s.mu.queue.length < 8 := hlt
    simp
    omega
  · split
    · next hfree => exact ⟨s.ringKeeps_join _ hfree rfl fun e => (nomatch e), id⟩
    · exact .of_eq rfl rfl

theorem State.broadcastSample_ringTo (f : Frame) (ws : List Word) : s.RingTo (s.broadcastSample f ws) := by
  have htranslate : s.RingTo (s.translate f).1 := .of_within (s.translate_within f) (by simp) (by simp)
  unfold State.broadcastSample
  split
  · extract_lets r
    split
    · exact htranslate
    · exact htranslate.trans (State.forward_ringTo _ ws)
  · exact s.forward_ringTo ws

theorem State.route_ringTo (f : Frame) (ws : List Word) : s.RingTo (s.route f ws) := by
  unfold State.route
  extract_lets len
  split
  · exact .of_eq rfl rfl
  · split
    · split
      · exact s.pollReturned_ringTo f
      · exact .refl s
    · split
      · split
        · exact s.consume_ringTo f
        · exact .of_eq rfl rfl
      · split
        · exact s.broadcastSample_ringTo f ws
        · split
          · exact (s.forward_ringTo ws).trans .post
          · exact s.forward_ringTo ws

theorem State.runEnds_ringTo (ws : List Word) : s.RingTo (s.runEnds ws) := by
  unfold State.runEnds State.receive
  split
  · exact ⟨.of_eq rfl rfl rfl rfl fun h => ⟨h.timer, h.late, h.number, h.disabled, h.closed⟩, id⟩
  · split
    · exact .of_eq rfl rfl
    · split
      · exact .of_eq rfl rfl
      · exact s.route_ringTo _ ws

/-! ### The port and the sweep timer -/

theorem State.send_ringTo (ws : List Word) (soft : Bool) : s.RingTo (s.send ws soft) :=
  ⟨.of_eq rfl rfl rfl rfl fun h => ⟨h.timer, h.late, h.number, h.disabled, h.closed⟩, id⟩

/-- R14: the head of the Forward Queue leaves. -/
theorem State.grantForward_ringTo (ws : List Word) (rest : List (List Word)) (hf : s.ring.forward = ws :: rest) :
    s.RingTo (s.grantForward ws rest) := by
  have hleaves : s.RingTo (s.setRing { s.ring with forward := rest, headWait := s.ring.headWait.map (· + 1) }) := by
    refine ⟨⟨rfl, fun h => ⟨?_, h.origin, h.acts, h.notes, by simpa using h.wait⟩,
      fun h => ⟨h.timer, h.late, h.number, h.disabled, h.closed⟩⟩, id⟩
    have := h.forward
    rw [hf, List.length_cons] at this
    exact Nat.le_of_succ_le this
  exact hleaves.trans (State.send_ringTo _ ws false)

/-- R12, R14: the head of the Origin Queue leaves. -/
theorem State.grantOrigin_ringTo (f : OriginFrame) (rest : List OriginFrame) (ho : s.ring.origin = f :: rest) :
    s.RingTo (s.grantOrigin f rest) := by
  have hleaves : s.RingTo (s.setRing
      { s.ring with origin := rest, headWait := if rest.isEmpty then none else some 0 }) := by
    refine ⟨⟨rfl, fun h => ?_, fun h => ⟨h.timer, h.late, h.number, h.disabled, h.closed⟩⟩, id⟩
    obtain ⟨hforward, horigin, hacts, hnotes, -⟩ := h
    rw [ho] at horigin hacts hnotes
    have hsub : rest.Sublist (f :: rest) := List.sublist_cons_self f rest
    refine ⟨hforward, ?_, hacts.sublist (hsub.filterMap _), (hsub.filter _).length_le.trans hnotes, ?_⟩
    · exact Nat.le_trans (Nat.add_le_add_right (Nat.le_succ _) _) horigin
    · cases rest <;> rfl
  exact (hleaves.trans (State.send_ringTo _ f.words f.isSoft)).trans .post

theorem State.grant_ringTo : s.RingTo s.grant := by
  unfold State.grant
  split
  · have hslot : s.RingTo (s.setRing { s.ring with slot := none }) :=
      ⟨.of_eq rfl rfl rfl rfl fun h => ⟨h.timer, h.late, h.number, fun e => ⟨rfl, (h.disabled e).2⟩, h.closed⟩, id⟩
    exact hslot.trans (State.send_ringTo _ _ false)
  · split
    · exact .refl s
    · next ws rest hf _ => exact s.grantForward_ringTo ws rest hf
    · next f rest _ ho => exact s.grantOrigin_ringTo f rest ho
    · next ws wrest f frest hf ho =>
      split
      · exact s.grantOrigin_ringTo f frest ho
      · exact s.grantForward_ringTo ws wrest hf

/-- R16: with sweeps enabled, a sweep that is originated leaves the record sound. -/
theorem State.originate_sweepSound (hnumber : s.ring.enabled = true) : s.originate.ring.SweepSound :=
  ⟨hnumber.symm, Nat.zero_le 2, Nat.mod_lt _ (by decide), fun e => (nomatch hnumber.symm.trans e), fun e => (nomatch e)⟩

theorem State.sweepExpiry_ringTo (h : s.ring.timer.isSome = true) : s.RingTo s.sweepExpiry := by
  unfold State.sweepExpiry
  split
  · exact ⟨.of_eq rfl rfl rfl rfl fun k => s.originate_sweepSound (k.timer.symm.trans h), id⟩
  · next n hn =>
    split
    · next hlate =>
      refine ⟨.of_eq rfl rfl rfl rfl fun k => ⟨h.symm.trans k.timer, hlate, k.number, fun e => ?_, fun e => ?_⟩, id⟩
      · exact absurd (k.disabled e).2.1 (by simp [hn])
      · exact absurd e (by simp [hn])
    · exact ⟨.of_eq rfl rfl rfl rfl fun k => State.originate_sweepSound _ (k.timer.symm.trans h), id⟩

end Sys2Proof.Machine
end

section
/-! Every step keeps the queues within their capacities and the sweep record sound (R6, R10–R12, R14–R16). -/

namespace Sys2Proof.Machine
open State

/-- What a command keeps of the two laws of the ring. -/
structure State.KeepsRing (s t : State) : Prop where
  queues : s.QueuesBounded → t.QueuesBounded
  sweep : s.SweepRecordSound → t.SweepRecordSound

theorem State.RingTo.keepsRing {s t : State} (h : s.RingTo t) : s.KeepsRing t := by
  refine ⟨fun k => ?_, fun k => ?_⟩
  · rw [State.queuesBounded_iff] at k ⊢
    obtain ⟨hq, hr, hm⟩ := k
    exact ⟨h.ring.queues hq, h.ring.reserved.trans hr, h.queue hm⟩
  · rw [State.sweepRecordSound_iff] at k ⊢
    exact h.ring.sweep k

theorem State.KeepsRing.refl (s : State) : s.KeepsRing s := ⟨id, id⟩

/-! ### Requests -/

variable (s : State)

theorem State.headRequest_eq_some {s : State} {r : Request} {rest : List Request} (h : s.headRequest = some (r, rest)) :
    s.mu.queue = r :: rest ∧ s.mu.softWait = false ∧ s.ring.placeFree = true := by
  unfold State.headRequest at h
  split at h
  · cases h
  · next hq =>
    split at h
    · cases h
    · next hmay =>
      cases h
      simp only [Bool.or_eq_true, Bool.not_eq_true', not_or, Bool.not_eq_true, Bool.not_eq_false] at hmay
      exact ⟨hq, hmay.1, hmay.2⟩

/-- R12, R171: the place of the answer is free, so the queues stay sound with it reserved. -/
theorem State.reserve_sound {s : State} {r : Request} {rest : List Request} (h : s.QueuesBounded)
    (hhead : s.headRequest = some (r, rest)) :
    (s.reserve rest).ring.QueuesSound ∧ (s.reserve rest).mu.queue.length ≤ 8 := by
  obtain ⟨hq, -, hfree⟩ := State.headRequest_eq_some hhead
  obtain ⟨hsound, hr, hm⟩ := s.queuesBounded_iff.1 h
  refine ⟨⟨hsound.forward, ?_, hsound.acts, hsound.notes, hsound.wait⟩, ?_⟩
  · exact Ring.placeFree_lt s.ring hfree
  · rw [hq, List.length_cons] at hm
    exact Nat.le_of_succ_le hm

/-- R171: the answer joins in the reserved place. -/
theorem State.answerWith_bounded {t : State} (r : Request) (a : Answer) (h : t.ring.QueuesSound)
    (hr : t.ring.reserved = true) (hm : t.mu.queue.length ≤ 8) : (t.answerWith r a).QueuesBounded := by
  rw [State.queuesBounded_iff]
  have hlen : t.ring.origin.length + 1 ≤ 24 := by simpa [hr] using h.origin
  exact ⟨h.join _ false hlen (fun k e => nomatch e) fun e => (nomatch e), rfl, hm⟩

theorem State.dropRequest_bounded {t : State} (h : t.ring.QueuesSound) (hm : t.mu.queue.length ≤ 8) :
    t.dropRequest.QueuesBounded := by
  rw [State.queuesBounded_iff]
  exact ⟨⟨h.forward, Nat.le_of_add_right_le h.origin, h.acts, h.notes, h.wait⟩, rfl, hm⟩

/-- R171–R173: serving the head request keeps the two laws of the ring where the request's own rule does. -/
theorem State.serve_keepsRing (mine ok : Request → Bool) (run : Request → State → State × Answer)
    (hrun : ∀ (r : Request) (u : State), u.RingTo (run r u).1) : s.KeepsRing (s.serve mine ok run) := by
  obtain h | ⟨r, rest, hhead, -, h | ⟨a, h⟩ | ⟨h, -⟩⟩ := s.serve_cases mine ok run <;> rw [h]
  · exact .refl s
  · refine ⟨fun k => ?_, fun k => ?_⟩
    · obtain ⟨hsound, hm⟩ := State.reserve_sound k hhead
      exact State.dropRequest_bounded hsound hm
    · exact k
  · refine ⟨fun k => ?_, fun k => ?_⟩
    · obtain ⟨hsound, hm⟩ := State.reserve_sound k hhead
      exact State.answerWith_bounded r a hsound rfl hm
    · exact k
  · have hstep := hrun r (s.reserve rest)
    refine ⟨fun k => ?_, fun k => ?_⟩
    · obtain ⟨hsound, hm⟩ := State.reserve_sound k hhead
      exact State.answerWith_bounded r _ (hstep.ring.queues hsound) hstep.ring.reserved (hstep.queue hm)
    · rw [State.sweepRecordSound_iff] at k ⊢
      have hreserve : (s.reserve rest).ring.SweepSound := ⟨k.timer, k.late, k.number, k.disabled, k.closed⟩
      have hran := hstep.ring.sweep hreserve
      exact ⟨hran.timer, hran.late, hran.number, hran.disabled, hran.closed⟩

/-! ### Every command -/

theorem State.KeepsRing.of_eq {s t : State} (hr : t.ring = s.ring) (hm : t.mu.queue = s.mu.queue) : s.KeepsRing t :=
  (State.RingTo.of_eq hr hm).keepsRing

theorem State.KeepsRing.of_taking {c : Instr} {s t : State} {f : State → State} (h : taking c s f = .next t)
    (hf : ∀ u : State, u.KeepsRing (f u)) : s.KeepsRing t := by
  unfold taking at h
  split at h
  · cases h
    exact .refl s
  · cases h
    exact ⟨(hf (s.took c)).queues, (hf (s.took c)).sweep⟩

theorem State.KeepsRing.of_event {c : Instr} {s t : State} {f : State → State} (h : taking c s f = .next t)
    (hf : ∀ u : State, u.RingTo (f u)) : s.KeepsRing t := .of_taking h fun u => (hf u).keepsRing

theorem State.KeepsRing.of_lineChange {c : Instr} {s t : State} {x : Lines} {f : State → State}
    (h : taking c (s.setLines x) f = .next t) (hf : ∀ u : State, u.RingTo (f u)) : s.KeepsRing t :=
  ⟨fun k => (State.KeepsRing.of_event h hf).queues k, fun k => (State.KeepsRing.of_event h hf).sweep k⟩

theorem State.KeepsRing.of_resolving {c : Instr} {s t : State} {f : State → Interlock → Interlock}
    (h : taking c s (fun u => u.resolving (f u)) = .next t) : s.KeepsRing t :=
  .of_event h fun u => u.resolving_ringTo (f u)

theorem State.KeepsRing.of_requestRow {c : Instr} {s t : State} {code : Nat} {ok : Request → Bool}
    {run : Request → State → State × Answer} (h : requestRow c code ok run s = .next t)
    (hrun : ∀ (r : Request) (u : State), u.RingTo (run r u).1) : s.KeepsRing t :=
  .of_taking h fun u => u.serve_keepsRing _ ok run hrun

/-- A request whose own rule leaves both queues. -/
theorem State.KeepsRing.of_requestWithin {bs : List Block} {c : Instr} {s t : State} {code : Nat} {ok : Request → Bool}
    {run : Request → State → State × Answer} (h : requestRow c code ok run s = .next t)
    (hrun : ∀ (r : Request) (u : State), u.Within bs (run r u).1) (hr : .ring ∉ bs) (hm : .mu ∉ bs) : s.KeepsRing t :=
  .of_requestRow h fun r u => .of_within (hrun r u) hr hm

theorem exec_keepsRing {c : Instr} {s t : State} (h : exec c s = .next t) (hc : resets c = false) : s.KeepsRing t := by
  cases c with
  | setupLineChange high =>
    rw [exec, execSetupLineChange] at h
    split at h
    · cases h
      exact .of_eq rfl rfl
    · exact .of_lineChange h State.evalSweeps_ringTo
  | doorLineChange isOpen =>
    rw [exec, execDoorLineChange] at h
    split at h
    · cases h
      exact .of_eq rfl rfl
    · refine .of_lineChange h fun u => ?_
      have hlock : u.RingTo (u.interlockDoor isOpen) := (u.setInhibit_ringTo _ _).trans .post
      have hcycle := State.cycleDoor_within ((u.interlockDoor isOpen).allocDoor isOpen) isOpen
      exact .after (.of_within (State.filterDoor_within _ isOpen) (by simp) (by simp))
        (.after (.of_within hcycle (by simp) (by simp)) (hlock.trans (.of_eq rfl rfl)))
  | rxFrame ws =>
    rw [exec, execRxFrame] at h
    split at h
    · cases h
      exact .of_eq rfl rfl
    · exact .of_event h fun u => u.runEnds_ringTo ws
  | transmitGrant =>
    rw [exec, execTransmitGrant] at h
    refine .of_event h fun u => ?_
    split
    · exact .refl u
    · exact .after (State.grant_ringTo _)
        ⟨.of_eq rfl rfl rfl rfl fun k => ⟨k.timer, k.late, k.number, k.disabled, k.closed⟩, id⟩
  | noteOwedOffer => exact .of_event h State.offerOwedNote_ringTo
  | flagSetClaim f => exact .of_event h fun u => u.setFlag_ringTo f
  | conditionPost c b => exact .of_event h fun u => u.setCondition_ringTo c b
  | muRunLevelChange l => exact .of_event h fun u => u.setMuLevel_ringTo l
  | sweepTimerExpiry =>
    rw [exec, execSweepTimerExpiry] at h
    refine .of_event h fun u => ?_
    split
    · next ht => exact u.sweepExpiry_ringTo ht
    · exact .refl u
  | ringRunLevelChange l =>
    rw [exec, execRingRunLevelChange] at h
    exact .of_event h fun u => .after (State.evalSweeps_ringTo _)
      ⟨.of_eq rfl rfl rfl rfl fun k => ⟨k.timer, k.late, k.number, k.disabled, k.closed⟩, id⟩
  | ringSwapTaken => exact .of_event h State.evalSweeps_ringTo
  | dirtyRowOffer => exact .of_event h State.offerDirty_ringTo
  | normalRequests step ds => exact .of_resolving (f := fun _ i => (i.request .blower step).dampers ds) h
  | runRequest o v =>
    exact .of_resolving (f := fun _ i => if o = .pump then i else i.request (Output.row o) v) h
  | stopRequest o =>
    exact .of_resolving (f := fun _ i => if o = .pump then i else i.request (Output.row o) 0) h
  | cyclePlan k cs => exact .of_resolving (f := fun _ => Interlock.plan cs) h
  | planRelease => exact .of_resolving (f := fun _ => Interlock.plan []) h
  | inhibitClaim m => exact .of_event h fun u => u.setInhibit_ringTo m true
  | inhibitRelease m => exact .of_event h fun u => u.setInhibit_ringTo m false
  | blowerFbSample x => exact .of_event h fun u => u.takeFeedback_ringTo _
  | minOnExpiry =>
    rw [exec, execMinOnExpiry] at h
    refine .of_event h fun u => ?_
    split
    · exact u.resolving_ringTo _
    · exact .refl u
  | minOffExpiry =>
    rw [exec, execMinOffExpiry] at h
    refine .of_event h fun u => ?_
    split
    · exact u.resolving_ringTo _
    · exact .refl u
  | settleTimerExpiry =>
    rw [exec, execSettleTimerExpiry] at h
    refine .of_event h fun u => ?_
    split
    · exact .of_eq rfl rfl
    · exact .refl u
  | interlockSweepBegin n =>
    rw [exec, execInterlockSweepBegin] at h
    exact .of_event h fun u => .after (State.offerDirty_ringTo _) (.of_eq rfl rfl)
  | interlockSwapTaken => exact .of_resolving (f := fun u => Interlock.compare u.plant u.calledRows) h
  | readStatus => exact .of_requestRow h fun r u => .refl u
  | ackFlags => exact .of_requestRow h fun r u => u.ackFlags_ringTo _
  | setNoteMask => exact .of_requestRow h fun r u => .of_eq rfl rfl
  | clearFault =>
    refine .of_requestRow h fun r u => ?_
    unfold runClearFault
    split
    · exact u.clearBlowerFault_ringTo
    · exact .of_within u.clearPumpFault_within (by simp) (by simp)
  | readZone => exact .of_requestRow h fun r u => .refl u
  | readFilter => exact .of_requestRow h fun r u => .refl u
  | setFilterCharge => exact .of_requestWithin h (fun r u => u.setCharge_within _ _) (by simp) (by simp)
  | filterReset => exact .of_requestWithin h (fun r u => u.filterReset_within _) (by simp) (by simp)
  | readTank => exact .of_requestRow h fun r u => .refl u
  | readCycle => exact .of_requestRow h fun r u => .refl u
  | requestCycle => exact .of_requestWithin h (fun r u => u.requestCycle_within _) (by simp) (by simp)
  | abortCycle => exact .of_requestWithin h (fun r u => u.abortCycle_within _) (by simp) (by simp)
  | setRegime => exact .of_requestWithin h (fun r u => u.setNight_within _) (by simp) (by simp)
  | setRunLevel => exact .of_requestWithin h (fun r u => u.setRunLevel_within _ _) (by simp) (by simp)
  | loadStaging =>
    exact .of_requestWithin h (fun r u => u.storeRequest_within _ ((Within.refl u).setBanks (by simp)))
      (bs := [.banks]) (by simp) (by simp)
  | clearStaging =>
    exact .of_requestWithin h (fun r u => u.storeRequest_within _ ((Within.refl u).setBanks (by simp)))
      (bs := [.banks]) (by simp) (by simp)
  | commitPage calEn =>
    exact .of_requestRow h fun r u => .after (.of_within (State.storeRequest_within (u.sampleCal calEn) _
      (State.commitPage_within _ _ _)) (by simp) (by simp)) (.of_eq rfl rfl)
  | copyLive =>
    exact .of_requestWithin h (fun r u => u.storeRequest_within _ u.copyLive_within) (by simp) (by simp)
  | eraseShadow calEn =>
    exact .of_requestRow h fun r u => .after (.of_within (State.storeRequest_within (bs := [.banks]) (u.sampleCal calEn) _
      ((Within.refl _).setBanks (by simp))) (by simp) (by simp)) (.of_eq rfl rfl)
  | swapBanks =>
    exact .of_requestWithin h (fun r u => u.storeRequest_within _ u.swapBanks_within) (by simp) (by simp)
  | readTable => exact .of_requestRow h fun r u => .refl u
  | setAddress =>
    refine .of_requestRow h fun r u => ?_
    unfold runSetAddress
    split
    · exact ⟨.of_eq rfl rfl rfl rfl fun k => ⟨k.timer, k.late, k.number, k.disabled, k.closed⟩, id⟩
    · exact .refl u
  | softReset => exact .of_requestRow h fun r u => .of_eq rfl rfl
  | unassignedRequest => exact .of_taking h fun u => u.serve_keepsRing _ _ _ fun r v => .refl v
  | _ => exact .of_eq (exec_agrees s h hc .ring (by simp)) (congrArg Management.queue (exec_agrees s h hc .mu (by simp)))

/-! ### Resets and time -/

theorem Ring.queuesSound_of_empty {g : Ring} (hf : g.forward = []) (ho : g.origin = []) (hr : g.reserved = false)
    (hw : g.headWait = none) : g.QueuesSound := by
  refine ⟨?_, ?_, ?_, ?_, ?_⟩ <;> simp [hf, ho, hr, hw]

theorem Ring.sweepSound_of_disabled {g : Ring} (ht : g.timer = none) (he : g.enabled = false) (hs : g.slot = none)
    (ho : g.outstanding = none) (hl : g.late = 0) (hn : g.nextNumber = 0) : g.SweepSound := by
  refine ⟨?_, ?_, ?_, ?_, ?_⟩ <;> simp [ht, he, hs, ho, hl, hn]

theorem State.keepsRing_softReset (arriving between : Bool) : s.KeepsRing (s.softReset arriving between) := by
  have hoffer := (((s.softBlocks arriving between).post
    ((s.softBlocks arriving between).softPosts s.inter.fault)).offerDirty_ringTo).keepsRing
  refine ⟨fun _ => hoffer.queues ?_, fun _ => hoffer.sweep ?_⟩
  · rw [State.queuesBounded_iff]
    exact ⟨Ring.queuesSound_of_empty rfl rfl rfl rfl, rfl, Nat.zero_le 8⟩
  · rw [State.sweepRecordSound_iff]
    exact Ring.sweepSound_of_disabled rfl rfl rfl rfl rfl rfl

theorem State.queuesBounded_atReset (l : Lines) (free : Nat) (pending : List Instr) :
    (State.atReset l free pending).QueuesBounded := by
  rw [State.queuesBounded_iff]
  exact ⟨Ring.queuesSound_of_empty rfl rfl rfl rfl, rfl, Nat.zero_le 8⟩

theorem State.sweepRecordSound_atReset (l : Lines) (free : Nat) (pending : List Instr) :
    (State.atReset l free pending).SweepRecordSound := by
  rw [State.sweepRecordSound_iff]
  exact Ring.sweepSound_of_disabled rfl rfl rfl rfl rfl rfl

theorem State.keepsRing_tick : s.KeepsRing s.tick := by
  refine State.RingTo.keepsRing (.of_ring s.tick_within (by simp) ?_)
  rw [s.tick_ring]
  exact .of_eq rfl rfl rfl rfl fun k => ⟨by simpa using k.timer, k.late, k.number, k.disabled, k.closed⟩

/-- Settles O56: no command but a reset can put the ring outside its two laws, and a reset empties it. -/
theorem stepKeepsTheRingSound : Obligations.StepKeepsTheRingSound := by
  refine ⟨fun s t h hs => ?_, fun s t h hs => ?_⟩
  · refine step_keeps (P := State.QueuesBounded) (fun c s t h he => ?_) (fun s h => s.keepsRing_tick.queues h)
      (fun s x h => h) h hs
    cases hc : resets c
    · exact (exec_keepsRing he hc).queues h
    · exact reset_keeps State.queuesBounded_atReset (fun s x h => h) (fun s h => h)
        (fun s a b h => (s.keepsRing_softReset a b).queues h) h hc he
  · refine step_keeps (P := State.SweepRecordSound) (fun c s t h he => ?_) (fun s h => s.keepsRing_tick.sweep h)
      (fun s x h => h) h hs
    cases hc : resets c
    · exact (exec_keepsRing he hc).sweep h
    · exact reset_keeps State.sweepRecordSound_atReset (fun s x h => h) (fun s h => h)
        (fun s a b h => (s.keepsRing_softReset a b).sweep h) h hc he

end Sys2Proof.Machine
end

section
/-! What the laws of the interlock rest on (R11, R76, R80, R82–R84, R89): each law as a property of the interlock, and how its
changes, a resolution and the offers keep them. -/

namespace Sys2Proof.Machine
open State

/-! ### The laws as properties of the interlock -/

/-- What an ACT names of a row (R11). -/
def Row.place (r : Row) : Nat × Nat × Nat := (r.dst, r.kind.function, r.port)

/-- A row without its requests and without what its offers change. -/
def Row.plain (r : Row) : RowKind × Nat × Nat × Nat := (r.kind, r.dst, r.port, r.commanded)

/-- R80. -/
def Interlock.DoorShut (i : Interlock) : Prop :=
  i.inhibits.door = true → ∀ r ∈ i.rows, r.kind ≠ .compressor → r.kind ≠ .heater → r.kind ≠ .pump → r.commanded = 0

/-- R82. -/
def Interlock.ProofSafe (i : Interlock) : Prop :=
  ∀ r ∈ i.rows, (r.kind = .compressor ∨ r.kind = .heater) → r.commanded ≠ 0 →
    i.proof = true ∧ i.inhibits.door = false ∧ i.inhibits.tank = false ∧ i.inhibits.airflow = false ∧
      i.inhibits.run = false ∧ i.inhibits.halt = false

/-- R83, for a dry min step n. -/
def Interlock.FloorHeld (n : Nat) (i : Interlock) : Prop :=
  ∀ r ∈ i.rows, (r.kind = .compressor ∨ r.kind = .heater) → r.commanded ≠ 0 → n ≤ i.output .blower

/-- R82. -/
def Interlock.ProvenHasBlower (i : Interlock) : Prop := i.proof = true → (i.row .blower).isSome

/-- R82, R84. -/
def Interlock.FaultClear (i : Interlock) : Prop := (i.fault = true → i.proof = false) ∧ i.mismatch ≤ 2

/-- R11, R76, R89. -/
def Interlock.Distinct (i : Interlock) : Prop := ((i.rows ++ i.leaving).map Row.place).Nodup

/-- What a change that comes before a resolution keeps. -/
structure Interlock.Prepares (i j : Interlock) : Prop where
  hasBlower : i.ProvenHasBlower → j.ProvenHasBlower
  fault : i.FaultClear → j.FaultClear
  distinct : i.Distinct → j.Distinct

/-- What an event keeps, with the dry min step n. -/
structure Interlock.Keeps (n : Nat) (i j : Interlock) : Prop extends Interlock.Prepares i j where
  door : i.DoorShut → j.DoorShut
  safe : i.ProofSafe → j.ProofSafe
  floor : i.FloorHeld n → j.FloorHeld n

variable {n : Nat} {i j k : Interlock} {p : PlantLimits}

theorem Interlock.Prepares.refl (i : Interlock) : i.Prepares i := ⟨id, id, id⟩

theorem Interlock.Prepares.trans (h : i.Prepares j) (h' : j.Prepares k) : i.Prepares k :=
  ⟨h'.hasBlower ∘ h.hasBlower, h'.fault ∘ h.fault, h'.distinct ∘ h.distinct⟩

theorem Interlock.Keeps.refl (i : Interlock) : i.Keeps n i := ⟨.refl i, id, id, id⟩

theorem Interlock.Keeps.trans (h : i.Keeps n j) (h' : j.Keeps n k) : i.Keeps n k :=
  ⟨h.toPrepares.trans h'.toPrepares, h'.door ∘ h.door, h'.safe ∘ h.safe, h'.floor ∘ h.floor⟩

/-! ### The same rows but for requests and offers -/

theorem rows_find_plain (rs : List Row) (k : RowKind) :
    (rs.find? fun r => r.kind == k).map Row.plain = (rs.map Row.plain).find? fun x => x.1 == k := by
  rw [List.find?_map]
  rfl

theorem Interlock.row_plain_congr (h : j.rows.map Row.plain = i.rows.map Row.plain) (k : RowKind) :
    (j.row k).map Row.plain = (i.row k).map Row.plain := by
  rw [Interlock.row, Interlock.row, rows_find_plain, rows_find_plain, h]

theorem Interlock.row_isSome_congr (h : j.rows.map Row.plain = i.rows.map Row.plain) (k : RowKind) :
    (j.row k).isSome = (i.row k).isSome := by
  simpa using congrArg Option.isSome (Interlock.row_plain_congr h k)

theorem Interlock.output_eq (i : Interlock) (k : RowKind) : i.output k = (((i.row k).map Row.plain).map (·.2.2.2)).getD 0 := by
  unfold Interlock.output
  cases i.row k <;> rfl

theorem Interlock.output_congr (h : j.rows.map Row.plain = i.rows.map Row.plain) (k : RowKind) :
    j.output k = i.output k := by
  rw [Interlock.output_eq, Interlock.output_eq, Interlock.row_plain_congr h]

theorem rows_mem_plain {rs rs' : List Row} (h : rs'.map Row.plain = rs.map Row.plain) {r : Row} (hr : r ∈ rs') :
    ∃ r' ∈ rs, r'.kind = r.kind ∧ r'.commanded = r.commanded := by
  have hmem : r.plain ∈ rs.map Row.plain := h ▸ List.mem_map_of_mem hr
  obtain ⟨r', hr', he⟩ := List.mem_map.1 hmem
  exact ⟨r', hr', congrArg (·.1) he, congrArg (·.2.2.2) he⟩

theorem rows_place_congr {rs rs' : List Row} (h : rs'.map Row.plain = rs.map Row.plain) :
    rs'.map Row.place = rs.map Row.place := by
  have hplace : Row.place = (fun x => (x.2.1, x.1.function, x.2.2.1)) ∘ Row.plain := rfl
  rw [hplace, ← List.map_map, ← List.map_map, h]

/-- R77, R78, R86: a change of requests and dirty marks only. -/
theorem Interlock.Keeps.of_plain (hrows : j.rows.map Row.plain = i.rows.map Row.plain)
    (hleaving : (j.leaving.map Row.place).Sublist (i.leaving.map Row.place)) (hinhibits : j.inhibits = i.inhibits)
    (hproof : j.proof = i.proof) (hfault : j.fault = i.fault) (hmismatch : j.mismatch = i.mismatch) : i.Keeps n j where
  hasBlower h hp := by
    rw [Interlock.row_isSome_congr hrows]
    exact h (hproof ▸ hp)
  fault h := by
    rw [Interlock.FaultClear, hfault, hproof, hmismatch]
    exact h
  distinct h := by
    rw [Interlock.Distinct, List.map_append] at h ⊢
    rw [rows_place_congr hrows]
    exact h.sublist (hleaving.append_left _)
  door h hd r hr hc hh hp := by
    obtain ⟨r', hr', hk, he⟩ := rows_mem_plain hrows hr
    rw [← he]
    exact h (hinhibits ▸ hd) r' hr' (hk ▸ hc) (hk ▸ hh) (hk ▸ hp)
  safe h r hr hk hon := by
    obtain ⟨r', hr', hkind, he⟩ := rows_mem_plain hrows hr
    rw [hinhibits, hproof]
    exact h r' hr' (hkind ▸ hk) (he ▸ hon)
  floor h r hr hk hon := by
    obtain ⟨r', hr', hkind, he⟩ := rows_mem_plain hrows hr
    rw [Interlock.output_congr hrows]
    exact h r' hr' (hkind ▸ hk) (he ▸ hon)

/-! ### A resolution -/

theorem Interlock.wanted_of_forces (i : Interlock) (k : RowKind) (h : i.inhibits.forces k = true) : i.wanted k = 0 := by
  unfold Interlock.wanted
  split
  · rfl
  · next r hr => rw [Row.resolve, i.row_kind k r hr, if_pos h]

/-- R80: with DOOR claimed a resolution leaves the blower off. -/
theorem Interlock.outcome_blower_of_door (p : PlantLimits) (i : Interlock) (h : i.inhibits.door = true) :
    (i.outcome p).blower = 0 := by
  have hforces : ∀ k, k ≠ .pump → i.inhibits.forces k = true := by
    intro k hk
    cases k <;> simp_all [Inhibits.forces]
  have hblower := i.wanted_of_forces .blower (hforces _ (by simp))
  have hcomp := i.wanted_of_forces .compressor (hforces _ (by simp))
  have hheater := i.wanted_of_forces .heater (hforces _ (by simp))
  have hcompAfter : i.compAfter p = 0 := by simp [Interlock.compAfter, hcomp, hforces .compressor]
  have hheaterAfter : i.heaterAfter = 0 := by simp [Interlock.heaterAfter, hheater]
  simp [Interlock.outcome, Interlock.floorValue, hblower, hcomp, hheater, hcompAfter, hheaterAfter]

theorem Interlock.resolve_leaving (p : PlantLimits) (i : Interlock) : (i.resolve p).leaving = i.leaving := by
  unfold Interlock.resolve
  extract_lets d blown
  split <;> rfl

theorem Interlock.resolve_fault (p : PlantLimits) (i : Interlock) : (i.resolve p).fault = i.fault := by
  unfold Interlock.resolve
  extract_lets d blown
  split <;> rfl

/-- R82, R84: a resolution proves nothing, and counts no mismatch. -/
theorem Interlock.resolve_clears (p : PlantLimits) (i : Interlock) :
    ((i.resolve p).proof = true → i.proof = true) ∧ (i.resolve p).mismatch ≤ i.mismatch := by
  unfold Interlock.resolve
  extract_lets d blown
  split
  · exact ⟨fun h => (nomatch h), Nat.zero_le _⟩
  · exact ⟨id, Nat.le_refl _⟩

theorem Interlock.mem_resolve_rows {r : Row} (hr : r ∈ (i.resolve p).rows) :
    ∃ r' ∈ i.rows, r = r'.take (i.outcome p) i.inhibits := by
  rw [Interlock.resolve_rows] at hr
  obtain ⟨r', hr', he⟩ := List.mem_map.1 hr
  exact ⟨r', hr', he.symm⟩

theorem Interlock.resolve_doorShut (p : PlantLimits) (i : Interlock) : (i.resolve p).DoorShut := by
  intro hd r hr hc hh hp
  rw [Interlock.resolve_inhibits] at hd
  obtain ⟨r, -, rfl⟩ := Interlock.mem_resolve_rows hr
  have hkind : (r.take (i.outcome p) i.inhibits).kind = r.kind := rfl
  rw [hkind] at hc hh hp
  rw [Row.take]
  unfold Decided.valueFor
  split
  · exact i.outcome_blower_of_door p hd
  · next z hk => rw [Row.resolve, hk, Inhibits.forces, hd]; rfl
  all_goals contradiction

/-- R81–R83: a row of the compressor or the heater that is on after a resolution was proven and free of inhibits, and the blower
stays at or above the dry min step. -/
theorem Interlock.resolve_on {r : Row} (hr : r ∈ (i.resolve p).rows)
    (hk : r.kind = .compressor ∨ r.kind = .heater) (hon : r.commanded ≠ 0) :
    i.proof = true ∧ i.inhibits.forces r.kind = false ∧ (i.outcome p).blower = i.output .blower ∧
      p.dryMin ≤ i.output .blower := by
  obtain ⟨r, -, rfl⟩ := Interlock.mem_resolve_rows hr
  have hkind : (r.take (i.outcome p) i.inhibits).kind = r.kind := rfl
  rw [hkind] at hk ⊢
  rw [Row.take] at hon
  obtain hk | hk := hk <;> rw [hk] <;> simp only [Decided.valueFor, hk] at hon
  · exact Interlock.outcome_comp p i hon
  · exact Interlock.outcome_heater p i hon

theorem Interlock.resolve_proofSafe (p : PlantLimits) (i : Interlock) : (i.resolve p).ProofSafe := by
  intro r hr hk hon
  obtain ⟨hproof, hforces, hblower, -⟩ := Interlock.resolve_on hr hk hon
  rw [Interlock.resolve_inhibits, Interlock.resolve_proof p i hblower]
  refine ⟨hproof, ?_⟩
  obtain hk | hk := hk <;> simpa [hk, Inhibits.forces, and_assoc] using hforces

theorem Interlock.resolve_row_isSome (p : PlantLimits) (i : Interlock) (k : RowKind) :
    ((i.resolve p).row k).isSome = (i.row k).isSome := by
  rw [Interlock.resolve_row, Option.isSome_map]

theorem Interlock.output_of_row_none {kind : RowKind} (h : (i.row kind).isSome = false) : i.output kind = 0 := by
  have hnone : i.row kind = none := by simpa using h
  unfold Interlock.output
  rw [hnone]

theorem Interlock.resolve_floorHeld (p : PlantLimits) (i : Interlock) : (i.resolve p).FloorHeld p.dryMin := by
  intro r hr hk hon
  obtain ⟨-, -, hblower, hfloor⟩ := Interlock.resolve_on hr hk hon
  cases hrow : (i.row .blower).isSome
  · rw [Interlock.output_of_row_none hrow] at hfloor
    exact Nat.le_trans hfloor (Nat.zero_le _)
  · rw [Interlock.resolve_blower p i hrow, hblower]
    exact hfloor

theorem Interlock.resolve_place (p : PlantLimits) (i : Interlock) :
    (i.resolve p).rows.map Row.place = i.rows.map Row.place := by
  rw [Interlock.resolve_rows, List.map_map]
  rfl

theorem Interlock.prepares_resolve (p : PlantLimits) (i : Interlock) : i.Prepares (i.resolve p) where
  hasBlower h hp := by
    rw [Interlock.resolve_row_isSome]
    exact h ((i.resolve_clears p).1 hp)
  fault := fun ⟨h, hm⟩ => by
    refine ⟨fun hf => ?_, (i.resolve_clears p).2.trans hm⟩
    by_contra hp
    have hproof := (i.resolve_clears p).1 (by simpa using hp)
    rw [Interlock.resolve_fault] at hf
    rw [h hf] at hproof
    cases hproof
  distinct h := by
    rw [Interlock.Distinct, List.map_append] at h ⊢
    rw [Interlock.resolve_place, Interlock.resolve_leaving]
    exact h

/-- R79–R84: after a resolution every law of the outputs holds, whatever came before it. -/
theorem Interlock.Prepares.resolve (h : i.Prepares j) : i.Keeps p.dryMin (j.resolve p) :=
  ⟨h.trans (j.prepares_resolve p), fun _ => j.resolve_doorShut p, fun _ => j.resolve_proofSafe p,
    fun _ => j.resolve_floorHeld p⟩

/-! ### The changes before a resolution -/

/-- R77, R78: a change of the requests of the rows. -/
theorem Interlock.Prepares.of_plain (hrows : j.rows.map Row.plain = i.rows.map Row.plain) (hleaving : j.leaving = i.leaving)
    (hproof : j.proof = i.proof) (hfault : j.fault = i.fault) (hmismatch : j.mismatch = i.mismatch) : i.Prepares j where
  hasBlower h hp := by
    rw [Interlock.row_isSome_congr hrows]
    exact h (hproof ▸ hp)
  fault h := by
    rw [Interlock.FaultClear, hfault, hproof, hmismatch]
    exact h
  distinct h := by
    rw [Interlock.Distinct, List.map_append] at h ⊢
    rw [rows_place_congr hrows, hleaving]
    exact h

theorem rows_plain_map {f : Row → Row} (hf : ∀ r, (f r).plain = r.plain) (rs : List Row) :
    (rs.map f).map Row.plain = rs.map Row.plain := by
  rw [List.map_map]
  exact List.map_congr_left fun r _ => hf r

theorem Interlock.prepares_request (k : RowKind) (v : Nat) (i : Interlock) : i.Prepares (i.request k v) := by
  unfold Interlock.request
  split
  · refine .of_plain (rows_plain_map (fun r => ?_) i.rows) rfl rfl rfl rfl
    split <;> rfl
  · split <;> exact .of_plain rfl rfl rfl rfl rfl

theorem Interlock.prepares_dampers (ds : List DamperRequest) (i : Interlock) : i.Prepares (i.dampers ds) := by
  refine .of_plain (rows_plain_map (fun r => ?_) i.rows) rfl rfl rfl rfl
  split <;> rfl

theorem Interlock.prepares_plan (cs : List Claim) (i : Interlock) : i.Prepares (i.plan cs) := by
  refine .of_plain (rows_plain_map (fun r => ?_) i.rows) rfl rfl rfl rfl
  rfl

theorem Interlock.prepares_inhibits (x : Inhibits) (i : Interlock) : i.Prepares { i with inhibits := x } :=
  .of_plain rfl rfl rfl rfl rfl

theorem Interlock.prepares_clock (c : CompClock) (i : Interlock) : i.Prepares { i with clock := c } :=
  .of_plain rfl rfl rfl rfl rfl

/-- R82: airflow is proven by a sample of a blower that is on, so by one that has a row. -/
theorem Interlock.prepares_prove (agrees : Bool) (i : Interlock) : i.Prepares (i.prove agrees) := by
  unfold Interlock.prove
  split
  · next h =>
    obtain ⟨-, hon, hfault⟩ := h
    refine ⟨fun _ _ => ?_, fun ⟨_, hm⟩ => ⟨fun hf => ?_, hm⟩, id⟩
    · have hrow : (i.row .blower).isSome ≠ false := fun hrow => hon (Interlock.output_of_row_none hrow)
      exact Bool.ne_false_iff.1 hrow
    · simp [show i.fault = true from hf] at hfault
  · exact .refl i

/-- R84: the latch clears proof as it is set. -/
theorem Interlock.prepares_latch (i : Interlock) : i.Prepares i.latch := by
  unfold Interlock.latch
  split
  · exact .refl i
  · exact ⟨fun _ h => (nomatch h), fun h => ⟨fun _ => rfl, h.2⟩, id⟩

theorem Interlock.prepares_mismatch (m : Nat) (hm : m ≤ 2) (i : Interlock) : i.Prepares { i with mismatch := m } :=
  ⟨id, fun h => ⟨h.1, hm⟩, id⟩

theorem Interlock.prepares_count (agrees : Bool) (i : Interlock) : i.Prepares (i.count agrees) := by
  unfold Interlock.count
  split
  · exact .refl i
  · split
    · exact i.prepares_mismatch 0 (Nat.zero_le 2)
    · split
      · exact (i.prepares_mismatch 0 (Nat.zero_le 2)).trans (Interlock.prepares_latch _)
      · exact i.prepares_mismatch _ (by omega)

theorem Interlock.prepares_feedback (sample : Option Nat) (i : Interlock) : i.Prepares (i.feedback sample) :=
  (i.prepares_prove _).trans (Interlock.prepares_count _ _)

end Sys2Proof.Machine
end

section
/-! The rows of a bank (R76, R89): distinct outputs, what a swap keeps, and the laws of the interlock through every step. -/

namespace Sys2Proof.Machine
open State

/-! ### The rows a bank calls for -/

theorem kind_of_mem_rowOfNode {k : RowKind} {a : Option Nat} {r : Row} (h : r ∈ rowOfNode k a) : r.kind = k := by
  cases a <;> simp [rowOfNode] at h
  rw [h]
  rfl

theorem rowOfNode_places_ne (k : RowKind) (a : Option Nat) : (rowOfNode k a).Pairwise fun x y => x.place ≠ y.place := by
  cases a <;> simp [rowOfNode]

theorem portOf_eq_some {ports : List (Option Nat)} {z p : Nat} (h : portOf ports z = some p) : ports.getD p none = some z := by
  simpa using List.find?_some h

/-- A zone's damper port names the zone. -/
theorem Banks.damperPort_eq_some {b : Banks} {z a p : Nat} (h : b.damperPort z = some (a, p)) :
    (b.liveNode a).ports.getD p none = some z := by
  obtain ⟨a', -, h⟩ := List.exists_of_findSome?_eq_some h
  extract_lets e at h
  split at h
  · cases hp : portOf e.ports z with
    | none => simp [hp] at h
    | some p' =>
      simp only [hp, Option.map_some, Option.some.injEq, Prod.mk.injEq] at h
      obtain ⟨rfl, rfl⟩ := h
      exact portOf_eq_some hp
  · cases h

theorem Banks.damperPorts_places_ne (b : Banks) :
    (b.damperPorts.map fun x => Row.created (.damper x.1) x.2.1 x.2.2).Pairwise fun x y => x.place ≠ y.place := by
  rw [List.pairwise_map, Banks.damperPorts, List.pairwise_filterMap]
  refine List.nodup_range.imp fun {z z'} hne x hx y hy he => hne ?_
  cases hz : b.damperPort z with
  | none => simp [hz] at hx
  | some ap =>
    cases hz' : b.damperPort z' with
    | none => simp [hz'] at hy
    | some ap' =>
      simp only [hz, hz', Option.map_some, Option.some.injEq] at hx hy
      subst hx hy
      have h := Banks.damperPort_eq_some hz
      have h' := Banks.damperPort_eq_some hz'
      simp only [Row.place, Row.created, Prod.mk.injEq] at he
      rw [he.1, he.2.2, h'] at h
      exact (Option.some.inj h).symm

theorem Row.place_ne_of_function {x y : Row} (h : x.kind.function ≠ y.kind.function) : x.place ≠ y.place :=
  fun he => h (congrArg (·.2.1) he)

/-- R11, R76: the rows a bank calls for are for distinct outputs. -/
theorem State.calledRows_places_ne (s : State) : s.calledRows.Pairwise fun x y => x.place ≠ y.place := by
  have hdamper : ∀ r ∈ s.banks.damperPorts.map fun x => Row.created (.damper x.1) x.2.1 x.2.2, r.kind.function = 2 := by
    intro r hr
    obtain ⟨x, -, rfl⟩ := List.mem_map.1 hr
    rfl
  have hnode : ∀ k a, ∀ r ∈ rowOfNode k a, r.kind.function = k.function := fun k a r hr => by rw [kind_of_mem_rowOfNode hr]
  have hpump : ∀ r ∈ (if s.pumpFitted then rowOfNode .pump (s.banks.nodeOfClass classTank) else []),
      r.kind.function = 5 := by
    intro r hr
    split at hr
    · exact hnode _ _ r hr
    · cases hr
  have hcross : ∀ {l l' : List Row} {m m' : Nat}, (∀ r ∈ l, r.kind.function = m) → (∀ r ∈ l', r.kind.function = m') →
      m ≠ m' → ∀ x ∈ l, ∀ y ∈ l', x.place ≠ y.place := fun h h' hne x hx y hy =>
    Row.place_ne_of_function (by rw [h x hx, h' y hy]; exact hne)
  unfold State.calledRows
  split
  · exact List.Pairwise.nil
  · simp only [List.pairwise_append, List.mem_append]
    have hpumps : (if s.pumpFitted then rowOfNode .pump (s.banks.nodeOfClass classTank) else []).Pairwise
        fun x y => x.place ≠ y.place := by
      split
      · exact rowOfNode_places_ne _ _
      · exact List.Pairwise.nil
    refine ⟨⟨⟨⟨rowOfNode_places_ne _ _, s.banks.damperPorts_places_ne, ?_⟩, rowOfNode_places_ne _ _, ?_⟩,
      rowOfNode_places_ne _ _, ?_⟩, hpumps, ?_⟩
    · exact hcross (hnode _ _) hdamper (by decide)
    · rintro x (hx | hx)
      · exact hcross (hnode _ _) (hnode _ _) (by decide) x hx
      · exact hcross hdamper (hnode _ _) (by decide) x hx
    · rintro x ((hx | hx) | hx)
      · exact hcross (hnode _ _) (hnode _ _) (by decide) x hx
      · exact hcross hdamper (hnode _ _) (by decide) x hx
      · exact hcross (hnode _ _) (hnode _ _) (by decide) x hx
    · rintro x (((hx | hx) | hx) | hx)
      · exact hcross (hnode _ _) hpump (by decide) x hx
      · exact hcross hdamper hpump (by decide) x hx
      · exact hcross (hnode _ _) hpump (by decide) x hx
      · exact hcross (hnode _ _) hpump (by decide) x hx

/-- R76: the rows a bank calls for are off. -/
theorem State.calledRows_commanded (s : State) : ∀ r ∈ s.calledRows, r.commanded = 0 := by
  have hnode : ∀ k a, ∀ r ∈ rowOfNode k a, r.commanded = 0 := by
    intro k a r hr
    cases a <;> simp [rowOfNode] at hr
    rw [hr]
    rfl
  unfold State.calledRows
  split
  · intro r hr
    cases hr
  · simp only [List.mem_append]
    rintro r ((((hr | hr) | hr) | hr) | hr)
    · exact hnode _ _ r hr
    · obtain ⟨x, -, rfl⟩ := List.mem_map.1 hr
      rfl
    · exact hnode _ _ r hr
    · exact hnode _ _ r hr
    · split at hr
      · exact hnode _ _ r hr
      · cases hr

/-! ### A swap taken (R89) -/

theorem Row.same_iff (x y : Row) : Row.same x y = true ↔ x.place = y.place := by
  simp [Row.same, Row.place, and_assoc]

theorem Interlock.createRow_kind (i : Interlock) (old : List Row) (r : Row) : (i.createRow old r).kind = r.kind := by
  unfold Interlock.createRow keepRow
  split <;> rfl

theorem Interlock.createRow_place (i : Interlock) (old : List Row) (r : Row) : (i.createRow old r).place = r.place := by
  unfold Interlock.createRow keepRow
  split
  · next k h =>
    have hsame := (Row.same_iff _ _).1 (List.find?_some h)
    simp only [Row.place, Prod.mk.injEq] at hsame ⊢
    exact ⟨hsame.1.symm, trivial, hsame.2.2.symm⟩
  · rfl

theorem RowKind.eq_blower_of_function {k : RowKind} (h : k.function = 1) : k = .blower := by
  cases k <;> simp [RowKind.function] at h
  rfl

theorem Interlock.compare_places (p : PlantLimits) (called : List Row) (i : Interlock) :
    (i.compare p called).rows.map Row.place = called.map Row.place ∧
      (i.compare p called).leaving.map Row.place =
        ((i.leaving ++ i.rows).filter fun r => !called.any (Row.same r)).map Row.place := by
  refine ⟨?_, ?_⟩
  · rw [Interlock.compare, List.map_map]
    exact List.map_congr_left fun r _ => i.createRow_place i.rows r
  · rw [Interlock.compare, List.map_append, List.map_map, List.filter_append, List.map_append]
    rfl

theorem nodup_places_iff (rs : List Row) : (rs.map Row.place).Nodup ↔ rs.Pairwise fun x y => x.place ≠ y.place :=
  List.pairwise_map

/-- R89: the rows called for and the rows that leave are for distinct outputs. -/
theorem Interlock.prepares_compare (p : PlantLimits) {called : List Row} (i : Interlock)
    (hcalled : called.Pairwise fun x y => x.place ≠ y.place) : i.Prepares (i.compare p called) where
  hasBlower h hp := by
    simp only [Interlock.compare, Bool.and_eq_true, Bool.not_eq_true'] at hp
    obtain ⟨hproof, hleaving⟩ := hp
    obtain ⟨r, hr⟩ := Option.isSome_iff_exists.1 (h hproof)
    have hkind := i.row_kind _ r hr
    have hmem : r ∈ i.rows := List.mem_of_find?_eq_some hr
    have hcalls : called.any (Row.same r) = true := by
      by_contra hnone
      have : isLeaving i.rows called .blower = true :=
        List.any_eq_true.2 ⟨r, hmem, by simp [hkind, Bool.eq_false_iff.2 hnone]⟩
      rw [this] at hleaving
      cases hleaving
    obtain ⟨x, hx, hsame⟩ := List.any_eq_true.1 hcalls
    have hfunction : x.kind.function = 1 := by
      have hplace := (Row.same_iff r x).1 hsame
      have hkinds : r.kind.function = x.kind.function := congrArg (·.2.1) hplace
      rw [← hkinds, hkind]
      rfl
    rw [Interlock.row, List.find?_isSome]
    refine ⟨i.createRow i.rows x, List.mem_map_of_mem hx, ?_⟩
    rw [Interlock.createRow_kind, RowKind.eq_blower_of_function hfunction]
    rfl
  fault := fun ⟨h, hm⟩ => by
    refine ⟨fun hf => ?_, ?_⟩
    · show (i.proof && _) = false
      rw [h hf]
      rfl
    · show (if _ then 0 else i.mismatch) ≤ 2
      split
      · exact Nat.zero_le 2
      · exact hm
  distinct h := by
    obtain ⟨hrows, hleaving⟩ := i.compare_places p called
    rw [Interlock.Distinct, List.map_append, hrows, hleaving, ← List.map_append, nodup_places_iff, List.pairwise_append]
    rw [Interlock.Distinct, List.map_append, List.nodup_append_comm, ← List.map_append, nodup_places_iff] at h
    refine ⟨hcalled, h.filter _, fun x hx y hy he => ?_⟩
    have hnone := (List.mem_filter.1 hy).2
    have hany : called.any (Row.same y) = true := List.any_eq_true.2 ⟨x, hx, (Row.same_iff _ _).2 he.symm⟩
    simp [hany] at hnone

/-! ### The interlock through every command -/

variable (s : State)

/-- What an event keeps of the laws of the interlock. -/
def State.InterTo (s t : State) : Prop := s.inter.Keeps (s.param 74 0) t.inter

namespace State.InterTo
variable {s t u : State}

theorem refl (s : State) : s.InterTo s := Interlock.Keeps.refl _

theorem of_eq (h : t.inter = s.inter) : s.InterTo t := by
  rw [State.InterTo, h]
  exact .refl _

theorem trans (h : s.InterTo t) (k : t.InterTo u) (hb : t.banks = s.banks) : s.InterTo u := by
  have hparam : t.param 74 0 = s.param 74 0 := by rw [State.param, State.param, hb]
  rw [State.InterTo, hparam] at k
  exact Interlock.Keeps.trans h k

theorem then_post {es : List Instr} (h : s.InterTo t) : s.InterTo (t.post es) := h

/-- An event that does not change the interlock. -/
theorem of_within {bs : List Block} (h : s.Within bs t) (hi : .inter ∉ bs) : s.InterTo t := of_eq (h.same .inter hi)

/-- A later event that does not change the interlock. -/
theorem then_eq (h : s.InterTo t) (hu : u.inter = t.inter) : s.InterTo u := by
  rw [State.InterTo, hu]
  exact h

end State.InterTo

theorem rows_plain_of_offered {rs rs' : List Row}
    (h : rs'.map (fun r => { r with dirty := false, lastSent := none }) =
      rs.map fun r => { r with dirty := false, lastSent := none }) : rs'.map Row.plain = rs.map Row.plain := by
  have := congrArg (List.map Row.plain) h
  rwa [rows_plain_map (by intro r; rfl), rows_plain_map (by intro r; rfl)] at this

/-- R87, R89: offers change dirty marks, last sent sweeps, and which rows are still leaving. -/
theorem Interlock.keeps_offered {n : Nat} (i : Interlock) (src : Nat) (g g' : Ring) :
    i.Keeps n { i with
      leaving := (offerRows src g i.leaving).2.filter (·.dirty), rows := (offerRows src g' i.rows).2 } := by
  refine .of_plain (rows_plain_of_offered (offerRows_rows src i.rows g')) ?_ rfl rfl rfl rfl
  rw [← rows_place_congr (rows_plain_of_offered (offerRows_rows src i.leaving g))]
  exact List.filter_sublist.map _

theorem State.offerDirty_interTo : s.InterTo s.offerDirty := s.inter.keeps_offered _ _ _

theorem State.resolving_interTo {f : Interlock → Interlock} (hf : s.inter.Prepares (f s.inter)) :
    s.InterTo (s.resolving f) :=
  Interlock.Keeps.trans (hf.resolve (p := s.plant)) (Interlock.keeps_offered _ _ _ _)

theorem State.setInhibit_interTo (m : Inhibit) (b : Bool) : s.InterTo (s.setInhibit m b) := by
  unfold State.setInhibit
  split
  · exact .refl s
  · exact s.resolving_interTo (s.inter.prepares_inhibits _)

theorem State.takeFeedback_interTo (x : Option Nat) : s.InterTo (s.takeFeedback x) := by
  unfold State.takeFeedback
  split
  · exact .refl s
  · extract_lets t
    have ht : s.InterTo t := s.resolving_interTo (s.inter.prepares_feedback x)
    split
    · exact ht.then_post
    · exact ht

theorem Interlock.prepares_clearFault (i : Interlock) (x : Inhibits) (y : Option Nat) :
    i.Prepares { i with fault := false, inhibits := x, mismatch := 0, settle := y } :=
  ⟨id, fun _ => ⟨fun h => (nomatch h), Nat.zero_le 2⟩, id⟩

theorem State.clearBlowerFault_interTo : s.InterTo s.clearBlowerFault := by
  unfold State.clearBlowerFault
  split
  · exact (s.resolving_interTo (s.inter.prepares_clearFault _ _)).then_post
  · exact .refl s

theorem State.InterTo.of_taking {c : Instr} {s t : State} {f : State → State} (h : taking c s f = .next t)
    (hf : ∀ u : State, u.InterTo (f u)) : s.InterTo t := by
  unfold taking at h
  split at h
  · cases h
    exact .refl s
  · cases h
    exact hf (s.took c)

theorem State.InterTo.of_resolving {c : Instr} {s t : State} {f : State → Interlock → Interlock}
    (h : taking c s (fun u => u.resolving (f u)) = .next t) (hf : ∀ u : State, u.inter.Prepares (f u u.inter)) :
    s.InterTo t :=
  .of_taking h fun u => u.resolving_interTo (hf u)

theorem Interlock.prepares_output (o : Output) (v : Nat) (i : Interlock) :
    i.Prepares (if o = .pump then i else i.request (Output.row o) v) := by
  split
  · exact .refl i
  · exact i.prepares_request _ v

theorem State.InterTo.of_lineChange {c : Instr} {s t : State} {x : Lines} {f : State → State}
    (h : taking c (s.setLines x) f = .next t) (hf : ∀ u : State, u.InterTo (f u)) : s.InterTo t :=
  State.InterTo.of_taking (s := s.setLines x) h hf

/-- No command but a reset can put the interlock outside its laws. -/
theorem exec_interTo {c : Instr} {t : State} (h : exec c s = .next t) (hc : resets c = false) : s.InterTo t := by
  cases c with
  | doorLineChange isOpen =>
    rw [exec, execDoorLineChange] at h
    split at h
    · cases h
      exact .of_eq rfl
    · refine .of_lineChange h fun u => ?_
      have hcycle := State.cycleDoor_within ((u.interlockDoor isOpen).allocDoor isOpen) isOpen
      have hfilter := State.filterDoor_within (((u.interlockDoor isOpen).allocDoor isOpen).cycleDoor isOpen) isOpen
      exact (u.setInhibit_interTo .door isOpen).then_eq
        ((hfilter.same .inter (by simp)).trans (hcycle.same .inter (by simp)))
  | dirtyRowOffer => exact .of_taking h State.offerDirty_interTo
  | normalRequests step ds =>
    exact .of_resolving (f := fun _ i => (i.request .blower step).dampers ds) h fun u =>
      (u.inter.prepares_request _ _).trans (Interlock.prepares_dampers ds _)
  | runRequest o v => exact .of_taking h fun u => u.resolving_interTo (u.inter.prepares_output o v)
  | stopRequest o => exact .of_taking h fun u => u.resolving_interTo (u.inter.prepares_output o 0)
  | cyclePlan k cs => exact .of_taking h fun u => u.resolving_interTo (u.inter.prepares_plan cs)
  | planRelease => exact .of_taking h fun u => u.resolving_interTo (u.inter.prepares_plan [])
  | inhibitClaim m => exact .of_taking h fun u => u.setInhibit_interTo m true
  | inhibitRelease m => exact .of_taking h fun u => u.setInhibit_interTo m false
  | blowerFbSample x => exact .of_taking h fun u => u.takeFeedback_interTo _
  | minOnExpiry =>
    rw [exec, execMinOnExpiry] at h
    refine .of_taking h fun u => ?_
    split
    · exact u.resolving_interTo (u.inter.prepares_clock _)
    · exact .refl u
  | minOffExpiry =>
    rw [exec, execMinOffExpiry] at h
    refine .of_taking h fun u => ?_
    split
    · exact u.resolving_interTo (u.inter.prepares_clock _)
    · exact .refl u
  | settleTimerExpiry =>
    rw [exec, execSettleTimerExpiry] at h
    refine .of_taking h fun u => ?_
    split
    · exact .of_plain rfl (List.Sublist.refl _) rfl rfl rfl rfl
    · exact .refl u
  | interlockSweepBegin n =>
    rw [exec, execInterlockSweepBegin] at h
    refine .of_taking h fun u => State.InterTo.trans (t := u.setInter _) ?_ (State.offerDirty_interTo _) rfl
    refine .of_plain (rows_plain_map (fun r => ?_) u.inter.rows) (List.Sublist.refl _) rfl rfl rfl rfl
    rfl
  | interlockSwapTaken =>
    rw [exec, execInterlockSwapTaken] at h
    exact .of_taking h fun u => u.resolving_interTo (u.inter.prepares_compare _ (State.calledRows_places_ne _))
  | clearFault =>
    obtain hw | ⟨r, rest, -, -, -, -, rfl⟩ := requestRow_cases s h
    · exact State.InterTo.of_within (s := s.took _) hw (by simp)
    · unfold runClearFault
      split
      · exact (State.clearBlowerFault_interTo ((s.took .clearFault).reserve rest)).then_eq rfl
      · exact .of_eq ((State.clearPumpFault_within ((s.took .clearFault).reserve rest)).same .inter (by simp))
  | _ => exact .of_eq (exec_agrees s h hc .inter (by simp))

end Sys2Proof.Machine
end

section
/-! The plant protected through every step (R80, R82–R84, R11, R76, R89). -/

namespace Sys2Proof.Machine
open State

variable (s : State)

/-- The laws of the interlock, with the dry min step n. -/
structure Interlock.Lawful (n : Nat) (i : Interlock) : Prop where
  hasBlower : i.ProvenHasBlower
  fault : i.FaultClear
  distinct : i.Distinct
  door : i.DoorShut
  safe : i.ProofSafe
  floor : i.FloorHeld n

/-- An interlock with every row off, airflow not proven, the latch clear and no row leaving. -/
theorem Interlock.lawful_of_off {n : Nat} {i : Interlock} (hoff : ∀ r ∈ i.rows, r.commanded = 0) (hproof : i.proof = false)
    (hfault : i.fault = false) (hmismatch : i.mismatch = 0) (hleaving : i.leaving = [])
    (hplaces : i.rows.Pairwise fun x y => x.place ≠ y.place) : i.Lawful n where
  hasBlower h := by simp [hproof] at h
  fault := ⟨fun h => by simp [hfault] at h, by simp [hmismatch]⟩
  distinct := by
    rw [Interlock.Distinct, hleaving, List.append_nil, nodup_places_iff]
    exact hplaces
  door _ r hr _ _ _ := hoff r hr
  safe r hr _ hon := absurd (hoff r hr) hon
  floor r hr _ hon := absurd (hoff r hr) hon

theorem Interlock.Lawful.keeps {n : Nat} {i j : Interlock} (h : i.Lawful n) (k : i.Keeps n j) : j.Lawful n :=
  ⟨k.hasBlower h.hasBlower, k.fault h.fault, k.distinct h.distinct, k.door h.door, k.safe h.safe, k.floor h.floor⟩

theorem Interlock.lawful_atReset (n : Nat) (door : Bool) : (Interlock.atReset door).Lawful n :=
  Interlock.lawful_of_off (fun _ h => nomatch h) rfl rfl rfl rfl List.Pairwise.nil

/-- R91: the rebuilt rows are off. -/
theorem State.lawful_softReset (n : Nat) (arriving between : Bool) : (s.softReset arriving between).inter.Lawful n := by
  have hsoft : s.softInterlock.Lawful n :=
    Interlock.lawful_of_off s.calledRows_commanded rfl rfl rfl rfl s.calledRows_places_ne
  exact hsoft.keeps (s.softInterlock.keeps_offered _ _ _)

theorem State.tick_keeps_inter (n : Nat) : s.inter.Keeps n s.tick.inter := by
  rcases Nat.lt_or_ge s.subTick 19 with h | h
  · rw [s.tick_of_lt h]
    exact .refl _
  · rw [s.tick_of_le h]
    exact .of_plain rfl (List.Sublist.refl _) rfl rfl rfl rfl

/-- A law of the interlock that its changes keep and its resets give, every step keeps. -/
theorem step_keeps_inter {Q : Interlock → Prop} (hQ : ∀ {n i j}, i.Keeps n j → Q i → Q j)
    (hlawful : ∀ {n i}, i.Lawful n → Q i) {s t : State} (h : Q s.inter) (hs : step s = .next t) : Q t.inter := by
  refine step_keeps (P := fun s => Q s.inter) (fun c s t h he => ?_) (fun s h => hQ (s.tick_keeps_inter 0) h)
    (fun _ _ h => h) h hs
  cases hc : resets c
  · exact hQ (exec_interTo s he hc) h
  · exact reset_keeps (P := fun s => Q s.inter) (fun l _ _ => hlawful (Interlock.lawful_atReset 0 l.door))
      (fun _ _ h => h) (fun _ h => h) (fun s a b _ => hlawful (s.lawful_softReset 0 a b)) h hc he

/-- Settles O57: a resolution gives the laws of the outputs whatever came before it, and what comes before it keeps the
others. -/
theorem stepKeepsPlantProtected : Obligations.StepKeepsPlantProtected := by
  refine ⟨fun s t hdoor hsafe hblower hfault hs => ⟨?_, ?_, ?_, ?_⟩, fun s t h hs => ?_⟩
  · exact step_keeps_inter (Q := Interlock.DoorShut) (fun k => k.door) (fun k => k.door) hdoor hs
  · exact step_keeps_inter (Q := Interlock.ProofSafe) (fun k => k.safe) (fun k => k.safe) hsafe hs
  · exact step_keeps_inter (Q := Interlock.ProvenHasBlower) (fun k => k.hasBlower) (fun k => k.hasBlower) hblower hs
  · exact step_keeps_inter (Q := Interlock.FaultClear) (fun k => k.fault) (fun k => k.fault) hfault hs
  · exact step_keeps_inter (Q := Interlock.Distinct) (fun k => k.distinct) (fun k => k.distinct) h hs

end Sys2Proof.Machine
end

section
/-! R166, R167: the live tables stay as they are, or a swap was taken and is posted to its six blocks; and so the blower stays at
the dry min step (R83). -/

namespace Sys2Proof.Machine
open State

/-! ### The live tables through a command -/

/-- The live tables stay as they are. -/
structure Banks.KeepsLive (b b' : Banks) : Prop where
  live : b'.live = b.live
  word : ∀ p o, b'.liveWord p o = b.liveWord p o

variable {b b' : Banks} {s t u : State}

theorem Banks.KeepsLive.of_bank (hlive : b'.live = b.live) (h : ∀ id, b.live = some id → b'.bank id = b.bank id) :
    b.KeepsLive b' := by
  refine ⟨hlive, fun p o => ?_⟩
  unfold Banks.liveWord
  rw [hlive]
  split
  · rfl
  · next id hid => rw [h id hid]

theorem Banks.KeepsLive.refl (b : Banks) : b.KeepsLive b := ⟨rfl, fun _ _ => rfl⟩

theorem Banks.KeepsLive.trans {b'' : Banks} (h : b.KeepsLive b') (k : b'.KeepsLive b'') : b.KeepsLive b'' :=
  ⟨k.live.trans h.live, fun p o => (k.word p o).trans (h.word p o)⟩

/-- R157: a page written into the shadow is not among the live tables. -/
theorem Banks.keepsLive_putShadow (b : Banks) (p : Nat) (ws : List Word) (st : PageStatus) :
    b.KeepsLive (b.putShadow p ws st) :=
  .of_bank (b.live_putShadow p ws st) fun id hid => by
    rw [Banks.bank_putShadow, if_neg (b.shadowId_ne_of_live id hid)]

theorem Banks.keepsLive_ends (b : Banks) (op : StoreOp) (p : Option Nat) (o : StoreOutcome) : b.KeepsLive (b.ends op p o) :=
  .of_bank rfl fun id _ => b.bank_ends op p o id

theorem Banks.keepsLive_advance (b : Banks) (op : StoreOp) (n : Nat) : b.KeepsLive (b.advance op n) := by
  obtain ⟨hbank, hlive, -⟩ := b.advance_keeps op n
  exact .of_bank hlive fun id _ => hbank id

/-- A change of the staging buffer, the engine or the record only. -/
theorem Banks.KeepsLive.of_fields (ha : b'.a = b.a) (hb : b'.b = b.b) (hlive : b'.live = b.live) : b.KeepsLive b' :=
  .of_bank hlive fun id _ => by cases id <;> assumption

theorem Banks.keepsLive_committed (b : Banks) (p : Nat) : b.KeepsLive (b.committed p) :=
  (b.keepsLive_putShadow p (b.builtPage p) .written).trans (.of_fields rfl rfl rfl)

/-- The live tables stay as they are, or a swap is posted to its six blocks. -/
def State.SwapsTo (s t : State) : Prop := s.banks.KeepsLive t.banks ∨ t.isLive = true ∧ swapPosts ⊆ t.posts

namespace State.SwapsTo

theorem of_eq (h : t.banks = s.banks) : s.SwapsTo t := .inl (h ▸ .refl _)

theorem of_within {bs : List Block} (h : s.Within bs t) (hb : .banks ∉ bs) : s.SwapsTo t := of_eq (h.same .banks hb)

theorem after (k : t.SwapsTo u) (h : s.banks.KeepsLive t.banks) : s.SwapsTo u := k.imp_left h.trans

theorem of_taking {c : Instr} {f : State → State} (h : taking c s f = .next t) (hf : ∀ u : State, u.SwapsTo (f u)) :
    s.SwapsTo t := by
  unfold taking at h
  split at h
  · cases h
    exact of_eq rfl
  · cases h
    exact hf (s.took c)

theorem of_storeRequest {f : State → State × Answer} (h : s.SwapsTo (f s).1) : s.SwapsTo (s.storeRequest f).1 := by
  unfold State.storeRequest
  split
  · exact of_eq rfl
  · exact h

theorem of_requestRow {c : Instr} {code : Nat} {ok : Request → Bool} {run : Request → State → State × Answer}
    (h : requestRow c code ok run s = .next t) (hrun : ∀ (r : Request) (u : State), u.SwapsTo (run r u).1) :
    s.SwapsTo t := by
  obtain hw | ⟨r, rest, -, -, -, -, rfl⟩ := requestRow_cases s h
  · exact State.SwapsTo.of_within (s := s.took c) hw (by simp)
  · exact hrun r ((s.took c).reserve rest)

end State.SwapsTo

theorem State.takeSwap_swapsTo (s : State) : s.SwapsTo s.takeSwap :=
  .inr ⟨rfl, List.subset_append_left swapPosts s.posts⟩

theorem State.takePending_swapsTo (s : State) : s.SwapsTo s.takePending := by
  unfold State.takePending
  split
  · exact s.takeSwap_swapsTo
  · exact .of_eq rfl

theorem State.swapBanks_swapsTo (s : State) : s.SwapsTo s.swapBanks.1 := by
  unfold State.swapBanks
  split
  · exact .of_eq rfl
  · split
    · exact .of_eq rfl
    · split
      · exact .inl (.of_fields rfl rfl rfl)
      · exact s.takeSwap_swapsTo

theorem State.walkEnd_swapsTo (s : State) (index : Nat) : s.SwapsTo (s.walkEnd index) := by
  unfold State.walkEnd
  split
  · exact .of_eq rfl
  · split
    · exact .of_eq rfl
    · exact .inr ⟨rfl, List.subset_append_left swapPosts s.posts⟩

theorem State.headerRead_swapsTo (s : State) (ws : List Word) : s.SwapsTo (s.headerRead ws) := by
  unfold State.headerRead
  extract_lets signature version first
  split
  · exact .of_eq rfl
  · split
    · exact .of_eq rfl
    · split
      · exact s.walkEnd_swapsTo 0
      · exact .of_eq rfl

theorem State.descriptorRead_swapsTo (s : State) (i : Nat) (ws : List Word) : s.SwapsTo (s.descriptorRead i ws) := by
  unfold State.descriptorRead
  extract_lets page
  split
  · exact .of_eq rfl
  · exact .of_eq rfl

theorem State.imageRead_swapsTo (s : State) (i p : Nat) (next : Word) (ws : List Word) :
    s.SwapsTo (s.imageRead i p next ws) := by
  unfold State.imageRead
  extract_lets image
  split
  · exact .inl (s.banks.keepsLive_ends _ _ _)
  · exact .of_eq rfl

theorem State.imageWritten_swapsTo (s : State) (i p : Nat) (image : List Word) (next : Word) :
    s.SwapsTo (s.imageWritten i p image next) := by
  unfold State.imageWritten
  extract_lets t
  have ht : s.banks.KeepsLive t.banks :=
    (s.banks.keepsLive_putShadow p image .written).trans (Banks.keepsLive_ends _ _ _ _)
  split
  · exact (t.walkEnd_swapsTo i).after ht
  · split
    · exact .inl ht
    · exact .inl ht

theorem State.validated_swapsTo (s : State) (p : Nat) : s.SwapsTo (s.validated p) := by
  unfold State.validated
  split
  · exact .inl (s.banks.keepsLive_ends _ _ _)
  · exact .inl (.of_fields rfl rfl rfl)

theorem State.commitPage_swapsTo (s : State) (p : Nat) (calEn : Bool) : s.SwapsTo (s.commitPage p calEn).1 := by
  unfold State.commitPage
  split
  · exact .of_eq rfl
  · split
    · exact .of_eq rfl
    · exact .inl (.of_fields rfl rfl rfl)

theorem State.copyLive_swapsTo (s : State) : s.SwapsTo s.copyLive.1 := by
  unfold State.copyLive
  split
  · exact .inl (.of_fields rfl rfl rfl)
  · exact .of_eq rfl

/-- R166, R167: no command but a reset changes the live tables without a swap that it posts. -/
theorem exec_swapsTo {c : Instr} (h : exec c s = .next t) (hc : resets c = false) : s.SwapsTo t := by
  cases c with
  | banksSweepBegin n => exact .of_taking h State.takePending_swapsTo
  | sweepsDisabled => exact .of_taking h State.takePending_swapsTo
  | validationComplete =>
    rw [exec, execValidationComplete] at h
    refine .of_taking h fun u => ?_
    split
    · exact u.validated_swapsTo _
    all_goals exact .of_eq rfl
  | commitComplete =>
    rw [exec, execCommitComplete] at h
    refine .of_taking h fun u => ?_
    split
    · exact .inl (u.banks.keepsLive_committed _)
    all_goals exact .of_eq rfl
  | copyPageComplete =>
    rw [exec, execCopyPageComplete] at h
    refine .of_taking h fun u => ?_
    split
    · exact .inl ((u.banks.keepsLive_putShadow _ _ _).trans (Banks.keepsLive_advance _ _ _))
    all_goals exact .of_eq rfl
  | erasePageComplete =>
    rw [exec, execErasePageComplete] at h
    refine .of_taking h fun u => ?_
    split
    · exact .inl ((u.banks.keepsLive_putShadow _ _ _).trans (Banks.keepsLive_advance _ _ _))
    all_goals exact .of_eq rfl
  | loaderReadComplete words =>
    rw [exec, execLoaderReadComplete] at h
    refine .of_taking h fun u => ?_
    split
    · exact u.headerRead_swapsTo words
    · exact u.descriptorRead_swapsTo _ words
    · exact u.imageRead_swapsTo _ _ _ words
    all_goals exact .of_eq rfl
  | loaderWriteComplete =>
    rw [exec, execLoaderWriteComplete] at h
    refine .of_taking h fun u => ?_
    split
    · exact u.imageWritten_swapsTo _ _ _ _
    all_goals exact .of_eq rfl
  | loadStaging => exact .of_requestRow h fun r u => .of_storeRequest (.inl (.of_fields rfl rfl rfl))
  | clearStaging => exact .of_requestRow h fun r u => .of_storeRequest (.inl (.of_fields rfl rfl rfl))
  | commitPage calEn =>
    exact .of_requestRow h fun r u => State.SwapsTo.of_storeRequest (s := u.sampleCal calEn) (State.commitPage_swapsTo _ _ _)
  | copyLive => exact .of_requestRow h fun r u => .of_storeRequest u.copyLive_swapsTo
  | eraseShadow calEn =>
    exact .of_requestRow h fun r u => State.SwapsTo.of_storeRequest (s := u.sampleCal calEn) (.inl (.of_fields rfl rfl rfl))
  | swapBanks => exact .of_requestRow h fun r u => .of_storeRequest u.swapBanks_swapsTo
  | _ => exact .of_eq (exec_agrees s h hc .banks (by simp))

/-! ### The blower at the floor (R83) -/

theorem State.floorLaw_iff (s : State) : s.FloorLaw ↔ s.inter.FloorHeld (s.param 74 0) := Iff.rfl

theorem State.FloorLaw.of_keepsLive (h : s.inter.FloorHeld (s.param 74 0) → t.inter.FloorHeld (s.param 74 0))
    (hb : s.banks.KeepsLive t.banks) (hs : s.FloorLaw) : t.FloorLaw := by
  rw [State.floorLaw_iff, State.param, hb.word]
  exact h hs

/-- R79, R83: once the interlock has taken a swap, the blower stands at the floor of the new tables. -/
theorem exec_interlockSwapTaken_floor (h : exec .interlockSwapTaken s = .next t) (hheld : s.held = false) : t.FloorLaw := by
  rw [exec, execInterlockSwapTaken, taking_awake s _ _ hheld] at h
  cases h
  exact (Interlock.keeps_offered _ _ _ _).floor (Interlock.resolve_floorHeld _ _)

theorem exec_interlockSwapTaken_held (h : exec .interlockSwapTaken s = .next t) (hheld : s.held = true) : t = s := by
  rw [exec, execInterlockSwapTaken, taking_held s _ _ hheld] at h
  exact (Host.Outcome.next.inj h).symm

/-- A law that holds but for the moment between a swap and its taking, the event e: it is enough that the full reset state has
it, that no event in flight bears on it, and that a SOFT RESET keeps it but for that moment. -/
theorem reset_keeps_event {Q : State → Prop} {e : Instr} (hself : resets e = false)
    (hreset : ∀ l free pending, Q (State.atReset l free pending)) (hposts : ∀ (s : State) (x : List Instr), Q s → Q (s.setPosts x))
    (hheld : ∀ s : State, Q s → Q (s.setHeld true))
    (hsoft : ∀ (s : State) (a b : Bool), Q s ∨ e ∈ s.posts → Q (s.softReset a b) ∨ e ∈ (s.softReset a b).posts)
    {c : Instr} (h : Q s ∨ e ∈ s.posts) (hc : resets c = true) (he : exec c s = .next t) : Q t ∨ e ∈ t.posts := by
  have hne : e ≠ c := fun hec => Bool.false_ne_true (hself.symm.trans (hec ▸ hc))
  have htook : Q (s.took c) ∨ e ∈ (s.took c).posts := h.imp (hposts s _) (List.mem_erase_of_ne hne).2
  obtain ⟨l, rfl⟩ | ⟨l, rfl⟩ | rfl | rfl | ⟨a, b, rfl⟩ := exec_resets s he hc
  · exact .inl (hreset _ _ _)
  · exact .inl (hheld _ (hposts _ _ (hreset _ _ _)))
  · exact h
  · exact htook
  · exact hsoft _ a b htook

theorem State.floorLaw_of_lawful {s : State} (h : ∀ n, s.inter.Lawful n) : s.FloorLaw := (h _).floor

/-- The moment between a swap and the interlock's taking of it ends with the law of R83 or not at all. -/
theorem exec_keeps_floor {c : Instr} (h : s.FloorLaw ∨ .interlockSwapTaken ∈ s.posts) (hc : resets c = false)
    (he : exec c s = .next t) : t.FloorLaw ∨ .interlockSwapTaken ∈ t.posts := by
  obtain hkeeps | ⟨-, hswap⟩ := exec_swapsTo he hc
  · obtain hfloor | hpost := h
    · exact .inl (State.FloorLaw.of_keepsLive (exec_interTo s he hc).floor hkeeps hfloor)
    · by_cases hself : c = .interlockSwapTaken
      · subst hself
        cases hheld : s.held
        · exact .inl (exec_interlockSwapTaken_floor he hheld)
        · rw [exec_interlockSwapTaken_held he hheld]
          exact .inr hpost
      · exact .inr (exec_posts s he hc hpost (Ne.symm hself))
  · exact .inr (hswap (by simp [swapPosts]))

/-- Settles O58: a command that leaves the live tables keeps the floor, and one that changes them posts the swap that the
interlock has then to take. -/
theorem stepKeepsBlowerAtFloor : Obligations.StepKeepsBlowerAtFloor := by
  intro s t h hs
  refine step_keeps (P := fun s => s.FloorLaw ∨ Instr.interlockSwapTaken ∈ s.posts) (fun c s t h he => ?_) (fun s h => ?_)
    (fun s x h => h) h hs
  · cases hc : resets c
    · exact exec_keeps_floor h hc he
    · exact reset_keeps_event rfl (fun l _ _ => State.floorLaw_of_lawful fun n => Interlock.lawful_atReset n l.door)
        (fun _ _ h => h) (fun _ h => h)
        (fun s a b _ => .inl (State.floorLaw_of_lawful fun n => s.lawful_softReset n a b)) h hc he
  · obtain hfloor | hpost := h
    · refine .inl (State.FloorLaw.of_keepsLive (s.tick_keeps_inter _).floor ?_ hfloor)
      rw [s.tick_within.same .banks (by simp)]
      exact .refl _
    · exact .inr (s.tick_within.posts hpost)

end Sys2Proof.Machine
end

section
/-! The cycles in order (R124, R129–R131, R133): each kind at most once present, the queue in priority order, and what each
event of the Cycle Engine does to the three places. -/

namespace Sys2Proof.Machine
open State

/-! ### The law of the places -/

/-- R124, R129–R131, R133: the queue, the running and the suspended place of an engine. -/
structure CycleEngine.Lawful (e : CycleEngine) : Prop where
  kinds : e.kinds.Nodup
  sorted : (e.queue.map fun c => CycleKind.priority c.kind).Pairwise (· < ·)
  suspended : ∀ c ∈ e.suspended, c.kind = .regen ∨ c.kind = .profile
  running : ∀ c ∈ e.running, c.stepFits = true
  resumes : ∀ c ∈ e.suspended, c.stepFits = true

theorem State.cycleLaw_iff (s : State) : s.CycleLaw ↔ s.cycles.Lawful :=
  ⟨fun ⟨h1, h2, h3, h4, h5⟩ => ⟨h1, h2, h3, h4, h5⟩, fun h => ⟨h.kinds, h.sorted, h.suspended, h.running, h.resumes⟩⟩

namespace CycleEngine
variable {e e' : CycleEngine} {c d : Cycle}

/-- The law is about the three places only. -/
theorem Lawful.of_places (h : e.Lawful) (hq : e'.queue = e.queue) (hr : e'.running = e.running)
    (hs : e'.suspended = e.suspended) : e'.Lawful := by
  obtain ⟨h1, h2, h3, h4, h5⟩ := h
  refine ⟨?_, hq ▸ h2, hs ▸ h3, hr ▸ h4, hs ▸ h5⟩
  rw [CycleEngine.kinds, hq, hr, hs]
  exact h1

theorem Lawful.of_running (h : e.Lawful) (he : e.running = some c) (hk : d.kind = c.kind) (hfit : d.stepFits = true) :
    ({ e with running := some d } : CycleEngine).Lawful := by
  obtain ⟨h1, h2, h3, -, h5⟩ := h
  refine ⟨?_, h2, h3, fun x hx => by rw [← Option.some.inj hx]; exact hfit, h5⟩
  rw [CycleEngine.kinds, he] at h1
  simpa [CycleEngine.kinds, hk] using h1

/-- The running place empties. -/
theorem Lawful.clearRunning (h : e.Lawful) : ({ e with running := none } : CycleEngine).Lawful := by
  obtain ⟨h1, h2, h3, -, h5⟩ := h
  refine ⟨h1.sublist ?_, h2, h3, fun x hx => (nomatch hx), h5⟩
  simp only [CycleEngine.kinds, Option.toList_none, List.map_nil, List.append_nil]
  exact (List.sublist_append_left _ _).append_right _

/-- The suspended place empties. -/
theorem Lawful.clearSuspended (h : e.Lawful) : ({ e with suspended := none } : CycleEngine).Lawful := by
  obtain ⟨h1, h2, -, h4, -⟩ := h
  refine ⟨h1.sublist ?_, h2, fun x hx => (nomatch hx), h4, fun x hx => (nomatch hx)⟩
  simp only [CycleEngine.kinds, Option.toList_none, List.map_nil, List.append_nil]
  exact List.sublist_append_left _ _

/-- Queued instances leave the queue. -/
theorem Lawful.shrinkQueue (h : e.Lawful) {q : List Cycle} (hq : q.Sublist e.queue) :
    ({ e with queue := q } : CycleEngine).Lawful := by
  obtain ⟨h1, h2, h3, h4, h5⟩ := h
  refine ⟨h1.sublist ?_, h2.sublist (hq.map _), h3, h4, h5⟩
  exact ((hq.map _).append_right _).append_right _

/-- The instance in hand, taken out of its place: it may run. -/
def MayRun (e : CycleEngine) (k : CycleKind) : Prop :=
  ∀ d : Cycle, d.kind = k → d.stepFits = true → ({ e with running := some d } : CycleEngine).Lawful

theorem MayRun.congr {k : CycleKind} (h : e.MayRun k) (hq : e'.queue = e.queue) (hs : e'.suspended = e.suspended) :
    e'.MayRun k := fun d hd hfit => (h d hd hfit).of_places hq rfl hs

/-- An instance taken out of the free engine's queue. -/
theorem Lawful.mayRun_queued (h : e.Lawful) (he : e.running = none) {rest : List Cycle} (hq : e.queue = c :: rest) :
    ({ e with queue := rest } : CycleEngine).MayRun c.kind := by
  intro d hd hfit
  obtain ⟨h1, h2, h3, -, h5⟩ := h
  rw [hq, List.map_cons] at h2
  refine ⟨?_, h2.of_cons, h3, fun x hx => by rw [← Option.some.inj hx]; exact hfit, h5⟩
  rw [CycleEngine.kinds, he, hq] at h1
  simp only [CycleEngine.kinds, Option.toList_some, List.map_cons, List.map_nil, hd]
  refine (List.Perm.nodup_iff ?_).1 h1
  simp only [Option.toList_none, List.map_nil, List.append_nil, List.map_cons, List.cons_append, List.append_assoc]
  exact List.perm_middle.symm

/-- The suspended instance of the free engine. -/
theorem Lawful.mayRun_suspended (h : e.Lawful) (he : e.running = none) (hs : e.suspended = some c) :
    ({ e with suspended := none } : CycleEngine).MayRun c.kind := by
  intro d hd hfit
  obtain ⟨h1, h2, -, -, -⟩ := h
  refine ⟨?_, h2, fun x hx => (nomatch hx), fun x hx => by rw [← Option.some.inj hx]; exact hfit, fun x hx => (nomatch hx)⟩
  rw [CycleEngine.kinds, he, hs] at h1
  simpa [CycleEngine.kinds, hd] using h1

theorem setRecord_places (e : CycleEngine) (k : CycleKind) (r : OutcomeRecord) :
    (e.setRecord k r).queue = e.queue ∧ (e.setRecord k r).running = e.running ∧
      (e.setRecord k r).suspended = e.suspended := by
  cases k <;> exact ⟨rfl, rfl, rfl⟩

end CycleEngine

/-! ### Queueing -/

theorem priority_injective {k k' : CycleKind} (h : CycleKind.priority k = CycleKind.priority k') : k = k' := by
  cases k <;> cases k' <;> first | rfl | cases h

theorem enqueue_perm (c : Cycle) (q : List Cycle) : (enqueue c q).Perm (c :: q) := by
  induction q with
  | nil => exact .refl _
  | cons x xs ih =>
    unfold enqueue
    split
    · exact .refl _
    · exact (ih.cons x).trans (.swap c x xs)

/-- R124: an instance of a kind not queued goes to its place by priority. -/
theorem enqueue_sorted (c : Cycle) (q : List Cycle) (h : (q.map fun x => CycleKind.priority x.kind).Pairwise (· < ·))
    (hne : ∀ x ∈ q, x.kind ≠ c.kind) : ((enqueue c q).map fun x => CycleKind.priority x.kind).Pairwise (· < ·) := by
  induction q with
  | nil => simp [enqueue]
  | cons x xs ih =>
    rw [List.map_cons, List.pairwise_cons] at h
    obtain ⟨hx, hxs⟩ := h
    unfold enqueue
    split
    · next hout =>
      have hout : CycleKind.priority c.kind < CycleKind.priority x.kind := of_decide_eq_true hout
      rw [List.map_cons, List.map_cons, List.pairwise_cons, List.pairwise_cons]
      refine ⟨fun a ha => ?_, hx, hxs⟩
      obtain rfl | ha := List.mem_cons.1 ha
      · exact hout
      · exact hout.trans (hx a ha)
    · next hout =>
      have hout : ¬ CycleKind.priority c.kind < CycleKind.priority x.kind := fun k => hout (decide_eq_true k)
      have hdiff : CycleKind.priority x.kind ≠ CycleKind.priority c.kind := fun e =>
        hne x List.mem_cons_self (priority_injective e)
      rw [List.map_cons, List.pairwise_cons]
      refine ⟨fun a ha => ?_, ih hxs fun y hy => hne y (List.mem_cons_of_mem _ hy)⟩
      obtain ⟨y, hy, rfl⟩ := List.mem_map.1 ha
      obtain rfl | hy := List.mem_cons.1 ((enqueue_perm c xs).subset hy)
      · omega
      · exact hx _ (List.mem_map_of_mem hy)

theorem CycleEngine.has_iff (e : CycleEngine) (k : CycleKind) : e.has k = true ↔ k ∈ e.kinds := by
  have hplace : ∀ o : Option Cycle, (o.any fun x => x.kind == k) = true ↔ k ∈ o.toList.map (·.kind) := by
    intro o
    cases o with
    | none => simp
    | some x =>
      simp only [Option.any_some, beq_iff_eq, Option.toList_some, List.map_cons, List.map_nil, List.mem_singleton]
      exact eq_comm
  have hqueue : (e.queue.any fun x => x.kind == k) = true ↔ k ∈ e.queue.map (·.kind) := by
    simp
  rw [CycleEngine.has, CycleEngine.kinds, Bool.or_eq_true, Bool.or_eq_true, List.mem_append, List.mem_append]
  exact or_congr (or_congr hqueue (hplace e.running)) (hplace e.suspended)

/-- R124, R125: a request queues an instance of a kind that is not present. -/
theorem CycleEngine.Lawful.enqueue {e : CycleEngine} (h : e.Lawful) (k : CycleKind) (hk : k ∉ e.kinds) :
    ({ e with queue := Machine.enqueue (Cycle.queued k) e.queue } : CycleEngine).Lawful := by
  obtain ⟨h1, h2, h3, h4, h5⟩ := h
  refine ⟨?_, enqueue_sorted _ _ h2 fun x hx he => hk ?_, h3, h4, h5⟩
  · have hperm : (Machine.enqueue (Cycle.queued k) e.queue).map (·.kind) |>.Perm (k :: e.queue.map (·.kind)) :=
      (enqueue_perm (Cycle.queued k) e.queue).map _
    have hall := (hperm.append_right (e.running.toList.map (·.kind))).append_right (e.suspended.toList.map (·.kind))
    exact (List.Perm.nodup_iff hall).2 (List.nodup_cons.2 ⟨hk, h1⟩)
  · rw [CycleEngine.kinds, List.mem_append, List.mem_append]
    exact .inl (.inl (List.mem_map.2 ⟨x, hx, he⟩))

/-! ### Steps of a kind -/

theorem State.started_fits (s : State) (c : Cycle) : (s.started c).kind = c.kind ∧ (s.started c).stepFits = true := by
  unfold State.started
  split
  all_goals
    next hk =>
    refine ⟨rfl, ?_⟩
    simp [Cycle.stepFits, hk]

theorem Cycle.stepFits_congr {c d : Cycle} (hk : d.kind = c.kind) (hs : d.step = c.step) : d.stepFits = c.stepFits := by
  rw [Cycle.stepFits, Cycle.stepFits, hk, hs]

theorem State.resumed_kind (s : State) (c : Cycle) : (s.resumed c).kind = c.kind ∧ (s.resumed c).step = c.step := by
  unfold State.resumed
  split <;> exact ⟨rfl, rfl⟩

theorem Cycle.setAside_fits {c : Cycle} (h : c.stepFits = true) : c.setAside.stepFits = true := by
  obtain ⟨kind, held, step⟩ := c
  cases kind <;> cases step <;> first | rfl | cases h

theorem suspendable_iff (k : CycleKind) : suspendable k = true ↔ k = .regen ∨ k = .profile := by
  cases k <;> simp [suspendable]

end Sys2Proof.Machine
end

section
/-! Every event of the Cycle Engine keeps the cycles in order, and so does every step (R124, R129–R131, R133). -/

namespace Sys2Proof.Machine
open State

/-- What an event keeps of the law of the places. -/
def State.CyclesTo (s t : State) : Prop := s.cycles.Lawful → t.cycles.Lawful

namespace State.CyclesTo
variable {s t u : State}

theorem refl (s : State) : s.CyclesTo s := id
theorem trans (h : s.CyclesTo t) (k : t.CyclesTo u) : s.CyclesTo u := k ∘ h
theorem of_eq (h : t.cycles = s.cycles) : s.CyclesTo t := fun k => h ▸ k

theorem of_places (hq : t.cycles.queue = s.cycles.queue) (hr : t.cycles.running = s.cycles.running)
    (hs : t.cycles.suspended = s.cycles.suspended) : s.CyclesTo t := fun h => h.of_places hq hr hs

end State.CyclesTo

variable (s : State)

/-! ### The running instance -/

theorem State.ended_places (c : Cycle) (planned : Bool) (o : CycleOutcome) (result : List (Option Curve)) :
    (s.ended c planned o result).cycles.queue = s.cycles.queue ∧
      (s.ended c planned o result).cycles.running = s.cycles.running ∧
      (s.ended c planned o result).cycles.suspended = s.cycles.suspended := s.cycles.setRecord_places _ _

theorem State.ended_cyclesTo (c : Cycle) (planned : Bool) (o : CycleOutcome) (result : List (Option Curve)) :
    s.CyclesTo (s.ended c planned o result) := by
  obtain ⟨hq, hr, hs⟩ := s.ended_places c planned o result
  exact .of_places hq hr hs

/-- The running instance goes on, in a step of its kind. -/
theorem State.setRunning_cyclesTo {c d : Cycle} (hc : s.cycles.running = some c) (hk : d.kind = c.kind)
    (hfit : c.stepFits = true → d.stepFits = true) : s.CyclesTo (s.setRunning (some d)) := fun h =>
  h.of_running hc hk (hfit (h.running c hc))

theorem State.beginStep_cyclesTo {c d : Cycle} (hc : s.cycles.running = some c) (hk : d.kind = c.kind)
    (hfit : c.stepFits = true → d.stepFits = true) : s.CyclesTo (s.beginStep d) :=
  s.setRunning_cyclesTo (d := { d with plan := s.planOf d.step }) hc hk hfit

/-! ### Picking -/

/-- R127, R132: an instance in hand that starts or resumes. -/
theorem State.run_lawful (fresh : Bool) (c : Cycle) (h : s.cycles.MayRun c.kind) (hfit : c.stepFits = true) :
    (s.run fresh c).cycles.Lawful := by
  unfold State.run
  split
  · split
    · exact h { c with held := true, plan := s.planOf c.step } rfl hfit
    · exact h { c with active := true, plan := s.planOf c.step } rfl hfit
  · split
    · exact h { c with plan := s.planOf c.step } rfl hfit
    · exact h { c with plan := s.planOf c.step } rfl hfit

theorem State.launch_runs {fresh : Bool} {c d : Cycle} (h : s.launch fresh c = .runs d)
    (hfit : fresh = false → c.stepFits = true) : d.kind = c.kind ∧ d.stepFits = true := by
  unfold State.launch at h
  split at h
  · cases h
  · extract_lets c' at h
    split at h
    · cases h
    · rw [← Launch.runs.inj h]
      cases fresh
      · obtain ⟨hk, hs⟩ := s.resumed_kind c
        exact ⟨hk, (Cycle.stepFits_congr hk hs).trans (hfit rfl)⟩
      · exact s.started_fits c

/-- The free engine's highest instance: in hand, it may run, and without it the law of the places holds. -/
theorem State.takeHighest_lawful {fresh : Bool} {c : Cycle} {t : State} (h : s.cycles.Lawful)
    (hfree : s.cycles.running = none) (ht : s.takeHighest = some (fresh, c, t)) :
    t.cycles.MayRun c.kind ∧ t.cycles.Lawful ∧ t.cycles.running = none ∧ (fresh = false → c.stepFits = true) := by
  have hqueue : ∀ {rest}, s.cycles.queue = c :: rest → rest.Sublist s.cycles.queue := fun hq =>
    hq ▸ List.sublist_cons_self _ _
  unfold State.takeHighest at ht
  split at ht
  · cases ht
  · next hq _ =>
    cases ht
    exact ⟨h.mayRun_queued hfree hq, h.shrinkQueue (hqueue hq), hfree, fun e => nomatch e⟩
  · next _ hs =>
    cases ht
    exact ⟨h.mayRun_suspended hfree hs, h.clearSuspended, hfree, fun _ => h.resumes _ hs⟩
  · next hq hs =>
    split at ht
    · cases ht
      exact ⟨h.mayRun_suspended hfree hs, h.clearSuspended, hfree, fun _ => h.resumes _ hs⟩
    · cases ht
      exact ⟨h.mayRun_queued hfree hq, h.shrinkQueue (hqueue hq), hfree, fun e => nomatch e⟩

theorem State.pickLoop_lawful (n : Nat) (h : s.cycles.Lawful) (hfree : s.cycles.running = none) :
    (s.pickLoop n).cycles.Lawful := by
  induction n generalizing s with
  | zero => exact h
  | succ n ih =>
    unfold State.pickLoop
    split
    · exact h
    · next fresh c t ht =>
      obtain ⟨hmay, hlawful, htfree, hfit⟩ := s.takeHighest_lawful h hfree ht
      unfold State.startPicked
      split
      · next d o hl =>
        exact ih _ (t.ended_cyclesTo d false o [] hlawful) ((t.ended_places d false o []).2.1.trans htfree)
      · next d hl =>
        obtain ⟨hk, hd⟩ := t.launch_runs hl hfit
        exact t.run_lawful fresh d (hk ▸ hmay) hd

theorem State.pick_cyclesTo : s.CyclesTo s.pick := by
  intro h
  unfold State.pick
  split
  · exact h
  · next hfree => exact s.pickLoop_lawful _ h (by simpa using hfree)

theorem State.endRunning_cyclesTo (c : Cycle) (o : CycleOutcome) (result : List (Option Curve)) :
    s.CyclesTo (s.endRunning c o result) := fun h =>
  State.pick_cyclesTo _ (State.ended_cyclesTo _ c true o result h.clearRunning)

/-! ### Preemption and holds -/

/-- R126: a running instance is set aside. -/
theorem CycleEngine.Lawful.setAside {e : CycleEngine} {c : Cycle} (h : e.Lawful) (hc : e.running = some c)
    (hsuspendable : suspendable c.kind = true) (hs : e.suspended = none) :
    ({ e with running := none, suspended := some c.setAside } : CycleEngine).Lawful := by
  obtain ⟨h1, h2, -, h4, -⟩ := h
  refine ⟨?_, h2, fun x hx => ?_, fun x hx => (nomatch hx), fun x hx => ?_⟩
  · rw [CycleEngine.kinds, hc, hs] at h1
    simpa [CycleEngine.kinds, Cycle.setAside] using h1
  · rw [← Option.some.inj hx]
    exact (suspendable_iff _).1 hsuspendable
  · rw [← Option.some.inj hx]
    exact Cycle.setAside_fits (h4 c hc)

theorem State.preempt_cyclesTo (k : CycleKind) : s.CyclesTo (s.preempt k) := by
  intro h
  unfold State.preempt
  split
  · exact h
  · next c hc =>
    split
    · next hmay =>
      simp only [Bool.and_eq_true, Option.isNone_iff_eq_none] at hmay
      obtain ⟨⟨-, hsuspendable⟩, hs⟩ := hmay
      split
      · exact State.pick_cyclesTo _ (h.setAside hc hsuspendable hs)
      · exact s.endRunning_cyclesTo _ _ _ h
    · exact h

theorem State.preemptTest_cyclesTo : s.CyclesTo s.preemptTest := by
  unfold State.preemptTest
  split
  · exact .refl s
  · exact s.preempt_cyclesTo _

theorem State.heldTest_cyclesTo : s.CyclesTo s.heldTest := by
  unfold State.heldTest
  split
  · exact .refl s
  · split
    · exact s.endRunning_cyclesTo _ _ _
    · exact .refl s

theorem State.requestCycle_cyclesTo (k : CycleKind) : s.CyclesTo (s.requestCycle k).1 := by
  intro h
  unfold State.requestCycle
  split
  · exact h
  · split
    · exact h
    · next hnew =>
      have hqueued := h.enqueue k fun hmem => hnew ((s.cycles.has_iff k).2 hmem)
      extract_lets _ t u
      have ht : t.cycles.Lawful := hqueued
      show u.cycles.Lawful
      unfold u
      split
      · exact State.heldTest_cyclesTo _ (t.preempt_cyclesTo k ht)
      · exact t.pick_cyclesTo ht

/-! ### Samples, reports and timers -/

theorem State.cycleCoilTemp_cyclesTo (v : Int) : s.CyclesTo (s.cycleCoilTemp v) := by
  unfold State.cycleCoilTemp
  split
  · exact .refl s
  · split
    · exact s.endRunning_cyclesTo _ _ _
    · exact .refl s

theorem Cycle.measure_fits {c d : Cycle} {k j : Nat} (hc : c.step = .measure k ∨ c.step = .settle k) (hk : d.kind = c.kind)
    (hd : d.step = .measure j ∨ d.step = .settle j) (h : c.stepFits = true) : d.stepFits = true := by
  unfold Cycle.stepFits at h ⊢
  rw [hk]
  obtain hc | hc := hc <;> obtain hd | hd := hd <;> rw [hc] at h <;> rw [hd] <;> cases hkind : c.kind <;> simp_all

theorem State.beginMeasure_cyclesTo {c : Cycle} {k j : Nat} (f : ProfileData → ProfileData) (hc : s.cycles.running = some c)
    (hs : c.step = .measure k ∨ c.step = .settle k) : s.CyclesTo (s.beginMeasure c j f) :=
  s.beginStep_cyclesTo hc rfl (Cycle.measure_fits hs rfl (.inl rfl))

theorem State.dpSample_cyclesTo (st : Stage) (v : Nat) : s.CyclesTo (s.dpSample st v) := by
  unfold State.dpSample
  split
  · exact .refl s
  · next c hc =>
    split
    · next k hstep =>
      split
      · exact .refl s
      · split
        · split
          · exact s.beginMeasure_cyclesTo _ hc (.inl hstep)
          · exact .refl s
        · exact s.setRunning_cyclesTo hc rfl fun h => h
    all_goals exact .refl s

theorem State.pumpFlow_cyclesTo (v : Nat) : s.CyclesTo (s.pumpFlow v) := by
  unfold State.pumpFlow
  split
  · exact .refl s
  · next c hc =>
    split
    · next hprime =>
      refine s.beginStep_cyclesTo hc rfl fun h => ?_
      unfold Cycle.stepFits at h ⊢
      rw [hprime.1] at h
      cases hk : c.kind <;> simp_all
    · exact .refl s

theorem State.holdRegen_cyclesTo {c : Cycle} (hc : s.cycles.running = some c) : s.CyclesTo (s.holdRegen c) := fun h =>
  State.heldTest_cyclesTo _ (s.setRunning_cyclesTo (d := { c with held := true, active := false }) hc rfl (fun k => k) h)

theorem State.takeTankReport_cyclesTo (r : TankReport) : s.CyclesTo (s.takeTankReport r) := by
  unfold State.takeTankReport
  extract_lets _ t
  have ht : s.CyclesTo t := .of_places rfl rfl rfl
  split
  · exact ht
  · next c hc =>
    split
    · refine ht.trans ?_
      unfold State.reportToPump
      split
      · exact State.endRunning_cyclesTo _ _ _ _
      · split
        · exact State.endRunning_cyclesTo _ _ _ _
        · exact .refl t
    · refine ht.trans ?_
      unfold State.reportToRegen
      split
      · exact t.holdRegen_cyclesTo hc
      · split
        · exact t.setRunning_cyclesTo (d := { c with held := false, active := true }) hc rfl fun h => h
        · exact .refl t
    · exact ht
    · exact ht

theorem State.measureOver_cyclesTo {c : Cycle} {k : Nat} (hc : s.cycles.running = some c) (hs : c.step = .measure k) :
    s.CyclesTo (s.measureOver c k) := by
  unfold State.measureOver
  split
  · exact s.endRunning_cyclesTo _ _ _
  · extract_lets d
    split
    · exact s.endRunning_cyclesTo _ _ _
    · exact s.beginStep_cyclesTo hc rfl (Cycle.measure_fits (.inl hs) rfl (.inr rfl))

theorem State.settleOver_cyclesTo {c : Cycle} {k : Nat} (hc : s.cycles.running = some c) (hs : c.step = .settle k) :
    s.CyclesTo (s.settleOver c k) := by
  unfold State.settleOver
  split
  · exact s.beginMeasure_cyclesTo _ hc (.inr hs)
  · exact s.setRunning_cyclesTo hc rfl (Cycle.measure_fits (.inr hs) rfl (.inl rfl))

theorem State.stepOver_cyclesTo {c : Cycle} (hc : s.cycles.running = some c) : s.CyclesTo (s.stepOver c) := by
  unfold State.stepOver
  split
  · exact s.endRunning_cyclesTo _ _ _
  · next hs =>
    refine s.beginStep_cyclesTo hc rfl fun h => ?_
    unfold Cycle.stepFits at h ⊢
    rw [hs] at h
    cases hk : c.kind <;> simp_all
  · exact s.endRunning_cyclesTo _ _ _
  · next hs => exact s.settleOver_cyclesTo hc hs
  · next hs => exact s.measureOver_cyclesTo hc hs
  all_goals exact .refl s

theorem State.cycleOver_cyclesTo (c : Cycle) : s.CyclesTo (s.cycleOver c) := by
  unfold State.cycleOver
  split
  · exact s.endRunning_cyclesTo _ _ _
  · exact s.endRunning_cyclesTo _ _ _
  · exact s.endRunning_cyclesTo _ _ _
  all_goals exact .refl s

/-! ### Aborts -/

theorem State.abortRunning_cyclesTo (hit : CycleKind → Bool) (r : AbortReason) : s.CyclesTo (s.abortRunning hit r) := by
  intro h
  unfold State.abortRunning
  split
  · exact h
  · split
    · exact State.ended_cyclesTo _ _ _ _ _ h.clearRunning
    · exact h

theorem State.abortSuspended_cyclesTo (hit : CycleKind → Bool) (r : AbortReason) : s.CyclesTo (s.abortSuspended hit r) := by
  intro h
  unfold State.abortSuspended
  split
  · exact h
  · split
    · exact State.ended_cyclesTo _ _ _ _ _ h.clearSuspended
    · exact h

theorem State.cancel_cyclesTo (cs : List Cycle) : s.CyclesTo (cs.foldl (fun t c => t.ended c false .cancelled []) s) := by
  induction cs generalizing s with
  | nil => exact .refl s
  | cons c cs ih => exact (s.ended_cyclesTo c false .cancelled []).trans (ih _)

theorem State.cancelQueued_cyclesTo (hit : CycleKind → Bool) : s.CyclesTo (s.cancelQueued hit) := fun h =>
  State.cancel_cyclesTo _ _ (h.shrinkQueue List.filter_sublist)

theorem State.afterAborts_cyclesTo (before : Option Cycle) : s.CyclesTo (s.afterAborts before) := by
  unfold State.afterAborts
  split
  · exact s.pick_cyclesTo
  · split
    · exact s.preemptTest_cyclesTo
    · exact .refl s

theorem State.abortKinds_cyclesTo (hit : CycleKind → Bool) (r : AbortReason) : s.CyclesTo (s.abortKinds hit r) :=
  (((s.abortRunning_cyclesTo hit r).trans (State.abortSuspended_cyclesTo _ hit r)).trans
    (State.cancelQueued_cyclesTo _ hit)).trans (State.afterAborts_cyclesTo _ _)

theorem State.cycleDoor_cyclesTo (b : Bool) : s.CyclesTo (s.cycleDoor b) := by
  unfold State.cycleDoor
  extract_lets _ t
  have ht : s.CyclesTo t := .of_places rfl rfl rfl
  split
  · exact ht.trans (t.abortKinds_cyclesTo _ _)
  · exact ht

theorem State.cycleLevel_cyclesTo (l : RunLevel) : s.CyclesTo (s.cycleLevel l) := by
  unfold State.cycleLevel
  split
  · exact .refl s
  · extract_lets _ t
    have ht : s.CyclesTo t := .of_places rfl rfl rfl
    split
    · exact ht.trans (t.abortKinds_cyclesTo _ _)
    · exact ht.trans (t.abortKinds_cyclesTo _ _)
    all_goals exact ht

theorem State.abortCycle_cyclesTo (k : CycleKind) : s.CyclesTo (s.abortCycle k).1 := by
  unfold State.abortCycle
  split
  · exact s.abortKinds_cyclesTo _ _
  · exact .refl s

/-! ### Every command -/

theorem State.CyclesTo.of_taking {c : Instr} {s t : State} {f : State → State} (h : taking c s f = .next t)
    (hf : ∀ u : State, u.CyclesTo (f u)) : s.CyclesTo t := by
  unfold taking at h
  split at h
  · cases h
    exact .refl s
  · cases h
    exact hf (s.took c)

theorem State.CyclesTo.of_lineChange {c : Instr} {s t : State} {x : Lines} {f : State → State}
    (h : taking c (s.setLines x) f = .next t) (hf : ∀ u : State, u.CyclesTo (f u)) : s.CyclesTo t :=
  State.CyclesTo.of_taking (s := s.setLines x) h hf

theorem State.CyclesTo.of_requestRow {c : Instr} {s t : State} {code : Nat} {ok : Request → Bool}
    {run : Request → State → State × Answer} (h : requestRow c code ok run s = .next t)
    (hrun : ∀ (r : Request) (u : State), u.CyclesTo (run r u).1) : s.CyclesTo t := by
  obtain hw | ⟨r, rest, -, -, -, -, rfl⟩ := requestRow_cases s h
  · exact .of_eq (hw.same .cycles (by simp))
  · exact hrun r ((s.took c).reserve rest)

/-- No command but a reset can put the cycles out of order. -/
theorem exec_cyclesTo {c : Instr} {t : State} (h : exec c s = .next t) (hc : resets c = false) : s.CyclesTo t := by
  cases c with
  | doorLineChange isOpen =>
    rw [exec, execDoorLineChange] at h
    split at h
    · cases h
      exact .of_eq rfl
    · refine .of_lineChange h fun u => ?_
      have hlock : ((u.interlockDoor isOpen).allocDoor isOpen).cycles = u.cycles :=
        (u.setInhibit_within .door isOpen).same .cycles (by simp)
      exact ((State.CyclesTo.of_eq hlock).trans (State.cycleDoor_cyclesTo _ isOpen)).trans
        (.of_eq ((State.filterDoor_within _ isOpen).same .cycles (by simp)))
  | cycleRequest k =>
    rw [exec, execCycleRequest] at h
    exact .of_taking h fun u => u.requestCycle_cyclesTo k
  | cycleCoilTemp x =>
    rw [exec, execCycleCoilTemp] at h
    refine .of_taking h fun u => ?_
    split
    · exact .refl u
    · exact u.cycleCoilTemp_cyclesTo _
  | dpSample st x =>
    rw [exec, execDpSample] at h
    refine .of_taking h fun u => ?_
    split
    · exact .refl u
    · exact u.dpSample_cyclesTo st _
  | pumpFlow x =>
    rw [exec, execPumpFlow] at h
    refine .of_taking h fun u => ?_
    split
    · exact .refl u
    · exact u.pumpFlow_cyclesTo _
  | tankReport r => exact .of_taking h fun u => u.takeTankReport_cyclesTo r
  | cycleOutputChanged o v =>
    rw [exec, execCycleOutputChanged] at h
    refine .of_taking h fun u => ?_
    split
    · exact .refl u
    · next c hrun =>
      split
      · exact u.setRunning_cyclesTo hrun rfl fun h => h
      · exact .refl u
  | airflowLost =>
    rw [exec, execAirflowLost] at h
    refine .of_taking h fun u => ?_
    split
    · exact .refl u
    · split
      · exact .refl u
      · exact u.endRunning_cyclesTo _ _ _
  | cycleRunLevelChange l => exact .of_taking h fun u => u.cycleLevel_cyclesTo l
  | stepTimerExpiry =>
    rw [exec, execStepTimerExpiry] at h
    refine .of_taking h fun u => ?_
    split
    · exact .refl u
    · next hrun =>
      split
      · exact u.stepOver_cyclesTo hrun
      · exact .refl u
  | cycleTimerExpiry =>
    rw [exec, execCycleTimerExpiry] at h
    refine .of_taking h fun u => ?_
    split
    · exact .refl u
    · split
      · exact u.cycleOver_cyclesTo _
      · exact .refl u
  | requestCycle => exact .of_requestRow h fun r u => u.requestCycle_cyclesTo _
  | abortCycle => exact .of_requestRow h fun r u => u.abortCycle_cyclesTo _
  | _ => exact .of_eq (exec_agrees s h hc .cycles (by simp))

/-! ### Every step -/

theorem CycleEngine.lawful_of_empty {e : CycleEngine} (hq : e.queue = []) (hr : e.running = none)
    (hs : e.suspended = none) : e.Lawful := by
  refine ⟨?_, ?_, ?_, ?_, ?_⟩ <;> simp [CycleEngine.kinds, hq, hr, hs]

theorem State.tick_cyclesTo : s.CyclesTo s.tick := by
  rcases Nat.lt_or_ge s.subTick 19 with h | h
  · rw [s.tick_of_lt h]
    exact .of_eq rfl
  · rw [s.tick_of_le h]
    intro hlawful
    show ({ s.cycles with running := s.cycles.running.map Cycle.tick } : CycleEngine).Lawful
    cases hrun : s.cycles.running with
    | none => exact hlawful.clearRunning
    | some c => exact hlawful.of_running hrun rfl (hlawful.running c hrun)

/-- Settles O59: the events of the Cycle Engine keep its places in order, and a reset empties them. -/
theorem stepKeepsCyclesInOrder : Obligations.StepKeepsCyclesInOrder := by
  intro s t h hs
  rw [State.cycleLaw_iff] at h ⊢
  refine step_keeps (P := fun s => s.cycles.Lawful) (fun c s t h he => ?_) (fun s h => s.tick_cyclesTo h)
    (fun _ _ h => h) h hs
  cases hc : resets c
  · exact exec_cyclesTo s he hc h
  · exact reset_keeps (P := fun s => s.cycles.Lawful) (fun _ _ _ => CycleEngine.lawful_of_empty rfl rfl rfl)
      (fun _ _ h => h) (fun _ h => h) (fun s a b _ => CycleEngine.lawful_of_empty rfl rfl rfl) h hc he

end Sys2Proof.Machine
end

section
/-! The accumulators and the zones sound through every step (R31, R33, R36, R49, §2.8, §3.1). -/

namespace Sys2Proof.Machine
open State

variable (s : State)

/-! ### Lists -/

theorem mem_modifyAt {α : Type} {f : α → α} {l : List α} {n : Nat} {x : α} (h : x ∈ modifyAt f l n) :
    x ∈ l ∨ ∃ y, l[n]? = some y ∧ x = f y := by
  obtain ⟨i, hi⟩ := List.mem_iff_getElem?.1 h
  rw [getElem?_modifyAt] at hi
  split at hi
  · next hn =>
    subst hn
    obtain ⟨y, hy, rfl⟩ := Option.map_eq_some_iff.1 hi
    exact .inr ⟨y, hy, rfl⟩
  · exact .inl (List.mem_of_getElem? hi)

/-! ### Accumulators -/

/-- R31, R33, R36: one accumulator. -/
def Acc.Sound (a : Acc) : Prop := a.sum ≤ 65535 ∧ (a.held = none → a.sum = 0 ∧ a.saturated = false)

/-- §2.8: the accumulators of a translator. -/
def Translator.Sound (x : Translator) : Prop := x.accs.length = 4 ∧ ∀ a ∈ x.accs, a.Sound

theorem Acc.closed_sound : Acc.closed.Sound := ⟨Nat.zero_le _, fun _ => ⟨rfl, rfl⟩⟩

theorem Acc.openOn_sound (d : AccDef) (g : Gate) {a : Acc} (h : a.Sound) : (a.openOn d g).Sound := by
  unfold Acc.openOn
  split
  · exact ⟨Nat.zero_le _, fun e => nomatch e⟩
  · exact h

theorem Acc.closeOn_sound (g : Gate) {a : Acc} (h : a.Sound) : (a.closeOn g).Sound := by
  unfold Acc.closeOn
  split
  · exact h
  · split
    · exact Acc.closed_sound
    · exact h

theorem Acc.add_sound (v : Nat) {a : Acc} (h : a.held.isSome = true) : (a.add v).Sound := by
  unfold Acc.add
  split
  · next hle => exact ⟨hle, fun e => by rw [show a.held = none from e] at h; cases h⟩
  · exact ⟨Nat.le_refl _, fun e => by rw [show a.held = none from e] at h; cases h⟩

theorem State.acc_eq {s : State} {k : Nat} {a : Acc} (h : s.trans.accs[k]? = some a) : s.acc k = a := by
  rw [State.acc, List.getD_eq_getElem?_getD, h]
  rfl

/-- What an event keeps of the law of the accumulators. -/
def State.TransTo (s t : State) : Prop := s.trans.Sound → t.trans.Sound

theorem State.TransTo.of_accs {s t : State} (h : t.trans.accs = s.trans.accs) : s.TransTo t := fun k => by
  rw [Translator.Sound, h]
  exact k

theorem State.TransTo.refl (s : State) : s.TransTo s := id

theorem State.setGate_transTo (g : Gate) (b : Bool) : s.TransTo (s.setGate g b) := by
  intro h
  obtain ⟨hlen, hall⟩ := h
  unfold State.setGate
  split
  · exact ⟨hlen, hall⟩
  · split
    · refine ⟨by simpa using hlen, fun a ha => ?_⟩
      obtain ⟨⟨x, i⟩, hx, rfl⟩ := List.mem_map.1 ha
      exact Acc.openOn_sound _ _ (hall x (List.fst_mem_of_mem_zipIdx hx))
    · refine ⟨by simpa using hlen, fun a ha => ?_⟩
      obtain ⟨x, hx, rfl⟩ := List.mem_map.1 ha
      exact Acc.closeOn_sound _ (hall x hx)

/-- An OPEN accumulator changed. -/
theorem State.modifyAcc_sound {f : Acc → Acc} (k : Nat) (hopen : (s.acc k).held.isSome = true)
    (hf : ∀ a, a.held.isSome = true → (f a).Sound) (h : s.trans.Sound) :
    ({ s.trans with accs := modifyAt f s.trans.accs k } : Translator).Sound := by
  obtain ⟨hlen, hall⟩ := h
  refine ⟨by simpa using hlen, fun a ha => ?_⟩
  obtain ha | ⟨y, hy, rfl⟩ := mem_modifyAt ha
  · exact hall a ha
  · exact hf y (State.acc_eq hy ▸ hopen)

theorem State.takeFlow_transTo (k scale : Nat) (raw : Word) : s.TransTo (s.takeFlow k scale raw) := by
  unfold State.takeFlow State.accumulate
  split
  · exact .refl s
  · split
    · next hopen => exact s.modifyAcc_sound k hopen fun a => Acc.add_sound _
    · split <;> exact .refl s

theorem State.voidAcc_transTo (k : Nat) : s.TransTo (s.voidAcc k) := by
  unfold State.voidAcc
  split
  · next hopen =>
    exact s.modifyAcc_sound k hopen fun a ha =>
      ⟨Nat.zero_le _, fun e => by rw [show a.held = none from e] at ha; cases ha⟩
  · exact .refl s

theorem Pairs.act_transTo (src : Nat) (zone : Option Nat) (a : Action) (raw : Word) (p : Pairs) :
    p.s.TransTo (p.act src zone a raw).s := by
  cases a with
  | ignore => exact .refl p.s
  | store t scale wake => exact .refl p.s
  | accumulate k scale => exact p.s.takeFlow_transTo k scale raw
  | special code =>
    cases code with
    | pageNext => exact .of_accs rfl
    | void k => exact p.s.voidAcc_transTo k
    | _ => exact .refl p.s

theorem Pairs.take_transTo (src : Nat) (e : NodeEntry) (p : Pairs) (x : Word × Word) :
    p.s.TransTo (p.take src e x).s := by
  unfold Pairs.take
  extract_lets page s
  have hs : p.s.TransTo s := .of_accs rfl
  split
  · exact hs
  · exact fun h => Pairs.act_transTo src e.sourceZone _ x.2 { s := s, boost := _, absorbed := _ } (hs h)

theorem Pairs.foldl_transTo (src : Nat) (e : NodeEntry) (xs : List (Word × Word)) (p : Pairs) :
    p.s.TransTo (xs.foldl (Pairs.take src e) p).s := by
  induction xs generalizing p with
  | nil => exact .refl p.s
  | cons x xs ih => exact fun h => ih _ (p.take_transTo src e x h)

theorem State.translate_transTo (f : Frame) : s.TransTo (s.translate f).1 := by
  unfold State.translate
  extract_lets e
  split
  · exact .refl s
  · exact Pairs.foldl_transTo f.src e _ { s := s, boost := _, absorbed := true }

/-- R4: a routed frame reaches the translator only as a SAMPLE. -/
theorem State.route_trans (f : Frame) (ws : List Word) : (s.route f ws).trans = s.trans ∨
    (s.route f ws).trans = (s.translate f).1.trans := by
  have hforward : ∀ u : State, (u.forward ws).trans = u.trans := fun u => (u.forward_within ws).same .trans (by simp)
  unfold State.route
  extract_lets len
  split
  · exact .inl rfl
  · split
    · split
      · exact .inl ((s.pollReturned_within f).same .trans (by simp))
      · exact .inl rfl
    · split
      · split
        · exact .inl ((s.consume_within f).same .trans (by simp))
        · exact .inl rfl
      · split
        · unfold State.broadcastSample
          split
          · extract_lets r
            split
            · exact .inr rfl
            · exact .inr (hforward _)
          · exact .inl (hforward s)
        · split
          · exact .inl (hforward s)
          · exact .inl (hforward s)

theorem State.runEnds_transTo (ws : List Word) : s.TransTo (s.runEnds ws) := by
  unfold State.runEnds State.receive
  split
  · exact .refl s
  · split
    · exact .refl s
    · split
      · exact .refl s
      · intro h
        obtain ht | ht := s.route_trans (parseFrame ws) ws <;> rw [ht]
        · exact h
        · exact s.translate_transTo _ h

theorem State.setDefrost_transTo (b : Bool) : s.TransTo (s.setDefrost b) := by
  unfold State.setDefrost
  split <;> exact .refl s

theorem State.setNight_transTo (b : Bool) : s.TransTo (s.setNight b) := by
  unfold State.setNight
  split <;> exact .refl s

theorem State.TransTo.of_taking {c : Instr} {s t : State} {f : State → State} (h : taking c s f = .next t)
    (hf : ∀ u : State, u.TransTo (f u)) : s.TransTo t := by
  unfold taking at h
  split at h
  · cases h
    exact .refl s
  · cases h
    exact hf (s.took c)

theorem exec_transTo {c : Instr} {t : State} (h : exec c s = .next t) (hc : resets c = false) : s.TransTo t := by
  cases c with
  | rxFrame ws =>
    rw [exec, execRxFrame] at h
    split at h
    · cases h
      exact .refl s
    · exact .of_taking h fun u => u.runEnds_transTo ws
  | defrostRegimeSet => exact .of_taking h fun u => u.setDefrost_transTo true
  | defrostRegimeClear => exact .of_taking h fun u => u.setDefrost_transTo false
  | translatorOutputChanged o v => exact .of_taking h fun u => u.setGate_transTo _ _
  | regenActive => exact .of_taking h fun u => u.setGate_transTo _ _
  | regenInactive => exact .of_taking h fun u => u.setGate_transTo _ _
  | setRegime =>
    obtain hw | ⟨r, rest, -, -, -, -, rfl⟩ := requestRow_cases s h
    · exact .of_accs (congrArg Translator.accs (hw.same .trans (by simp)))
    · exact State.setNight_transTo ((s.took .setRegime).reserve rest) _
  | _ => exact .of_accs (congrArg Translator.accs (exec_agrees s h hc .trans (by simp)))

/-! ### Zones -/

/-- §3.1, R49: one zone. -/
def Zone.Sound (z : Zone) : Prop := (z.state = .absent → z = .absentZone) ∧ (z.state ≠ .live →
  z.clean = 0 ∧ z.dry = 0 ∧ z.cleanMark = false ∧ z.dryMark = false)

/-- §3.1: the Zone Table. -/
def ZoneTableSound (zs : List Zone) : Prop := zs.length = 8 ∧ ∀ z ∈ zs, z.Sound

theorem Zone.fresh_sound (st : ZoneState) (head : Option Nat) (h : st = .absent → head = none) : (Zone.fresh st head).Sound :=
  ⟨fun e => by
    have he : st = .absent := e
    rw [he, h he]
    rfl, fun _ => ⟨rfl, rfl, rfl, rfl⟩⟩

/-- A zone that is LIVE, or that keeps 0 demands and is not ABSENT. -/
theorem State.recomputed_sound (i : Nat) {z : Zone} (habsent : z.state ≠ .absent)
    (h : z.state ≠ .live → z.clean = 0 ∧ z.dry = 0 ∧ z.cleanMark = false ∧ z.dryMark = false) :
    (s.recomputed i z).Sound := by
  unfold State.recomputed
  split
  · next hlive =>
    refine ⟨fun e => ?_, fun e => absurd hlive e⟩
    rw [show z.state = .absent from e] at hlive
    cases hlive
  · exact ⟨fun e => absurd e habsent, h⟩

theorem State.recomputed_of_absent (i : Nat) {z : Zone} (h : z.state = .absent) : s.recomputed i z = z := by
  rw [State.recomputed, h, if_neg (by simp)]

/-- R49: a sound zone stays sound as it is recomputed. -/
theorem State.recomputed_keeps (i : Nat) {z : Zone} (h : z.Sound) : (s.recomputed i z).Sound := by
  by_cases habsent : z.state = .absent
  · rw [s.recomputed_of_absent i habsent]
    exact h
  · exact s.recomputed_sound i habsent h.2

/-- What an event keeps of the law of the zones. -/
def State.ZonesTo (s t : State) : Prop := ZoneTableSound s.zones → ZoneTableSound t.zones

theorem State.ZonesTo.refl (s : State) : s.ZonesTo s := id

theorem State.ZonesTo.of_eq {s t : State} (h : t.zones = s.zones) : s.ZonesTo t := fun k => h ▸ k

/-- R42, R43, R51–R54: a change of a zone that is not ABSENT. -/
theorem State.updateZone_zonesTo (i : Nat) {f : Zone → Zone} (hf : ∀ z, z.state ≠ .absent → (f z).state ≠ .absent)
    (hdemands : ∀ z, (f z).state ≠ .live → z.state ≠ .live ∧ (f z).clean = z.clean ∧ (f z).dry = z.dry ∧
      (f z).cleanMark = z.cleanMark ∧ (f z).dryMark = z.dryMark) : s.ZonesTo (s.updateZone i f) := by
  intro h
  obtain ⟨hlen, hall⟩ := h
  refine ⟨by simpa [State.updateZone] using hlen, fun z hz => ?_⟩
  obtain hz | ⟨y, hy, rfl⟩ := mem_modifyAt hz
  · exact hall z hz
  · have hsound := hall y (List.mem_of_getElem? hy)
    split
    · exact hsound
    · next habsent =>
      refine s.recomputed_sound i (hf y habsent) fun hlive => ?_
      obtain ⟨hnot, hc, hd, hcm, hdm⟩ := hdemands y hlive
      rw [hc, hd, hcm, hdm]
      exact hsound.2 hnot

/-- R51, R53, R54: a change of the holds only. -/
theorem State.updateHolds_zonesTo (i : Nat) (b w : Zone → Option Nat) :
    s.ZonesTo (s.updateZone i fun z => { z with boost := b z, window := w z }) :=
  s.updateZone_zonesTo i (fun _ h => h) fun _ h => ⟨h, rfl, rfl, rfl, rfl⟩

theorem State.heard_zonesTo (i : Nat) (f : ZoneField) (x : Zone → Reading) :
    s.ZonesTo (s.updateZone i fun z => z.heard f (x z)) := by
  refine s.updateZone_zonesTo i (fun z h => ?_) fun z h => ?_
  · unfold Zone.heard
    show (if z.state = .waiting ∨ z.state = .stale then ZoneState.live else z.state) ≠ .absent
    split
    · simp
    · exact h
  · have h : (if z.state = .waiting ∨ z.state = .stale then ZoneState.live else z.state) ≠ .live := h
    split at h
    · exact absurd rfl h
    · exact ⟨h, rfl, rfl, rfl, rfl⟩

/-- R44: a sweep close. -/
theorem Zone.closeSweep_sound (n limit : Nat) {z : Zone} (h : z.Sound) : (z.closeSweep n limit).Sound := by
  unfold Zone.closeSweep
  split
  · exact h
  · next habsent =>
    split
    · exact ⟨fun e => absurd e habsent, h.2⟩
    · extract_lets missed
      split
      · exact ⟨fun e => (nomatch e), fun _ => ⟨rfl, rfl, rfl, rfl⟩⟩
      · exact ⟨fun e => absurd e habsent, h.2⟩

theorem State.swapZone_sound (i : Nat) {z : Zone} (h : z.Sound) : (s.swapZone i z).Sound := by
  unfold State.swapZone
  split
  · exact Zone.fresh_sound _ _ fun _ => rfl
  · split
    · exact s.recomputed_keeps i h
    · exact Zone.fresh_sound _ _ fun e => nomatch e

/-- Every zone changed in its place. -/
theorem zonesSound_map {zs : List Zone} (h : ZoneTableSound zs) {g : Nat → Zone → Zone} (hg : ∀ i z, z.Sound → (g i z).Sound) :
    ZoneTableSound (zs.zipIdx.map fun x => g x.2 x.1) := by
  obtain ⟨hlen, hall⟩ := h
  refine ⟨by simpa using hlen, fun z hz => ?_⟩
  obtain ⟨⟨y, i⟩, hy, rfl⟩ := List.mem_map.1 hz
  exact hg i y (hall y (List.fst_mem_of_mem_zipIdx hy))

theorem Zone.tick_sound {z : Zone} (h : z.Sound) : z.tick.Sound := by
  refine ⟨fun e => ?_, h.2⟩
  rw [h.1 e]
  rfl

theorem State.ZonesTo.of_taking {c : Instr} {s t : State} {f : State → State} (h : taking c s f = .next t)
    (hf : ∀ u : State, u.ZonesTo (f u)) : s.ZonesTo t := by
  unfold taking at h
  split at h
  · cases h
    exact .refl s
  · cases h
    exact hf (s.took c)

theorem State.endWindow_zonesTo (z : Nat) : s.ZonesTo (s.endWindow z) := by
  unfold State.endWindow
  split
  · exact s.updateHolds_zonesTo z (fun z => z.boost) fun _ => none
  · exact .refl s

theorem State.endBoost_zonesTo (z : Nat) : s.ZonesTo (s.endBoost z) := by
  unfold State.endBoost
  split
  · exact s.updateHolds_zonesTo z (fun _ => none) fun z => z.window
  · exact .refl s

theorem exec_zonesTo {c : Instr} {t : State} (h : exec c s = .next t) (hc : resets c = false) : s.ZonesTo t := by
  cases c with
  | zoneStore z f v q => exact .of_taking h fun u => u.heard_zonesTo z.val f fun _ => _
  | zoneFaultReport z f =>
    exact .of_taking h fun u => u.heard_zonesTo z.val f fun r => { value := (r.readings.get f).value, quality := .fault }
  | boostToggle z =>
    rw [exec, execBoostToggle] at h
    exact .of_taking h fun u => u.updateHolds_zonesTo z.val (fun z => if z.boost.isSome then none else some _) fun z => z.window
  | windowOpen z =>
    rw [exec, execWindowOpen] at h
    exact .of_taking h fun u => u.updateHolds_zonesTo z.val (fun z => z.boost) fun _ => some _
  | windowShut z => exact .of_taking h fun u => u.endWindow_zonesTo z.val
  | windowTimerExpiry z => exact .of_taking h fun u => u.endWindow_zonesTo z.val
  | boostTimerExpiry z => exact .of_taking h fun u => u.endBoost_zonesTo z.val
  | regimeChanged =>
    rw [exec, execRegimeChanged] at h
    exact .of_taking h fun u hu => zonesSound_map hu fun i z hz => u.recomputed_keeps i hz
  | sweepClose n complete =>
    rw [exec, execSweepClose] at h
    refine .of_taking h fun u hu => ⟨(List.length_map _).trans hu.1, fun z hz => ?_⟩
    obtain ⟨y, hy, rfl⟩ := List.mem_map.1 hz
    exact Zone.closeSweep_sound _ _ (hu.2 y hy)
  | zoneSwapTaken =>
    rw [exec, execZoneSwapTaken] at h
    exact .of_taking h fun u hu => zonesSound_map hu fun i z hz => u.swapZone_sound i hz
  | _ => exact .of_eq (exec_agrees s h hc .zones (by simp))

/-! ### Resets and time -/

theorem Translator.atReset_sound : Translator.atReset.Sound := by
  refine ⟨rfl, fun a ha => ?_⟩
  rw [(List.mem_replicate.1 ha).2]
  exact Acc.closed_sound

theorem zonesSound_atReset : ZoneTableSound (List.replicate 8 .absentZone) := by
  refine ⟨rfl, fun z hz => ?_⟩
  rw [(List.mem_replicate.1 hz).2]
  exact Zone.fresh_sound _ _ fun _ => rfl

theorem State.softZones_sound : ZoneTableSound s.softZones := by
  refine ⟨by simp [State.softZones], fun z hz => ?_⟩
  obtain ⟨i, -, rfl⟩ := List.mem_map.1 hz
  split
  · exact Zone.fresh_sound _ _ fun _ => rfl
  · exact Zone.fresh_sound _ _ fun e => nomatch e

theorem State.tick_zonesTo : s.ZonesTo s.tick := by
  rcases Nat.lt_or_ge s.subTick 19 with h | h
  · rw [s.tick_of_lt h]
    exact .of_eq rfl
  · rw [s.tick_of_le h]
    refine fun hu => ⟨(List.length_map _).trans hu.1, fun z hz => ?_⟩
    obtain ⟨y, hy, rfl⟩ := List.mem_map.1 hz
    exact Zone.tick_sound (hu.2 y hy)

theorem step_keeps_accumulators {s t : State} (h : s.AccumulatorsSound) (hs : step s = .next t) : t.AccumulatorsSound := by
  refine step_keeps (P := fun s => s.trans.Sound) (fun c s t h he => ?_) (fun s h => ?_) (fun _ _ h => h) h hs
  · cases hc : resets c
    · exact exec_transTo s he hc h
    · exact reset_keeps (P := fun s => s.trans.Sound) (fun _ _ _ => Translator.atReset_sound) (fun _ _ h => h)
        (fun _ h => h) (fun _ _ _ _ => Translator.atReset_sound) h hc he
  · rw [s.tick_within.same .trans (by simp)]
    exact h

theorem step_keeps_zones {s t : State} (h : s.ZonesSound) (hs : step s = .next t) : t.ZonesSound := by
  refine step_keeps (P := fun s => ZoneTableSound s.zones) (fun c s t h he => ?_) (fun s h => s.tick_zonesTo h)
    (fun _ _ h => h) h hs
  cases hc : resets c
  · exact exec_zonesTo s he hc h
  · exact reset_keeps (P := fun s => ZoneTableSound s.zones) (fun _ _ _ => zonesSound_atReset) (fun _ _ h => h)
      (fun _ h => h) (fun s _ _ _ => s.softZones_sound) h hc he

end Sys2Proof.Machine
end

section
/-! The tank FULL while the float record is ASSERTED, and the estimates, charges, run sweeps and the derate in their ranges
(R102, R104, R114, R144, R146, R149). -/

namespace Sys2Proof.Machine
open State

variable (s : State)

/-! ### The float (R114) -/

/-- R114 as a property of the Tank Record. -/
def Water.FloatFull (w : Water) : Prop := w.float = true → w.state = .full

theorem Water.evaluate_of_float (p : TankPage) (w : Water) (h : w.float = true) : w.evaluate p = .full := by
  unfold Water.evaluate
  extract_lets margin
  split <;> simp [h]

theorem Water.evaluated_floatFull (p : TankPage) (w : Water) : ({ w with state := w.evaluate p } : Water).FloatFull :=
  w.evaluate_of_float p

/-- What an event keeps of the law of the float. -/
def State.FloatTo (s t : State) : Prop := s.water.FloatFull → t.water.FloatFull

theorem State.FloatTo.refl (s : State) : s.FloatTo s := id

theorem State.FloatTo.of_eq {s t : State} (h : t.water = s.water) : s.FloatTo t := fun k => h ▸ k

theorem State.waterEvent_floatTo (probe : Option Nat) (f : Water → Water) : s.FloatTo (s.waterEvent probe f) := by
  obtain ⟨ps, r, h⟩ := s.waterEvent_eq probe f
  rw [h]
  exact fun _ => (f s.water).evaluated_floatFull s.tankPage

theorem State.takeTankLevel_floatTo (x : Option (Fin 16)) : s.FloatTo (s.takeTankLevel x) := by
  unfold State.takeTankLevel
  split
  · split
    · exact s.waterEvent_floatTo _ _
    · exact .refl s
  · split
    · exact s.waterEvent_floatTo _ _
    · exact .refl s

theorem State.takeFloat_floatTo (b : Bool) : s.FloatTo (s.takeFloat b) := by
  unfold State.takeFloat
  split
  · exact .refl s
  · exact s.waterEvent_floatTo _ _

theorem State.latchPumpFault_floatTo : s.FloatTo s.latchPumpFault := by
  unfold State.latchPumpFault
  split <;> exact .refl s

theorem State.takePumpOutcome_floatTo (o : CycleOutcome) : s.FloatTo (s.takePumpOutcome o) := by
  unfold State.takePumpOutcome
  split
  · exact s.latchPumpFault_floatTo
  all_goals first | exact .refl s | exact s.waterEvent_floatTo _ _

theorem State.clearPumpFault_floatTo : s.FloatTo s.clearPumpFault := by
  unfold State.clearPumpFault
  split <;> exact .refl s

/-- R120: the record a swap comes to is evaluated. -/
theorem State.waterSwap_water : s.waterSwap.water =
    { s.water.swapKind s.tankPage s.pageKind with
      fitted := s.pumpFitted
      state := ({ s.water.swapKind s.tankPage s.pageKind with fitted := s.pumpFitted } : Water).evaluate s.tankPage } := by
  unfold State.waterSwap
  extract_lets old _ t u
  have hu : u.water = t.water := by
    unfold u
    split <;> rfl
  have ht : t.water = { s.water.swapKind s.tankPage s.pageKind with
      fitted := s.pumpFitted
      state := ({ s.water.swapKind s.tankPage s.pageKind with fitted := s.pumpFitted } : Water).evaluate s.tankPage } :=
    State.evalTank_water _
  exact hu.trans ht

theorem State.waterSwap_floatTo : s.FloatTo s.waterSwap := by
  intro _
  rw [State.waterSwap_water]
  exact Water.evaluated_floatFull _ _

theorem State.FloatTo.of_taking {c : Instr} {s t : State} {f : State → State} (h : taking c s f = .next t)
    (hf : ∀ u : State, u.FloatTo (f u)) : s.FloatTo t := by
  unfold taking at h
  split at h
  · cases h
    exact .refl s
  · cases h
    exact hf (s.took c)

/-- An event of the Tank Record that the kind lets through, or a report. -/
theorem State.waterEventIf_floatTo (p : Prop) [Decidable p] (probe : Option Nat) (f : Water → Water) :
    s.FloatTo (if p then s.waterEvent probe f else s.reportOnly probe) := by
  split
  · exact s.waterEvent_floatTo probe f
  · exact .refl s

theorem exec_floatTo {c : Instr} {t : State} (h : exec c s = .next t) (hc : resets c = false) : s.FloatTo t := by
  cases c with
  | floatLineChange b =>
    rw [exec, execFloatLineChange] at h
    split at h
    · cases h
      exact .refl s
    · exact fun k => State.FloatTo.of_taking h (fun u => u.takeFloat_floatTo b) k
  | deposit v x =>
    rw [exec, execDeposit] at h
    exact .of_taking h fun u => u.waterEventIf_floatTo _ _ _
  | removal v x =>
    rw [exec, execRemoval] at h
    exact .of_taking h fun u => u.waterEventIf_floatTo _ _ _
  | uncertain =>
    rw [exec, execUncertain] at h
    refine .of_taking h fun u => ?_
    split
    · exact .refl u
    · exact u.waterEvent_floatTo _ _
  | tankLevel x => exact .of_taking h fun u => u.takeTankLevel_floatTo _
  | tankOut =>
    rw [exec, execTankOut] at h
    exact .of_taking h fun u => u.waterEventIf_floatTo _ _ _
  | tankIn =>
    rw [exec, execTankIn] at h
    exact .of_taking h fun u => u.waterEventIf_floatTo _ _ _
  | pumpOutOutcome o => exact .of_taking h fun u => u.takePumpOutcome_floatTo o
  | waterSwapTaken => exact .of_taking h State.waterSwap_floatTo
  | clearFault =>
    obtain hw | ⟨r, rest, -, -, -, -, rfl⟩ := requestRow_cases s h
    · exact .of_eq (hw.same .water (by simp))
    · unfold runClearFault
      split
      · exact .of_eq ((State.clearBlowerFault_within ((s.took .clearFault).reserve rest)).same .water (by simp))
      · exact State.clearPumpFault_floatTo ((s.took .clearFault).reserve rest)
  | _ => exact .of_eq (exec_agrees s h hc .water (by simp))

theorem Water.atReset_floatFull (b : Bool) : (Water.atReset b).FloatFull := fun h => if_pos h

theorem State.softWater_floatFull : s.softWater.FloatFull := by
  unfold State.softWater
  extract_lets _ w
  split
  · exact fun h => if_pos h
  · exact fun h => if_pos h

theorem step_keeps_float {s t : State} (h : s.FloatLaw) (hs : step s = .next t) : t.FloatLaw := by
  refine step_keeps (P := fun s => s.water.FloatFull) (fun c s t h he => ?_) (fun s h => ?_) (fun _ _ h => h) h hs
  · cases hc : resets c
    · exact exec_floatTo s he hc h
    · exact reset_keeps (P := fun s => s.water.FloatFull) (fun l _ _ => Water.atReset_floatFull l.float) (fun _ _ h => h)
        (fun _ h => h) (fun s _ _ _ => s.softWater_floatFull) h hc he
  · rw [s.tick_within.same .water (by simp)]
    exact h

/-! ### Frost and saturation (R102, R104) -/

/-- R102, R104 as a property of the Drying Controller. -/
def Drying.Bounded (d : Drying) : Prop := d.frost ≤ 1000 ∧ d.saturation ≤ 1000

/-- Two states whose estimates of frost and saturation are the same. -/
def State.SameEstimates (s t : State) : Prop := t.dry.frost = s.dry.frost ∧ t.dry.saturation = s.dry.saturation

theorem State.SameEstimates.refl (s : State) : s.SameEstimates s := ⟨rfl, rfl⟩

theorem State.SameEstimates.trans {s t u : State} (h : s.SameEstimates t) (k : t.SameEstimates u) : s.SameEstimates u :=
  ⟨k.1.trans h.1, k.2.trans h.2⟩

theorem State.classifyDry_estimates : s.SameEstimates s.classifyDry := by
  unfold State.classifyDry
  split <;> exact .refl s

theorem State.startMethod_estimates (m : Method) : s.SameEstimates (s.startMethod m) :=
  State.SameEstimates.trans (t := (s.post [s.runFor m]).setDry { s.dry with state := .starting, method := some m, next := none })
    ⟨rfl, rfl⟩ (State.classifyDry_estimates _)

theorem State.startChosen_estimates : s.SameEstimates s.startChosen := by
  unfold State.startChosen
  split
  · exact s.startMethod_estimates _
  · exact .refl s

theorem State.switchMethod_estimates : s.SameEstimates s.switchMethod := by
  unfold State.switchMethod
  split
  · exact .refl s
  · next m _ =>
    extract_lets t
    split
    · exact .refl s
    · exact t.startChosen_estimates

theorem State.switchOr_estimates {f : State → State} (hf : s.SameEstimates (f s)) : s.SameEstimates (s.switchOr f) := by
  unfold State.switchOr
  split
  · exact .refl s
  · split
    · exact hf
    · exact s.switchMethod_estimates

theorem State.stopToOff_estimates : s.SameEstimates s.stopToOff := by
  unfold State.stopToOff
  split <;> exact .refl s

theorem State.actUnwanted_estimates : s.SameEstimates s.actUnwanted := by
  unfold State.actUnwanted
  split
  · exact .refl s
  · exact s.stopToOff_estimates
  · split <;> exact .refl s
  · exact .refl s
  · exact s.stopToOff_estimates
  · exact .refl s

theorem State.actWanted_estimates : s.SameEstimates s.actWanted := by
  unfold State.actWanted
  split
  · exact s.startChosen_estimates
  · exact s.switchOr_estimates s.classifyDry_estimates
  · exact s.switchOr_estimates (.refl s)
  · split
    · split <;> exact .refl s
    · exact .refl s
  · exact s.switchOr_estimates s.classifyDry_estimates
  · exact s.startChosen_estimates

theorem State.afterStop_estimates : s.SameEstimates s.afterStop := by
  unfold State.afterStop
  split
  · split
    · exact s.startMethod_estimates _
    · exact s.startChosen_estimates
  · exact s.startChosen_estimates

theorem Drying.record_estimates (m : Method) (on : Bool) (d : Drying) :
    (d.record m on).frost = d.frost ∧ (d.record m on).saturation = d.saturation := by
  cases m <;> exact ⟨rfl, rfl⟩

theorem State.dryOutputOn_estimates (m : Method) : s.SameEstimates (s.dryOutputOn m) := by
  have hrecord := s.dry.record_estimates m true
  unfold State.dryOutputOn
  extract_lets d
  split
  · show (if d.method = some m then _ else d).frost = _ ∧ (if d.method = some m then _ else d).saturation = _
    split <;> exact hrecord
  · show (if d.method = some m then _ else d).frost = _ ∧ (if d.method = some m then _ else d).saturation = _
    split <;> exact hrecord
  all_goals exact hrecord

theorem State.dryOutputOff_estimates (m : Method) : s.SameEstimates (s.dryOutputOff m) := by
  unfold State.dryOutputOff
  extract_lets t
  have ht : s.SameEstimates t := s.dry.record_estimates m false
  refine ht.trans ?_
  split
  · split
    · exact t.switchOr_estimates t.classifyDry_estimates
    · split
      · exact t.afterStop_estimates
      · exact .refl t
    all_goals exact .refl t
  · exact .refl t

/-- What an event keeps of the bounds of the estimates. -/
def State.DryTo (s t : State) : Prop := s.dry.Bounded → t.dry.Bounded

theorem State.DryTo.refl (s : State) : s.DryTo s := id

theorem State.SameEstimates.dryTo {s t : State} (h : s.SameEstimates t) : s.DryTo t := fun ⟨hf, hs⟩ =>
  ⟨h.1 ▸ hf, h.2 ▸ hs⟩

theorem State.dryEvent_dryTo {f : State → State} (hf : s.DryTo (f s)) : s.DryTo (s.dryEvent f) := by
  unfold State.dryEvent
  extract_lets t
  split
  · exact hf
  · exact hf

/-- R104: the saturation estimate stops at 1000. -/
theorem Drying.accrued_le (d : Drying) (h : d.saturation ≤ 1000) : d.accrued ≤ 1000 := by
  unfold Drying.accrued
  split
  · exact Nat.min_le_left _ _
  · exact h

/-- R102: the frost estimate stops at 1000. -/
theorem Drying.frostAfter_le (d : Drying) (v : Int) (h : d.frost ≤ 1000) : d.frostAfter v ≤ 1000 := by
  unfold Drying.frostAfter
  split
  · exact Nat.min_le_left _ _
  · split
    · exact (Nat.sub_le _ _).trans h
    · exact h

theorem State.takeAllocation_dryTo : s.DryTo s.takeAllocation := by
  unfold State.takeAllocation
  extract_lets _ t u
  have hu : s.DryTo u := fun h => ⟨h.1, s.dry.accrued_le h.2⟩
  split
  · exact fun h => u.actWanted_estimates.dryTo (hu h)
  · exact fun h => u.actUnwanted_estimates.dryTo (hu h)

theorem State.takeCoilTemp_dryTo (v : Int) : s.DryTo (s.takeCoilTemp v) := by
  unfold State.takeCoilTemp
  extract_lets _ t u
  have ht : s.DryTo t := fun h => ⟨s.dry.frostAfter_le v h.1, h.2⟩
  split
  · split
    · exact fun h => u.switchMethod_estimates.dryTo (ht h)
    · exact ht
  · exact ht

theorem State.actOnOutcome_estimates : s.SameEstimates s.actOnOutcome := by
  unfold State.actOnOutcome
  split
  · split
    · exact s.startChosen_estimates
    · exact .refl s
  · exact s.classifyDry_estimates
  all_goals exact .refl s

/-- R105: an outcome zeroes an estimate, or leaves both. -/
theorem Drying.afterOutcome_bounded (k : CycleKind) (o : CycleOutcome) {d : Drying} (h : d.Bounded) :
    (d.afterOutcome k o).Bounded := by
  unfold Drying.afterOutcome
  split
  · exact ⟨Nat.zero_le _, h.2⟩
  · split
    · exact ⟨h.1, Nat.zero_le _⟩
    · exact h

theorem State.DryTo.of_taking {c : Instr} {s t : State} {f : State → State} (h : taking c s f = .next t)
    (hf : ∀ u : State, u.DryTo (f u)) : s.DryTo t := by
  unfold taking at h
  split at h
  · cases h
    exact .refl s
  · cases h
    exact hf (s.took c)

theorem exec_dryTo {c : Instr} {t : State} (h : exec c s = .next t) (hc : resets c = false) : s.DryTo t := by
  cases c with
  | dryingAllocation r => exact .of_taking h fun u => u.dryEvent_dryTo u.takeAllocation_dryTo
  | dryingOutputOn o =>
    rw [exec, execDryingOutputOn] at h
    refine .of_taking h fun u => ?_
    split
    · exact .refl u
    · split
      · exact .refl u
      · exact u.dryEvent_dryTo (u.dryOutputOn_estimates _).dryTo
  | dryingOutputOff o =>
    rw [exec, execDryingOutputOff] at h
    refine .of_taking h fun u => ?_
    split
    · exact .refl u
    · split
      · exact u.dryEvent_dryTo (u.dryOutputOff_estimates _).dryTo
      · exact .refl u
  | dryingCoilTemp x =>
    rw [exec, execDryingCoilTemp] at h
    refine .of_taking h fun u => ?_
    split
    · exact .refl u
    · exact u.dryEvent_dryTo (u.takeCoilTemp_dryTo _)
  | dryingCycleOutcome k o =>
    exact .of_taking h fun u => u.dryEvent_dryTo fun hu =>
      (State.actOnOutcome_estimates _).dryTo (Drying.afterOutcome_bounded k o hu)
  | _ =>
    have hdry := exec_agrees s h hc .dry (by simp)
    exact fun k => hdry ▸ k

theorem step_keeps_dry {s t : State} (h : s.dry.Bounded) (hs : step s = .next t) : t.dry.Bounded := by
  refine step_keeps (P := fun s => s.dry.Bounded) (fun c s t h he => ?_) (fun s h => ?_) (fun _ _ h => h) h hs
  · cases hc : resets c
    · exact exec_dryTo s he hc h
    · exact reset_keeps (P := fun s => s.dry.Bounded) (fun _ _ _ => ⟨Nat.zero_le _, Nat.zero_le _⟩) (fun _ _ h => h)
        (fun _ h => h) (fun _ _ _ h => h) h hc he
  · rw [s.tick_within.same .dry (by simp)]
    exact h

end Sys2Proof.Machine
end

section
/-! The filter stages through every step: their charges, run sweeps and the derate in their ranges, and every fitted stage in
the state its charge calls for (R142, R144, R146, R149). -/

namespace Sys2Proof.Machine
open State

variable (s : State)

/-! ### The laws as properties of the filter records -/

/-- R144, R146, R149: the ranges. -/
structure Filters.Bounded (f : Filters) : Prop where
  low : 50 ≤ f.derate
  high : f.derate ≤ 100
  charge : ∀ st, (f.stage st).charge ≤ 16777215
  sweeps : ∀ st, (f.stage st).runSweeps ≤ 65535

/-- R142: every fitted stage stands by its parameters. -/
def Filters.Stand (p : Stage → StageParams) (f : Filters) : Prop :=
  ∀ st, (f.stage st).fitted = true →
    ((p st).life ≤ (f.stage st).charge → (f.stage st).state = .spent) ∧
      ((p st).threshold ≤ (f.stage st).charge → (f.stage st).state = .worn ∨ (f.stage st).state = .spent)

/-- No stage is fitted. -/
def Filters.Bare (f : Filters) : Prop := ∀ st, (f.stage st).fitted = false

theorem State.filterLaw_iff (s : State) : s.FilterLaw ↔ (s.banks.live = none → s.filters.Bare) ∧
    (.filterSwapTaken ∈ s.posts ∨ s.filters.Stand s.stageParams) := by
  refine and_congr_right fun _ => or_congr_right ⟨fun h st hf => ?_, fun h st life hf hl => ?_⟩
  · exact h st _ hf rfl
  · subst hl
    exact h st hf

/-- What an event of the Filter Monitor keeps of the laws, with the stage parameters p, while a bank is live or none is. -/
structure Filters.Keeps (live : Bool) (p : Stage → StageParams) (f g : Filters) : Prop where
  bounded : f.Bounded → g.Bounded
  stand : f.Stand p → g.Stand p
  bare : live = false → f.Bare → g.Bare

/-- What an event keeps of the laws of the Filter Monitor. -/
def State.FiltersTo (s t : State) : Prop := s.filters.Keeps s.isLive s.stageParams t.filters

namespace State.FiltersTo
variable {s t u : State}

theorem refl (s : State) : s.FiltersTo s := ⟨id, id, fun _ => id⟩

theorem of_eq (h : t.filters = s.filters) : s.FiltersTo t := ⟨fun k => h ▸ k, fun k => h ▸ k, fun _ k => h ▸ k⟩

theorem trans (h : s.FiltersTo t) (k : t.FiltersTo u) (hb : t.banks = s.banks) : s.FiltersTo u := by
  have hparams : t.stageParams = s.stageParams := by
    funext st
    simp only [State.stageParams, State.param, hb]
  have hlive : t.isLive = s.isLive := by rw [State.isLive, State.isLive, hb]
  rw [State.FiltersTo, hparams, hlive] at k
  exact ⟨k.bounded ∘ h.bounded, k.stand ∘ h.stand, fun hl => k.bare hl ∘ h.bare hl⟩

end State.FiltersTo

/-! ### The records, stage by stage -/

@[simp] theorem Filters.stage_mapStages (g : Stage → StageRecord → StageRecord) (f : Filters) (st : Stage) :
    (f.mapStages g).stage st = g st (f.stage st) := by
  cases st <;> rfl

theorem Filters.stage_setStage (f : Filters) (st st' : Stage) (r : StageRecord) :
    (f.setStage st r).stage st' = if st' = st then r else f.stage st' := by
  cases st <;> cases st' <;> rfl

@[simp] theorem Filters.stage_withDerate (f : Filters) (st : Stage) : f.withDerate.stage st = f.stage st := by
  cases st <;> rfl

theorem Filters.stage_congr {f g : Filters} (hp : g.pre = f.pre) (hf : g.fine = f.fine) (hs : g.sorb = f.sorb) (st : Stage) :
    g.stage st = f.stage st := by
  cases st <;> assumption

theorem derateOf_range (base last : Curve) : 50 ≤ derateOf base last ∧ derateOf base last ≤ 100 := by
  unfold derateOf
  split
  · decide
  · split
    · decide
    · omega

/-- R149: the derate is 100, or that of two curves. -/
theorem Filters.withDerate_derate (f : Filters) :
    f.withDerate.derate = 100 ∨ ∃ base last, f.withDerate.derate = derateOf base last := by
  unfold Filters.withDerate
  dsimp only
  split
  · exact .inr ⟨_, _, rfl⟩
  · exact .inl rfl

theorem Filters.withDerate_range (f : Filters) : 50 ≤ f.withDerate.derate ∧ f.withDerate.derate ≤ 100 := by
  obtain h | ⟨base, last, h⟩ := f.withDerate_derate <;> rw [h]
  · decide
  · exact derateOf_range base last

theorem StageRecord.evaluate_keeps (p : StageParams) (r : StageRecord) :
    (r.evaluate p).fitted = r.fitted ∧ (r.evaluate p).charge = r.charge ∧ (r.evaluate p).runSweeps = r.runSweeps := by
  unfold StageRecord.evaluate StageRecord.ifFitted
  split <;> exact ⟨rfl, rfl, rfl⟩

/-! ### A filter change (R142) -/

theorem State.filterChange_stage (f : Filters → Filters) (st : Stage) :
    (s.filterChange f).filters.stage st = ((f s.filters).stage st).evaluate (s.stageParams st) :=
  Filters.stage_mapStages (fun st r => r.evaluate (s.stageParams st)) (f s.filters) st

theorem State.filterChange_derate (f : Filters → Filters) : (s.filterChange f).filters.derate = (f s.filters).derate := rfl

/-- R142: after an evaluation every fitted stage stands by its parameters. -/
theorem State.filterChange_stand (f : Filters → Filters) : (s.filterChange f).filters.Stand s.stageParams := by
  intro st
  rw [s.filterChange_stage f st]
  obtain ⟨hfitted, hcharge, -⟩ := ((f s.filters).stage st).evaluate_keeps (s.stageParams st)
  rw [hfitted, hcharge]
  intro hf
  rw [StageRecord.evaluate, StageRecord.ifFitted, if_pos hf]
  show (_ → StageRecord.standing _ _ = _) ∧ (_ → StageRecord.standing _ _ = _ ∨ StageRecord.standing _ _ = _)
  unfold StageRecord.standing
  refine ⟨fun h => if_pos (.inr h), fun h => ?_⟩
  split
  · exact .inr rfl
  · rw [if_pos (.inr h)]
    exact .inl rfl

/-- A change of one record that fits no stage and keeps it in its ranges. -/
structure StageRecord.Ranges (r r' : StageRecord) : Prop where
  fitted : r'.fitted = true → r.fitted = true
  charge : r.charge ≤ 16777215 → r'.charge ≤ 16777215
  sweeps : r.runSweeps ≤ 65535 → r'.runSweeps ≤ 65535

theorem StageRecord.Ranges.refl (r : StageRecord) : r.Ranges r := ⟨id, id, id⟩

theorem StageRecord.Ranges.of_eq {r r' : StageRecord}
    (h : r'.fitted = r.fitted ∧ r'.charge = r.charge ∧ r'.runSweeps = r.runSweeps) : r.Ranges r' :=
  ⟨fun k => h.1 ▸ k, fun k => h.2.1 ▸ k, fun k => h.2.2 ▸ k⟩

theorem StageRecord.ranges_ifFitted {g : StageRecord → StageRecord} {r : StageRecord} (h : r.Ranges (g r)) :
    r.Ranges (r.ifFitted g) := by
  unfold StageRecord.ifFitted
  split
  · exact h
  · exact .refl r

theorem State.filterChange_bounded {f : Filters → Filters} (hlow : 50 ≤ (f s.filters).derate)
    (hhigh : (f s.filters).derate ≤ 100) (hcharge : ∀ st, ((f s.filters).stage st).charge ≤ 16777215)
    (hsweeps : ∀ st, ((f s.filters).stage st).runSweeps ≤ 65535) : (s.filterChange f).filters.Bounded := by
  refine ⟨hlow, hhigh, fun st => ?_, fun st => ?_⟩ <;> rw [s.filterChange_stage f st]
  · rw [(StageRecord.evaluate_keeps _ _).2.1]
    exact hcharge st
  · rw [(StageRecord.evaluate_keeps _ _).2.2]
    exact hsweeps st

/-- A filter change of records that keep their ranges. -/
theorem State.filterChange_filtersTo {f : Filters → Filters}
    (hderate : s.filters.Bounded → 50 ≤ (f s.filters).derate ∧ (f s.filters).derate ≤ 100)
    (hstage : ∀ st, (s.filters.stage st).Ranges ((f s.filters).stage st)) : s.FiltersTo (s.filterChange f) := by
  refine ⟨fun h => ?_, fun _ => s.filterChange_stand f, fun _ h st => ?_⟩
  · obtain ⟨hlow, hhigh⟩ := hderate h
    exact s.filterChange_bounded hlow hhigh (fun st => (hstage st).charge (h.charge st))
      fun st => (hstage st).sweeps (h.sweeps st)
  · rw [s.filterChange_stage f st, (StageRecord.evaluate_keeps _ _).1]
    by_contra hf
    have := (hstage st).fitted (by simpa using hf)
    rw [h st] at this
    cases this

/-- Records whose charges, states and fittings stay. -/
theorem State.FiltersTo.of_records {s t : State} (hderate : t.filters.derate = s.filters.derate)
    (hstage : ∀ st, (t.filters.stage st).fitted = (s.filters.stage st).fitted ∧
      (t.filters.stage st).charge = (s.filters.stage st).charge ∧ (t.filters.stage st).state = (s.filters.stage st).state)
    (hsweeps : ∀ st, (s.filters.stage st).runSweeps ≤ 65535 → (t.filters.stage st).runSweeps ≤ 65535) : s.FiltersTo t := by
  refine ⟨fun h => ⟨hderate ▸ h.low, hderate ▸ h.high, fun st => ?_, fun st => hsweeps st (h.sweeps st)⟩, fun h st => ?_,
    fun _ h st => ?_⟩
  · rw [(hstage st).2.1]
    exact h.charge st
  · obtain ⟨hfitted, hcharge, hstate⟩ := hstage st
    rw [hfitted, hcharge, hstate]
    exact h st
  · rw [(hstage st).1]
    exact h st

/-! ### The events of the Filter Monitor -/

/-- R144: a charge added stops at the largest. -/
theorem State.addCharge_filtersTo (n : Stage → Nat) :
    s.FiltersTo (s.filterChange fun f => f.mapStages fun st x => x.ifFitted (StageRecord.addCharge (n st))) := by
  refine s.filterChange_filtersTo (fun h => ⟨h.low, h.high⟩) fun st => ?_
  rw [Filters.stage_mapStages]
  exact StageRecord.ranges_ifFitted ⟨id, fun _ => Nat.min_le_right _ _, id⟩

theorem State.countRun_filtersTo : s.FiltersTo s.countRun := by
  unfold State.countRun
  split
  · exact .refl s
  · refine .of_records rfl (fun st => ?_) fun st h => ?_
    · simp only [State.setFilters_filters, Filters.stage_mapStages, StageRecord.ifFitted]
      split <;> exact ⟨rfl, rfl, rfl⟩
    · simp only [State.setFilters_filters, Filters.stage_mapStages, StageRecord.ifFitted]
      split
      · exact Nat.min_le_right _ _
      · exact h

/-- R146, R151: the run sweeps restart. -/
theorem State.FiltersTo.of_restartRun {s t : State} (hderate : t.filters.derate = s.filters.derate)
    (h : ∀ st, t.filters.stage st = s.filters.restartRun.stage st) : s.FiltersTo t := by
  refine .of_records hderate (fun st => ?_) fun st hs => ?_
  · rw [h st]
    simp only [Filters.restartRun, Filters.stage_mapStages, StageRecord.ifFitted]
    split <;> exact ⟨rfl, rfl, rfl⟩
  · rw [h st]
    simp only [Filters.restartRun, Filters.stage_mapStages, StageRecord.ifFitted]
    split
    · exact Nat.zero_le _
    · exact hs

/-- A change of the door record or of the baseline request only. -/
theorem State.FiltersTo.of_stages {s t : State} (hderate : t.filters.derate = s.filters.derate)
    (h : ∀ st, t.filters.stage st = s.filters.stage st) : s.FiltersTo t :=
  .of_records hderate (fun st => h st ▸ ⟨rfl, rfl, rfl⟩) fun st hs => h st ▸ hs

theorem State.profileStep_filtersTo : s.FiltersTo s.profileStep := by
  unfold State.profileStep
  split
  · exact .of_restartRun rfl fun st => Filters.stage_congr rfl rfl rfl st
  · exact .of_stages rfl fun st => Filters.stage_congr rfl rfl rfl st

theorem StageRecord.takeCurve_keeps (limit : Nat) (c : Curve) (r : StageRecord) :
    (r.takeCurve limit c).fitted = r.fitted ∧ (r.takeCurve limit c).charge = r.charge ∧
      (r.takeCurve limit c).runSweeps = r.runSweeps := by
  unfold StageRecord.takeCurve
  split <;> exact ⟨rfl, rfl, rfl⟩

theorem State.takeProfile_filtersTo (o : CycleOutcome) (result : List (Option Curve)) :
    s.FiltersTo (s.takeProfile o result) := by
  unfold State.takeProfile
  split
  · refine s.filterChange_filtersTo (fun _ => Filters.withDerate_range _) fun st => ?_
    rw [Filters.stage_withDerate, Filters.stage_mapStages]
    split
    · exact .refl _
    · exact StageRecord.ranges_ifFitted (.of_eq (StageRecord.takeCurve_keeps _ _ _))
  · exact .refl s

theorem State.FiltersTo.of_doorOpened {s t : State} (hderate : t.filters.derate = s.filters.derate)
    (h : ∀ st, t.filters.stage st = (s.filters.mapStages fun _ r => r.ifFitted fun r =>
      { r with doorOpened := r.doorOpened || isLoaded r.state }).stage st) : s.FiltersTo t := by
  have hstage : ∀ st, (t.filters.stage st).fitted = (s.filters.stage st).fitted ∧
      (t.filters.stage st).charge = (s.filters.stage st).charge ∧
      (t.filters.stage st).state = (s.filters.stage st).state ∧
      (t.filters.stage st).runSweeps = (s.filters.stage st).runSweeps := by
    intro st
    rw [h st, Filters.stage_mapStages, StageRecord.ifFitted]
    split <;> exact ⟨rfl, rfl, rfl, rfl⟩
  refine .of_records hderate (fun st => ?_) fun st hs => ?_
  · obtain ⟨hf, hc, hstate, -⟩ := hstage st
    exact ⟨hf, hc, hstate⟩
  · obtain ⟨-, -, -, hruns⟩ := hstage st
    rw [hruns]
    exact hs

theorem State.filterDoor_filtersTo (b : Bool) : s.FiltersTo (s.filterDoor b) := by
  unfold State.filterDoor
  split
  · exact .refl s
  · split
    · exact .of_doorOpened rfl fun st => Filters.stage_congr rfl rfl rfl st
    · exact .of_stages rfl fun st => Filters.stage_congr rfl rfl rfl st

theorem State.filterReset_filtersTo (st : Stage) : s.FiltersTo (s.filterReset st).1 := by
  unfold State.filterReset
  split
  · extract_lets t
    have ht : s.FiltersTo t := by
      refine s.filterChange_filtersTo (fun _ => Filters.withDerate_range _) fun st' => ?_
      rw [Filters.stage_withDerate, Filters.stage_setStage]
      split
      · next e =>
        subst e
        exact ⟨id, fun _ => Nat.zero_le _, fun _ => Nat.zero_le _⟩
      · exact .refl _
    exact ht.trans (.of_restartRun rfl fun st => rfl) rfl
  · exact .refl s

/-- R152: a charge of 24 bits. -/
theorem State.setCharge_filtersTo (st : Stage) (v : Nat) (hv : v ≤ 16777215) : s.FiltersTo (s.setCharge st v).1 := by
  unfold State.setCharge
  split
  · dsimp only
    refine s.filterChange_filtersTo (fun h => ?_) fun st' => ?_
    · cases st <;> exact ⟨h.low, h.high⟩
    · rw [Filters.stage_setStage]
      split
      · next e =>
        subst e
        exact ⟨id, fun _ => hv, id⟩
      · exact .refl _
  · exact .refl s

/-- R153: a swap fits the stages of the live Filter page, none while no bank is live. -/
theorem State.filterSwap_filtersTo (made : Bool) :
    s.FiltersTo (s.filterChange fun f => { (f.mapStages fun st r => { r with fitted := s.pageFitted st }).withDerate with
      baselineReq := f.baselineReq || made }) := by
  have hstage : ∀ st, Filters.stage { (s.filters.mapStages fun st r => { r with fitted := s.pageFitted st }).withDerate with
      baselineReq := s.filters.baselineReq || made } st = { s.filters.stage st with fitted := s.pageFitted st } := by
    intro st
    cases st <;> rfl
  obtain ⟨hlow, hhigh⟩ := (s.filters.mapStages fun st r => { r with fitted := s.pageFitted st }).withDerate_range
  refine ⟨fun h => s.filterChange_bounded hlow hhigh (fun st => ?_) fun st => ?_, fun _ => s.filterChange_stand _,
    fun hl _ st => ?_⟩
  · rw [hstage]
    exact h.charge st
  · rw [hstage]
    exact h.sweeps st
  · rw [s.filterChange_stage _ st, (StageRecord.evaluate_keeps _ _).1, hstage]
    show s.pageFitted st = false
    rw [State.pageFitted, hl, Bool.false_and]

/-! ### Every command and every step -/

theorem State.FiltersTo.of_taking {c : Instr} {s t : State} {f : State → State} (h : taking c s f = .next t)
    (hf : ∀ u : State, u.FiltersTo (f u)) : s.FiltersTo t := by
  unfold taking at h
  split at h
  · cases h
    exact .refl s
  · cases h
    exact hf (s.took c)

theorem State.FiltersTo.of_lineChange {c : Instr} {s t : State} {x : Lines} {f : State → State}
    (h : taking c (s.setLines x) f = .next t) (hf : ∀ u : State, u.FiltersTo (f u)) : s.FiltersTo t :=
  State.FiltersTo.of_taking (s := s.setLines x) h hf

theorem Request.arg_lt (r : Request) (i : Nat) : r.arg i < 65536 := BitVec.isLt _

theorem exec_filtersTo {c : Instr} {t : State} (h : exec c s = .next t) (hc : resets c = false) : s.FiltersTo t := by
  cases c with
  | doorLineChange isOpen =>
    rw [exec, execDoorLineChange] at h
    split at h
    · cases h
      exact .of_eq rfl
    · refine .of_lineChange h fun u => ?_
      have hcycle := State.cycleDoor_within ((u.interlockDoor isOpen).allocDoor isOpen) isOpen
      have hlock := u.setInhibit_within .door isOpen
      refine State.FiltersTo.trans (.of_eq ((hcycle.same .filters (by simp)).trans (hlock.same .filters (by simp))))
        (State.filterDoor_filtersTo _ isOpen) ((hcycle.same .banks (by simp)).trans (hlock.same .banks (by simp)))
  | filterAllocation r =>
    rw [exec, execFilterAllocation] at h
    refine .of_taking h fun u => ?_
    have hcharge := u.addCharge_filtersTo (u.chargeGain r)
    exact (hcharge.trans (State.countRun_filtersTo _) rfl).trans (State.profileStep_filtersTo _)
      ((State.countRun_within _).same .banks (by simp))
  | profileOutcome o result => exact .of_taking h fun u => u.takeProfile_filtersTo o result
  | filterSwapTaken =>
    rw [exec, execFilterSwapTaken] at h
    exact .of_taking h fun u => u.filterSwap_filtersTo u.becomesFitted
  | setFilterCharge =>
    obtain hw | ⟨r, rest, -, -, hok, -, rfl⟩ := requestRow_cases s h
    · exact .of_eq (hw.same .filters (by simp))
    · have hv : r.arg 1 * 65536 + r.arg 2 ≤ 16777215 := by
        have := r.arg_lt 2
        simp only [Bool.and_eq_true, decide_eq_true_eq] at hok
        omega
      exact State.setCharge_filtersTo ((s.took .setFilterCharge).reserve rest) r.stage _ hv
  | filterReset =>
    obtain hw | ⟨r, rest, -, -, -, -, rfl⟩ := requestRow_cases s h
    · exact .of_eq (hw.same .filters (by simp))
    · exact State.filterReset_filtersTo ((s.took .filterReset).reserve rest) r.stage
  | _ => exact .of_eq (exec_agrees s h hc .filters (by simp))

theorem Filters.atReset_bounded (door : Bool) : (Filters.atReset door).Bounded :=
  ⟨by simp [Filters.atReset], by simp [Filters.atReset], fun st => by cases st <;> exact Nat.zero_le _, fun st => by cases st <;> exact Nat.zero_le _⟩

theorem Filters.atReset_bare (door : Bool) : (Filters.atReset door).Bare := fun st => by cases st <;> rfl

/-- R156: a SOFT RESET keeps the records. -/
theorem State.softFilters_filtersTo (arriving between : Bool) : s.FiltersTo (s.softReset arriving between) :=
  .of_stages rfl fun st => by cases st <;> rfl

theorem step_keeps_filters {s t : State} (h : s.filters.Bounded) (hs : step s = .next t) : t.filters.Bounded := by
  refine step_keeps (P := fun s => s.filters.Bounded) (fun c s t h he => ?_) (fun s h => ?_) (fun _ _ h => h) h hs
  · cases hc : resets c
    · exact (exec_filtersTo s he hc).bounded h
    · exact reset_keeps (P := fun s => s.filters.Bounded) (fun l _ _ => Filters.atReset_bounded l.door) (fun _ _ h => h)
        (fun _ h => h) (fun s a b h => (s.softFilters_filtersTo a b).bounded h) h hc he
  · rw [s.tick_within.same .filters (by simp)]
    exact h

theorem Banks.KeepsLive.isLive {s t : State} (h : s.banks.KeepsLive t.banks) : t.isLive = s.isLive := by
  rw [State.isLive, State.isLive, h.live]

theorem Banks.KeepsLive.stageParams {s t : State} (h : s.banks.KeepsLive t.banks) : t.stageParams = s.stageParams := by
  funext st
  simp only [State.stageParams, State.param, h.word]

theorem exec_filterSwapTaken_stand {s t : State} (h : exec .filterSwapTaken s = .next t) :
    t = s ∨ t.filters.Stand t.stageParams := by
  rw [exec, execFilterSwapTaken, taking] at h
  split at h
  · exact .inl (Host.Outcome.next.inj h).symm
  · rw [← Host.Outcome.next.inj h]
    exact .inr (State.filterChange_stand (s.took .filterSwapTaken) _)

/-- R157, R170: a SOFT RESET leaves the live tables. -/
theorem State.softReset_keepsLive (arriving between : Bool) : s.banks.KeepsLive (s.softReset arriving between).banks := by
  obtain ⟨hbank | ⟨p, ws, -, hbank⟩, hlive, -, -⟩ := s.banks.cutTo_softReset s.free between
  · exact .of_bank hlive fun id _ => hbank id
  · refine .of_bank hlive fun id hid => (hbank id).trans ?_
    rw [Banks.bank_putShadow, if_neg (s.banks.shadowId_ne_of_live id hid)]

theorem State.softReset_isLive (arriving between : Bool) : (s.softReset arriving between).isLive = s.isLive :=
  (s.softReset_keepsLive arriving between).isLive

/-- R142: with no bank live no stage is fitted. -/
theorem step_keeps_bare {s t : State} (h : s.isLive = false → s.filters.Bare) (hs : step s = .next t) :
    t.isLive = false → t.filters.Bare := by
  refine step_keeps (P := fun s => s.isLive = false → s.filters.Bare) (fun c s t h he => ?_) (fun s h => ?_)
    (fun _ _ h => h) h hs
  · cases hc : resets c
    · obtain hkeeps | ⟨hlive, -⟩ := exec_swapsTo he hc
      · rw [hkeeps.isLive]
        exact fun hl => (exec_filtersTo s he hc).bare hl (h hl)
      · exact fun hl => Bool.noConfusion (hl.symm.trans hlive)
    · exact reset_keeps (P := fun s => s.isLive = false → s.filters.Bare) (fun l _ _ _ => Filters.atReset_bare l.door)
        (fun _ _ h => h) (fun _ h => h) (fun s a b h hl => (s.softFilters_filtersTo a b).bare (s.softReset_isLive a b ▸ hl)
          (h (s.softReset_isLive a b ▸ hl))) h hc he
  · rw [State.isLive, s.tick_within.same .banks (by simp), s.tick_within.same .filters (by simp)]
    exact h

/-- A command of the device, other than a reset, keeps every fitted stage standing but for the moment between a swap and its
taking. -/
theorem exec_keeps_stand {c : Instr} {s t : State} (h : s.filters.Stand s.stageParams ∨ .filterSwapTaken ∈ s.posts)
    (hc : resets c = false) (he : exec c s = .next t) :
    t.filters.Stand t.stageParams ∨ .filterSwapTaken ∈ t.posts := by
  obtain hkeeps | ⟨-, hswap⟩ := exec_swapsTo he hc
  · obtain hstand | hpost := h
    · rw [hkeeps.stageParams]
      exact .inl ((exec_filtersTo s he hc).stand hstand)
    · by_cases hself : c = .filterSwapTaken
      · subst hself
        obtain rfl | hstand := exec_filterSwapTaken_stand he
        · exact .inr hpost
        · exact .inl hstand
      · exact .inr (exec_posts s he hc hpost (Ne.symm hself))
  · exact .inr (hswap (by simp [swapPosts]))

/-- R156, log 15: a SOFT RESET keeps the records, the live tables, and a swap the monitor has still to take. -/
theorem State.softReset_stand {s : State} (arriving between : Bool)
    (h : s.filters.Stand s.stageParams ∨ .filterSwapTaken ∈ s.posts) :
    (s.softReset arriving between).filters.Stand (s.softReset arriving between).stageParams ∨
      .filterSwapTaken ∈ (s.softReset arriving between).posts := by
  obtain hstand | hpost := h
  · rw [(s.softReset_keepsLive arriving between).stageParams]
    exact .inl ((s.softFilters_filtersTo arriving between).stand hstand)
  · exact .inr (List.mem_append_left _ (List.mem_filter.2 ⟨hpost, rfl⟩))

theorem Filters.stand_of_bare {p : Stage → StageParams} {f : Filters} (h : f.Bare) : f.Stand p := fun st hf => by
  rw [h st] at hf
  cases hf

theorem step_keeps_stand {s t : State} (h : s.filters.Stand s.stageParams ∨ Instr.filterSwapTaken ∈ s.posts)
    (hs : step s = .next t) : t.filters.Stand t.stageParams ∨ .filterSwapTaken ∈ t.posts := by
  refine step_keeps (P := fun s => s.filters.Stand s.stageParams ∨ Instr.filterSwapTaken ∈ s.posts) (fun c s t h he => ?_)
    (fun s h => ?_) (fun _ _ h => h) h hs
  · cases hc : resets c
    · exact exec_keeps_stand h hc he
    · exact reset_keeps_event (Q := fun s => s.filters.Stand s.stageParams) rfl
        (fun l _ _ => Filters.stand_of_bare (Filters.atReset_bare l.door)) (fun _ _ h => h) (fun _ h => h)
        (fun s a b h => State.softReset_stand a b h) h hc he
  · obtain hstand | hpost := h
    · have hparams : s.tick.stageParams = s.stageParams := by
        refine Banks.KeepsLive.stageParams ?_
        rw [s.tick_within.same .banks (by simp)]
        exact .refl _
      rw [hparams, s.tick_within.same .filters (by simp)]
      exact .inl hstand
    · exact .inr (s.tick_within.posts hpost)

theorem step_keeps_filterLaw {s t : State} (h : s.FilterLaw) (hs : step s = .next t) : t.FilterLaw := by
  have hnone : ∀ s : State, s.banks.live = none ↔ s.isLive = false := fun s => by simp [State.isLive]
  rw [State.filterLaw_iff, hnone] at h ⊢
  exact ⟨step_keeps_bare h.1 hs, (step_keeps_stand h.2.symm hs).symm⟩

end Sys2Proof.Machine
end

section
/-! What validation gives of the live tables (R161, R188), and the tank estimate within 0 and the capacity through every step
(R114). -/

namespace Sys2Proof.Machine
open State

variable (s : State)

/-! ### The words of a valid page -/

/-- R161, R188: a page without a failing word is one whose every word passes. -/
theorem firstFailure_eq_none_iff (p : Nat) (hp : p < 79) (ws : List Word) :
    firstFailure p ws = none ↔ ∀ o < 64, WordPasses p ws o := by
  rw [firstFailure, List.find?_eq_none]
  refine ⟨fun h o ho => ?_, fun h o ho => ?_⟩
  · rw [← wordOk_iff_wordPasses p hp ws o ho]
    simpa using h o (List.mem_range.2 ho)
  · have ho := List.mem_range.1 ho
    simpa using (wordOk_iff_wordPasses p hp ws o ho).2 (h o ho)

/-- A word of a bank's page. -/
theorem Bank.getD_page (x : Bank) (p o : Nat) (ho : o < 64) : (x.page p).getD o 0#16 = x.word p o := by
  rw [Bank.page_eq, List.getD_eq_getElem?_getD, List.getElem?_map, List.getElem?_range ho]
  rfl

/-- R157, R161: the words of the live tables pass the checks of their pages. -/
theorem State.live_wordPasses {s : State} (hb : s.BankLaw) (hv : s.TablesValid) (hlive : s.isLive = true) (p o : Nat)
    (hp : p < 79) (ho : o < 64) :
    ∃ ws : List Word, WordPasses p ws o ∧ ∀ j < 64, (ws.getD j 0#16).toNat = s.param p j := by
  rw [State.bankLaw_iff] at hb
  rw [State.tablesValid_iff] at hv
  obtain ⟨id, hid⟩ := Option.isSome_iff_exists.1 hlive
  have hpass := (firstFailure_eq_none_iff p hp _).1 (hv.pages id p hp (hb.live id hid p hp)) o ho
  refine ⟨_, hpass, fun j hj => ?_⟩
  rw [Bank.getD_page _ _ _ hj, State.param, Banks.liveWord, hid]

/-- R188: the full level and the probe map of the live Tank page lie within its capacity. -/
def State.TankPageValid (s : State) : Prop :=
  s.param 75 4 ≤ s.param 75 1 ∧ ∀ l < 16, s.param 75 (8 + l) ≤ s.param 75 1

theorem State.tankPageValid_of_live {s : State} (hb : s.BankLaw) (hv : s.TablesValid) (hlive : s.isLive = true) :
    s.TankPageValid := by
  obtain ⟨ws, hpass, hws⟩ := State.live_wordPasses hb hv hlive 75 1 (by decide) (by decide)
  obtain ⟨-, -, -, -, -, -, htank, -⟩ := hpass _ (fun j => (ws.getD j 0#16).toNat) (fun j => (ws.getD j 0#16).toInt) rfl
    (fun _ => rfl) fun _ => rfl
  obtain ⟨-, hcapacity, -⟩ := htank rfl
  obtain ⟨-, -, hfull, hmap⟩ := hcapacity rfl
  rw [State.TankPageValid, ← hws 4 (by decide), ← hws 1 (by decide)]
  refine ⟨hfull, fun l hl => ?_⟩
  rw [← hws (8 + l) (by omega)]
  exact hmap l hl

/-! ### The Tank Record -/

/-- R114: a record without a bank live has no kind, and one that is of no tank estimates 0. -/
structure Water.Sound (live : Bool) (w : Water) : Prop where
  kind : live = false → w.kind = none
  zero : w.kind ≠ some .tank → w.estimate = 0

/-- What an event keeps of the Tank Record, with a capacity, where a live Tank page is valid. -/
structure Water.Keeps (live : Bool) (capacity : Nat) (valid : Prop) (w w' : Water) : Prop where
  sound : w.Sound live → w'.Sound live
  estimate : (live = true → valid) → w.Sound live → w.estimate ≤ capacity → w'.estimate ≤ capacity

/-- What an event keeps of the law of the estimate. -/
def State.WaterTo (s t : State) : Prop := s.water.Keeps s.isLive (s.param 75 1) s.TankPageValid t.water

theorem State.WaterTo.refl (s : State) : s.WaterTo s := ⟨id, fun _ _ => id⟩

theorem State.WaterTo.of_eq {s t : State} (h : t.water = s.water) : s.WaterTo t := ⟨fun k => h ▸ k, fun _ _ k => h ▸ k⟩

theorem State.WaterTo.of_fields {s t : State} (hk : t.water.kind = s.water.kind)
    (he : t.water.estimate = s.water.estimate) : s.WaterTo t :=
  ⟨fun h => ⟨fun hl => hk.trans (h.kind hl), fun ht => he.trans (h.zero (hk ▸ ht))⟩, fun _ _ h => he ▸ h⟩

theorem Water.Sound.live_of_tank {live : Bool} {w : Water} (h : w.Sound live) (hk : w.kind = some .tank) : live = true := by
  cases live
  · rw [h.kind rfl] at hk
    cases hk
  · rfl

theorem State.waterEvent_fields (probe : Option Nat) (f : Water → Water) :
    (s.waterEvent probe f).water.kind = (f s.water).kind ∧
      (s.waterEvent probe f).water.estimate = (f s.water).estimate := by
  obtain ⟨ps, r, h⟩ := s.waterEvent_eq probe f
  rw [h]
  exact ⟨rfl, rfl⟩

/-- An event of the record that changes no kind: with a tank it leaves the estimate within the capacity, and without one it
leaves it as it is. -/
theorem State.waterEvent_waterTo (probe : Option Nat) {f : Water → Water} (hk : (f s.water).kind = s.water.kind)
    (hzero : s.water.kind ≠ some .tank → (f s.water).estimate = s.water.estimate)
    (hle : s.TankPageValid → s.water.estimate ≤ s.param 75 1 → (f s.water).estimate ≤ s.param 75 1) :
    s.WaterTo (s.waterEvent probe f) := by
  obtain ⟨hkind, hestimate⟩ := s.waterEvent_fields probe f
  refine ⟨fun h => ⟨fun hl => ?_, fun ht => ?_⟩, fun hvalid h he => ?_⟩
  · rw [hkind, hk]
    exact h.kind hl
  · rw [hkind, hk] at ht
    rw [hestimate, hzero ht]
    exact h.zero ht
  · rw [hestimate]
    by_cases ht : s.water.kind = some .tank
    · exact hle (hvalid (h.live_of_tank ht)) he
    · rw [hzero ht]
      exact he

/-- An event that leaves kind and estimate. -/
theorem State.waterEvent_waterTo_of_fields (probe : Option Nat) {f : Water → Water}
    (hk : (f s.water).kind = s.water.kind) (he : (f s.water).estimate = s.water.estimate) :
    s.WaterTo (s.waterEvent probe f) :=
  s.waterEvent_waterTo probe hk (fun _ => he) fun _ h => he ▸ h

/-- R109, R111, R113: an event that only a tank takes. -/
theorem State.tankEvent_waterTo (probe : Option Nat) {f : Water → Water} (htank : s.water.kind = some .tank)
    (hk : (f s.water).kind = s.water.kind)
    (hle : s.TankPageValid → s.water.estimate ≤ s.param 75 1 → (f s.water).estimate ≤ s.param 75 1) :
    s.WaterTo (s.waterEvent probe f) :=
  s.waterEvent_waterTo probe hk (fun h => absurd htank h) hle

theorem State.takeTankLevel_waterTo (x : Option (Fin 16)) : s.WaterTo (s.takeTankLevel x) := by
  unfold State.takeTankLevel
  split
  · split
    · exact s.waterEvent_waterTo_of_fields _ rfl rfl
    · exact .refl s
  · next level =>
    split
    · next htank =>
      refine s.tankEvent_waterTo _ htank.1 rfl fun hvalid he => ?_
      have hm : s.probeMap level.val ≤ s.param 75 1 := hvalid.2 _ level.isLt
      show (if !s.water.known then _ else if _ then _ else s.water.estimate) ≤ _
      split
      · exact hm
      · split
        · exact hm
        · exact he
    · exact .refl s

theorem State.takeFloat_waterTo (b : Bool) : s.WaterTo (s.takeFloat b) := by
  unfold State.takeFloat
  split
  · exact .refl s
  · refine s.waterEvent_waterTo none rfl (fun ht => if_neg fun h => ht h.2) fun hvalid he => ?_
    show (if b = true ∧ s.water.kind = some .tank then max s.water.estimate s.tankPage.full else s.water.estimate) ≤ _
    split
    · exact Nat.max_le.2 ⟨he, hvalid.1⟩
    · exact he

theorem State.latchPumpFault_waterTo : s.WaterTo s.latchPumpFault := by
  unfold State.latchPumpFault
  split
  · exact .refl s
  · exact .of_fields rfl rfl

theorem State.takePumpOutcome_waterTo (o : CycleOutcome) : s.WaterTo (s.takePumpOutcome o) := by
  unfold State.takePumpOutcome
  split
  · exact s.latchPumpFault_waterTo
  all_goals first | exact .refl s | exact s.waterEvent_waterTo_of_fields _ rfl rfl

theorem State.clearPumpFault_waterTo : s.WaterTo s.clearPumpFault := by
  unfold State.clearPumpFault
  split
  · exact .of_fields rfl rfl
  · exact .refl s

/-- R120: a swap takes the kind of the live Tank page, and an estimate within its capacity. -/
theorem Water.swapKind_sound {live : Bool} {w : Water} (h : w.Sound live) (p : TankPage) {new : Option TankKind}
    (hnew : live = false ↔ new = none) :
    (w.swapKind p new).Sound live ∧ (w.swapKind p new).estimate ≤ p.capacity := by
  unfold Water.swapKind
  split
  · next hk =>
    exact ⟨⟨fun hl => by simp [h.live_of_tank hk] at hl, fun hne => absurd hk hne⟩, Nat.min_le_right _ _⟩
  · next hk =>
    have hzero := h.zero (by simp [hk])
    exact ⟨h, hzero ▸ Nat.zero_le _⟩
  all_goals first
    | exact ⟨⟨fun hl => absurd (hnew.1 hl) (by simp), fun _ => rfl⟩, Nat.zero_le _⟩
    | skip
  have hkind := h.kind (hnew.2 rfl)
  have hzero := h.zero (by simp [hkind])
  exact ⟨h, hzero ▸ Nat.zero_le _⟩

theorem State.pageKind_eq_none_iff : s.isLive = false ↔ s.pageKind = none := by
  unfold State.pageKind
  cases s.isLive
  · simp
  · simp only [Bool.not_true, Bool.false_eq_true, if_false, Bool.true_eq_false, false_iff]
    split <;> simp

theorem State.waterSwap_sound (h : s.water.Sound s.isLive) :
    s.waterSwap.water.Sound s.isLive ∧ s.waterSwap.water.estimate ≤ s.param 75 1 := by
  obtain ⟨hsound, hle⟩ := Water.swapKind_sound h s.tankPage s.pageKind_eq_none_iff
  rw [State.waterSwap_water]
  exact ⟨⟨hsound.kind, hsound.zero⟩, hle⟩

theorem State.waterSwap_waterTo : s.WaterTo s.waterSwap :=
  ⟨fun h => (s.waterSwap_sound h).1, fun _ h _ => (s.waterSwap_sound h).2⟩

/-! ### Every command -/

theorem State.WaterTo.of_taking {c : Instr} {s t : State} {f : State → State} (h : taking c s f = .next t)
    (hf : ∀ u : State, u.WaterTo (f u)) : s.WaterTo t := by
  unfold taking at h
  split at h
  · cases h
    exact .refl s
  · cases h
    exact hf (s.took c)

theorem State.WaterTo.of_lineChange {c : Instr} {s t : State} {x : Lines} {f : State → State}
    (h : taking c (s.setLines x) f = .next t) (hf : ∀ u : State, u.WaterTo (f u)) : s.WaterTo t :=
  State.WaterTo.of_taking (s := s.setLines x) h hf

/-- An event that only a tank takes; another kind reports. -/
theorem State.tankEventIf_waterTo (p : Prop) [Decidable p] (probe : Option Nat) {f : Water → Water}
    (htank : p → s.water.kind = some .tank) (hk : (f s.water).kind = s.water.kind)
    (hle : s.water.estimate ≤ s.param 75 1 → (f s.water).estimate ≤ s.param 75 1) :
    s.WaterTo (if p then s.waterEvent probe f else s.reportOnly probe) := by
  split
  · next hp => exact s.tankEvent_waterTo probe (htank hp) hk fun _ => hle
  · exact .refl s

theorem exec_waterTo {c : Instr} {t : State} (h : exec c s = .next t) (hc : resets c = false) : s.WaterTo t := by
  cases c with
  | floatLineChange b =>
    rw [exec, execFloatLineChange] at h
    split at h
    · cases h
      exact .refl s
    · exact .of_lineChange h fun u => u.takeFloat_waterTo b
  | deposit v x =>
    rw [exec, execDeposit] at h
    exact .of_taking h fun u => u.tankEventIf_waterTo _ none id rfl fun _ => Nat.min_le_right _ _
  | removal v x =>
    rw [exec, execRemoval] at h
    exact .of_taking h fun u => u.tankEventIf_waterTo _ none id rfl fun he => (Nat.sub_le _ _).trans he
  | uncertain =>
    rw [exec, execUncertain] at h
    refine .of_taking h fun u => ?_
    split
    · exact .refl u
    · exact u.waterEvent_waterTo_of_fields _ rfl rfl
  | tankLevel x => exact .of_taking h fun u => u.takeTankLevel_waterTo _
  | tankOut =>
    rw [exec, execTankOut] at h
    exact .of_taking h fun u => u.tankEventIf_waterTo _ none And.left rfl id
  | tankIn =>
    rw [exec, execTankIn] at h
    exact .of_taking h fun u => u.tankEventIf_waterTo _ none id rfl fun _ => Nat.zero_le _
  | pumpOutOutcome o => exact .of_taking h fun u => u.takePumpOutcome_waterTo o
  | waterSwapTaken => exact .of_taking h State.waterSwap_waterTo
  | clearFault =>
    obtain hw | ⟨r, rest, -, -, -, -, rfl⟩ := requestRow_cases s h
    · exact .of_eq (hw.same .water (by simp))
    · unfold runClearFault
      split
      · exact .of_eq ((State.clearBlowerFault_within ((s.took .clearFault).reserve rest)).same .water (by simp))
      · exact State.clearPumpFault_waterTo ((s.took .clearFault).reserve rest)
  | _ => exact .of_eq (exec_agrees s h hc .water (by simp))

theorem exec_waterSwapTaken_estimate {s t : State} (h : exec .waterSwapTaken s = .next t)
    (hs : s.water.Sound s.isLive) : t = s ∨ t.water.estimate ≤ t.param 75 1 := by
  rw [exec, execWaterSwapTaken, taking] at h
  split at h
  · exact .inl (Host.Outcome.next.inj h).symm
  · rw [← Host.Outcome.next.inj h]
    have hparam : (s.took .waterSwapTaken).waterSwap.param 75 1 = s.param 75 1 := by
      rw [State.param, (State.waterSwap_within _).same .banks (by simp)]
      rfl
    rw [hparam]
    exact .inr (State.waterSwap_sound (s.took .waterSwapTaken) hs).2

/-! ### Every step -/

/-- R114 as the Tank Record, the capacity of the live Tank page and the posts have it. -/
structure State.Tank (s : State) : Prop where
  sound : s.water.Sound s.isLive
  estimate : s.water.estimate ≤ s.param 75 1 ∨ .waterSwapTaken ∈ s.posts

theorem State.tankLaw_iff (s : State) : s.TankLaw ↔ s.Tank := by
  have hnone : s.banks.live = none ↔ s.isLive = false := by simp [State.isLive]
  rw [State.TankLaw, hnone]
  exact ⟨fun ⟨h1, h2, h3⟩ => ⟨⟨h1, h2⟩, h3⟩, fun h => ⟨h.sound.kind, h.sound.zero, h.estimate⟩⟩

/-- The live tables came to be without a swap, or there was one: none of them is lost. -/
theorem Water.Sound.of_live {w : Water} {live : Bool} (h : w.Sound live) : w.Sound true := ⟨fun e => (nomatch e), h.zero⟩

theorem exec_keeps_tank {c : Instr} {s t : State} (h : s.Tank) (hvalid : s.isLive = true → s.TankPageValid)
    (hc : resets c = false) (he : exec c s = .next t) : t.Tank := by
  have hwater := exec_waterTo s he hc
  have hsound := hwater.sound h.sound
  obtain hkeeps | ⟨hlive, hswap⟩ := exec_swapsTo he hc
  · refine ⟨hkeeps.isLive ▸ hsound, ?_⟩
    obtain hle | hpost := h.estimate
    · rw [State.param, hkeeps.word]
      exact .inl (hwater.estimate hvalid h.sound hle)
    · by_cases hself : c = .waterSwapTaken
      · subst hself
        obtain rfl | hle := exec_waterSwapTaken_estimate he h.sound
        · exact .inr hpost
        · exact .inl hle
      · exact .inr (exec_posts s he hc hpost (Ne.symm hself))
  · exact ⟨hlive ▸ hsound.of_live, .inr (hswap (by simp [swapPosts]))⟩

theorem State.tank_atReset (l : Lines) (free : Nat) (pending : List Instr) : (State.atReset l free pending).Tank :=
  ⟨⟨fun _ => rfl, fun _ => rfl⟩, .inl (Nat.zero_le _)⟩

/-- R123: after a SOFT RESET the estimate is 0, and the kind is that of the live Tank page. -/
theorem State.tank_softReset (arriving between : Bool) : (s.softReset arriving between).Tank := by
  have hwater : (s.softReset arriving between).water = s.softWater := rfl
  have hfields : s.softWater.kind = s.pageKind ∧ s.softWater.estimate = 0 := by
    unfold State.softWater
    extract_lets _ w
    split <;> exact ⟨rfl, rfl⟩
  refine ⟨⟨fun hl => ?_, fun _ => ?_⟩, .inl ?_⟩
  · rw [s.softReset_isLive arriving between] at hl
    rw [hwater, hfields.1]
    exact s.pageKind_eq_none_iff.1 hl
  · rw [hwater, hfields.2]
  · rw [hwater, hfields.2]
    exact Nat.zero_le _

/-- A command keeps the law of the estimate where the live Tank page is valid as it begins. -/
theorem exec_tank {c : Instr} {s t : State} (h : s.Tank) (hvalid : s.isLive = true → s.TankPageValid)
    (he : exec c s = .next t) : t.Tank := by
  cases hc : resets c
  · exact exec_keeps_tank h hvalid hc he
  · have hsound : ∀ {u : State} {x : List Instr}, u.Tank → (u.setPosts x).water.Sound (u.setPosts x).isLive :=
      fun h => h.sound
    obtain ⟨l, rfl⟩ | ⟨l, rfl⟩ | rfl | rfl | ⟨a, b, rfl⟩ := exec_resets s he hc
    · exact State.tank_atReset _ _ _
    · exact ⟨(State.tank_atReset l s.free s.pending).sound, .inl (Nat.zero_le _)⟩
    · exact h
    · have hne : Instr.waterSwapTaken ≠ c := fun e => by rw [← e] at hc; cases hc
      exact ⟨hsound h, h.estimate.imp_right (List.mem_erase_of_ne hne).2⟩
    · exact (s.took c).tank_softReset a b

theorem State.tick_tank {s : State} (h : s.Tank) : s.tick.Tank := by
  have hbanks := s.tick_within.same .banks (by simp)
  have hwater := s.tick_within.same .water (by simp)
  obtain ⟨hsound, hestimate⟩ := h
  refine ⟨?_, ?_⟩
  · rw [State.isLive, hbanks, hwater]
    exact hsound
  · rw [State.param, hbanks, hwater]
    exact hestimate.imp_right fun hp => s.tick_within.posts hp

theorem step_keeps_tank {s t : State} (h : s.TankLaw) (hb : s.BankLaw) (hv : s.TablesValid) (hs : step s = .next t) :
    t.TankLaw := by
  rw [State.tankLaw_iff] at h ⊢
  have hvalid : s.isLive = true → s.TankPageValid := State.tankPageValid_of_live hb hv
  obtain ⟨c, rest, he⟩ | ⟨c, he⟩ | rfl | rfl := step_cases s hs
  · exact exec_tank (s := s.setPending rest) ⟨h.sound, h.estimate⟩ hvalid he
  · exact exec_tank h hvalid he
  · exact State.tick_tank h
  · exact h

/-! ### The records in range -/

theorem State.estimatesBounded_iff (s : State) : s.EstimatesBounded ↔ s.dry.Bounded ∧ s.filters.Bounded := by
  refine ⟨fun ⟨hfrost, hsat, hlow, hhigh, hall⟩ => ⟨⟨hfrost, hsat⟩, hlow, hhigh, fun st => ?_, fun st => ?_⟩,
    fun ⟨⟨hfrost, hsat⟩, h⟩ => ⟨hfrost, hsat, h.low, h.high, fun st _ => ⟨h.charge st, h.sweeps st⟩⟩⟩
  · exact (hall st (by cases st <;> simp)).1
  · exact (hall st (by cases st <;> simp)).2

/-- Settles O60: each monitor's own events keep its record, and no other command touches it. -/
theorem stepKeepsRecordsInRange : Obligations.StepKeepsRecordsInRange := by
  refine ⟨fun s t ha hz hs => ⟨step_keeps_accumulators ha hs, step_keeps_zones hz hs⟩, fun s t h hs => step_keeps_float h hs,
    fun s t h hs => ?_, fun s t h hb hv hs => step_keeps_tank h hb hv hs, fun s t h hs => step_keeps_filterLaw h hs⟩
  rw [State.estimatesBounded_iff] at h ⊢
  exact ⟨step_keeps_dry h.1 hs, step_keeps_filters h.2 hs⟩

/-! ### The laws at reset -/

theorem Banks.valid_laws_atReset (autold : Bool) : Banks.atReset.MemsWf ∧ Banks.atReset.Whole (RunControl.atReset autold).loader ∧
    Banks.atReset.Valid (RunControl.atReset autold).loader :=
  ⟨Banks.memsWf_atReset, Banks.whole_atReset _, Banks.valid_atReset autold⟩

theorem State.laws_atReset (l : Lines) (free : Nat) (pending : List Instr) : (State.atReset l free pending).Laws := by
  have hinter := Interlock.lawful_atReset ((State.atReset l free pending).param 74 0) l.door
  obtain ⟨hmems, hwhole, hvalid⟩ := Banks.valid_laws_atReset l.autold
  have hfilters := Filters.atReset_bare l.door
  refine ⟨(State.memoriesWf_iff _).2 hmems, State.queuesBounded_atReset _ _ _, State.sweepRecordSound_atReset _ _ _,
    Translator.atReset_sound, zonesSound_atReset, hinter.door, hinter.safe, hinter.floor, hinter.hasBlower, hinter.fault,
    hinter.distinct, Water.atReset_floatFull l.float, (State.tankLaw_iff _).2 (State.tank_atReset _ _ _),
    (State.filterLaw_iff _).2 ⟨fun _ => hfilters, .inr (Filters.stand_of_bare hfilters)⟩,
    (State.cycleLaw_iff _).2 (CycleEngine.lawful_of_empty rfl rfl rfl),
    (State.estimatesBounded_iff _).2 ⟨⟨Nat.zero_le _, Nat.zero_le _⟩, Filters.atReset_bounded l.door⟩,
    (State.bankLaw_iff _).2 hwhole, (State.tablesValid_iff _).2 hvalid⟩

/-- Settles O54: every block's law holds of its full reset state. -/
theorem lawsHoldAtReset : Obligations.LawsHoldAtReset := ⟨State.laws_atReset, State.laws_atReset Lines.quiet 0 []⟩

end Sys2Proof.Machine
end

section
/-! The FLOAT line (R112, R114, R117). -/

namespace Sys2Proof.Machine
open State

variable (s : State)

/-- The record of a water event, evaluated (R114). -/
def State.waterAfter (s : State) (f : Water → Water) : Water :=
  { f s.water with state := (f s.water).evaluate s.tankPage }

/-- R114, R115, R117: a water event replaces the record, and posts behind what is in flight, last the report of the record as
it then stands. -/
theorem State.waterEvent_report (probe : Option Nat) (f : Water → Water) :
    ∃ ps, s.waterEvent probe f = (s.setWater (s.waterAfter f)).setPosts
      (s.posts ++ ps ++ [(s.setWater (s.waterAfter f)).tankReport probe]) := by
  unfold State.waterEvent
  rw [State.evalTank_eq]
  exact ⟨_, rfl⟩

theorem exec_floatLineChange (b : Bool) (hheld : s.held = false) : exec (.floatLineChange b) s =
    .next (((s.setLines { s.lines with float := b }).took (.floatLineChange b)).takeFloat b) := by
  show execFloatLineChange b s = _
  rw [execFloatLineChange]
  simp only [hheld, Bool.false_eq_true, if_false]
  exact taking_awake _ _ _ hheld

/-- Settles O10: a line that matches the record is only reported; another is a water event. -/
theorem floatLineForcesFull : Obligations.FloatLineForcesFull := by
  intro b s hheld
  rw [exec_floatLineChange s b hheld, State.takeFloat]
  split
  · next hsame =>
    have hsame : s.water.float = b := hsame
    exact ⟨_, _, rfl, rfl, hsame, fun h => absurd hsame h, fun h => absurd hsame h, fun _ => rfl, List.getLast?_concat,
      rfl, rfl, rfl, rfl, rfl, rfl⟩
  · next hdiff =>
    have hdiff : s.water.float ≠ b := hdiff
    obtain ⟨ps, h⟩ := State.waterEvent_report ((s.setLines { s.lines with float := b }).took (.floatLineChange b)) none
      fun w => { w with
        float := b
        estimate := if b ∧ w.kind = some .tank then max w.estimate s.tankPage.full else w.estimate }
    refine ⟨_, _, congrArg _ h, rfl, rfl, fun _ hb => ?_, fun _ hb => ?_, fun hsame => absurd hsame hdiff,
      List.getLast?_concat, rfl, rfl, rfl, rfl, rfl, rfl⟩
    · subst hb
      exact ⟨Water.evaluate_of_float _ _ rfl, by simp [State.waterAfter, State.tankPage]⟩
    · subst hb
      exact ⟨by simp [State.waterAfter], by simp [State.waterAfter]; rfl⟩

end Sys2Proof.Machine
end

section
/-! Receiving, routing and granting (R1–R19), and the sweeps enabled (R8, R15). -/

namespace Sys2Proof.Machine
open State

variable (s : State)

/-! ### Runs and frames (R1, R2, §13.1) -/

theorem wellFormedRun_iff (ws : List Word) : wellFormedRun ws = true ↔
    3 ≤ ws.length ∧ ws.length ≤ 11 ∧ bits (ws.getD 1 0#16) 0 4 ≤ 8 ∧ ws.length = bits (ws.getD 1 0#16) 0 4 + 3 := by
  unfold wellFormedRun
  split
  · simp [and_assoc]
  · next hshort =>
    refine ⟨fun h => (nomatch h), fun ⟨hlen, _⟩ => ?_⟩
    match ws, hlen with
    | a :: b :: rest, _ => exact absurd rfl (hshort a b rest)

theorem checkOk_iff (ws : List Word) : checkOk ws = true ↔ ws.getLast? = some (check ws.dropLast) := beq_iff_eq

theorem bits_word (n lo k : Nat) (h : n < 65536) : bits (word n) lo k = n / 2 ^ lo % 2 ^ k := by
  rw [bits, word, BitVec.toNat_ofNat, Nat.mod_eq_of_lt h]

/-- §13.1: the header words of a frame, and the words after them. -/
theorem frameWords_eq (dst src kind : Nat) (payload : List Word) :
    ∃ c, frameWords dst src kind payload =
      word (dst * 256 + src) :: word (kind * 256 + payload.length) :: (payload ++ [c]) ∧
        c = check (word (dst * 256 + src) :: word (kind * 256 + payload.length) :: payload) := ⟨_, rfl, rfl⟩

/-- §13.1: a frame the device builds reads back as its fields. -/
theorem frameWords_reads (dst src kind : Nat) (payload : List Word) (hdst : dst < 32) (hsrc : src < 32) (hkind : kind < 16)
    (hlen : payload.length ≤ 8) :
    wellFormedRun (frameWords dst src kind payload) = true ∧ checkOk (frameWords dst src kind payload) = true ∧
      parseFrame (frameWords dst src kind payload) = { dst := dst, src := src, kind := kind, payload := payload } := by
  obtain ⟨c, hwords, hc⟩ := frameWords_eq dst src kind payload
  have hlength : bits (word (kind * 256 + payload.length)) 0 4 = payload.length := by
    rw [bits_word _ _ _ (by omega)]
    omega
  rw [hwords]
  refine ⟨(wellFormedRun_iff _).2 ?_, (checkOk_iff _).2 ?_, ?_⟩
  · simp [hlength]
    omega
  · subst hc
    simp [List.dropLast_cons_of_ne_nil, List.getLast?_cons]
  · have hd : bits (word (dst * 256 + src)) 8 5 = dst := by
      rw [bits_word _ _ _ (by omega)]
      omega
    have hs : bits (word (dst * 256 + src)) 0 5 = src := by
      rw [bits_word _ _ _ (by omega)]
      omega
    have hk : bits (word (kind * 256 + payload.length)) 8 4 = kind := by
      rw [bits_word _ _ _ (by omega)]
      omega
    simp [parseFrame, hd, hs, hk]

theorem exec_rxFrame (ws : List Word) (hheld : s.held = false) :
    exec (.rxFrame ws) s = .next ((s.took (.rxFrame ws)).runEnds ws) := by
  show execRxFrame ws s = _
  rw [execRxFrame]
  simp only [hheld, Bool.false_eq_true, if_false]
  exact taking_awake _ _ _ hheld

theorem State.runEnds_of_discard (ws : List Word) (h : s.ring.discard = true) :
    s.runEnds ws = s.setRing { s.ring with discard := false } := if_pos h

theorem State.runEnds_of_malformed (ws : List Word) (h : s.ring.discard = false) (hw : wellFormedRun ws = false) :
    s.runEnds ws = s.claimFlag .frameErr := by
  simp [State.runEnds, State.receive, h, hw]

theorem State.runEnds_of_badCheck (ws : List Word) (h : s.ring.discard = false) (hw : wellFormedRun ws = true)
    (hc : checkOk ws = false) : s.runEnds ws = s.claimFlag .ringCrc := by
  simp [State.runEnds, State.receive, h, hw, hc]

theorem State.runEnds_of_frame (ws : List Word) (h : s.ring.discard = false) (hw : wellFormedRun ws = true)
    (hc : checkOk ws = true) : s.runEnds ws = s.route (parseFrame ws) ws := by
  simp [State.runEnds, State.receive, h, hw, hc]

theorem State.route_of_broadcast (f : Frame) (ws : List Word) (h : f.src = 31) : s.route f ws = s.claimFlag .frameErr :=
  if_pos h

/-- Settles O11: the three tests of a run, in their order. -/
theorem faultyRunsAreDiscarded : Obligations.FaultyRunsAreDiscarded := by
  refine ⟨fun ws s hheld hd => ?_, fun ws s hheld hd => ⟨fun hw => ?_, fun hw => ⟨fun hc => ?_, fun hc hsrc => ?_⟩⟩,
    fun dst src kind payload => frameWords_reads dst src kind payload⟩
  all_goals rw [exec_rxFrame s ws hheld]
  · exact congrArg _ (State.runEnds_of_discard (s.took _) ws hd)
  · have hbad : wellFormedRun ws = false := Bool.eq_false_iff.2 fun h => hw ((wellFormedRun_iff ws).1 h)
    exact congrArg _ (State.runEnds_of_malformed (s.took _) ws hd hbad)
  · have hbad : checkOk ws = false := Bool.eq_false_iff.2 fun h => hc ((checkOk_iff ws).1 h)
    exact congrArg _ (State.runEnds_of_badCheck (s.took _) ws hd ((wellFormedRun_iff ws).2 hw) hbad)
  · rw [State.runEnds_of_frame (s.took _) ws hd ((wellFormedRun_iff ws).2 hw) ((checkOk_iff ws).2 hc)]
    exact congrArg _ (State.route_of_broadcast _ _ ws hsrc)

/-! ### Routing (R4) -/

/-- R4 step 3: a frame of the device's own. -/
theorem State.route_of_own (f : Frame) (ws : List Word) (h31 : f.src ≠ 31) (hsrc : f.src = s.answering) :
    s.route f ws = if f.kind = 1 then s.pollReturned f else s := by
  unfold State.route
  exact (if_neg h31).trans (if_pos hsrc)

/-- R4 step 4: a frame to the device. -/
theorem State.route_to_own (f : Frame) (ws : List Word) (h31 : f.src ≠ 31) (hsrc : f.src ≠ s.answering)
    (hdst : f.dst = s.answering) : s.route f ws = if f.kind = 4 then s.consume f else s.claimFlag .frameErr := by
  unfold State.route
  exact (if_neg h31).trans ((if_neg hsrc).trans (if_pos hdst))

/-- R4 steps 5–7: a frame to another address. -/
theorem State.route_of_other (f : Frame) (ws : List Word) (h31 : f.src ≠ 31) (hsrc : f.src ≠ s.answering)
    (hdst : f.dst ≠ s.answering) : s.route f ws =
      if f.dst = 31 ∧ f.kind = 2 ∧ f.payload.length ≠ 0 ∧ f.payload.length % 2 = 0 then s.broadcastSample f ws
      else if f.kind = 2 ∧ (f.payload.length = 0 ∨ f.payload.length % 2 = 1) then (s.forward ws).claimFlag .frameErr
      else s.forward ws := by
  unfold State.route
  exact (if_neg h31).trans ((if_neg hsrc).trans (if_neg hdst))

/-- R17: a POLL that returns closes the sweep it opened. -/
theorem State.pollReturned_closes (f : Frame) (n : Nat) (ho : s.ring.outstanding = some n) (hf : f.pollNumber = some n) :
    s.pollReturned f = (s.setRing { s.ring with outstanding := none, late := 0 }).post [.sweepClose n true] := by
  unfold State.pollReturned
  rw [ho]
  exact if_pos hf

theorem State.pollReturned_other (f : Frame) (h : ∀ n, s.ring.outstanding = some n → f.pollNumber ≠ some n) :
    s.pollReturned f = s := by
  unfold State.pollReturned
  split
  · rfl
  · next n hn => exact if_neg (h n hn)

theorem State.consume_eq (f : Frame) : s.consume f =
    if s.mu.queue.length < 8 then
      s.setMu { s.mu with queue := s.mu.queue ++ [{ src := f.src, payload := f.payload }] }
    else if s.ring.placeFree then
      s.setRing (s.ring.join (.mrsp f.src s.answering [f.payload.headD 0#16, 0x0200#16] false))
    else s.claimFlag .ringOvf := rfl

/-- Settles O12: the steps of R4, each by its own equation. -/
theorem routingTakesTheFirstStepThatFits : Obligations.RoutingTakesTheFirstStepThatFits := by
  intro ws s f u hheld hd hw hc hf hu h31
  subst hu
  have hroute : exec (.rxFrame ws) s = .next ((s.took (.rxFrame ws)).route f ws) := by
    rw [exec_rxFrame s ws hheld, State.runEnds_of_frame (s.took _) ws hd hw hc, hf]
  rw [hroute]
  generalize hu : s.took (.rxFrame ws) = u
  have hring : u.ring = s.ring := by rw [← hu]; rfl
  have hmu : u.mu = s.mu := by rw [← hu]; rfl
  have hans : u.answering = s.answering := by rw [← hu]; rfl
  rw [← hring, ← hmu, ← hans]
  refine ⟨fun hsrc hk => ?_, fun hsrc hk => ⟨fun n ho hn => ?_, fun hn => ?_⟩, fun hsrc hdst => ⟨fun hk => ?_,
    fun hk => ⟨fun hq => ?_, fun hq hfree => ?_, fun hq hfree => ?_⟩⟩, fun hsrc hdst => ⟨fun hk hlen => ?_, fun hk => ?_⟩⟩
  · rw [u.route_of_own f ws h31 hsrc, if_neg hk]
  · rw [u.route_of_own f ws h31 hsrc, if_pos hk, u.pollReturned_closes f n ho hn]
  · rw [u.route_of_own f ws h31 hsrc, if_pos hk, u.pollReturned_other f hn]
  · rw [u.route_to_own f ws h31 hsrc hdst, if_neg hk]
  · rw [u.route_to_own f ws h31 hsrc hdst, if_pos hk, u.consume_eq, if_pos hq]
  · rw [u.route_to_own f ws h31 hsrc hdst, if_pos hk, u.consume_eq, if_neg (by omega), if_pos hfree]
  · rw [u.route_to_own f ws h31 hsrc hdst, if_pos hk, u.consume_eq, if_neg (by omega), hfree]
    rfl
  · rw [u.route_of_other f ws h31 hsrc hdst, if_neg (by omega), if_pos ⟨hk, hlen⟩]
  · rw [u.route_of_other f ws h31 hsrc hdst, if_neg (by omega), if_neg (by omega)]

/-! ### The arbiter (R13, R14) -/

/-- What the grant is taken from: the note taken, the port free. -/
def State.portFreed (s : State) : State := (s.took .transmitGrant).setRing { s.ring with port := none }

theorem exec_transmitGrant (hheld : s.held = false) (hsoft : s.sendingSoft = false) : exec .transmitGrant s =
    .next s.portFreed.grant := by
  show execTransmitGrant s = _
  rw [execTransmitGrant, taking_awake s _ _ hheld]
  exact congrArg _ (if_neg (by rw [show (s.took .transmitGrant).sendingSoft = false from hsoft]; simp))

theorem State.grant_of_slot (p : Poll) (h : s.ring.slot = some p) :
    s.grant = (s.setRing { s.ring with slot := none }).send p.words false := by
  unfold State.grant
  rw [h]

theorem State.grant_of_forward (ws : List Word) (rest : List (List Word)) (hslot : s.ring.slot = none)
    (hf : s.ring.forward = ws :: rest) (hw : s.ring.origin = [] ∨ s.ring.headWait.getD 0 < s.grantDistance) :
    s.grant = s.grantForward ws rest := by
  unfold State.grant
  rw [hslot, hf]
  cases ho : s.ring.origin with
  | nil => rfl
  | cons f frest =>
    obtain hw | hw := hw
    · rw [ho] at hw
      cases hw
    · exact if_neg (Nat.not_le.2 hw)

theorem State.grant_of_origin (f : OriginFrame) (rest : List OriginFrame) (hslot : s.ring.slot = none)
    (ho : s.ring.origin = f :: rest) (hw : s.ring.forward = [] ∨ s.grantDistance ≤ s.ring.headWait.getD 0) :
    s.grant = s.grantOrigin f rest := by
  unfold State.grant
  rw [hslot, ho]
  cases hf : s.ring.forward with
  | nil => rfl
  | cons ws wrest =>
    obtain hw | hw := hw
    · rw [hf] at hw
      cases hw
    · exact if_pos hw

theorem State.grant_of_empty (hslot : s.ring.slot = none) (hf : s.ring.forward = []) (ho : s.ring.origin = []) :
    s.grant = s := by
  unfold State.grant
  rw [hslot, hf, ho]

/-- R12: the offers a place that frees makes. -/
theorem State.freedPosts_eq : s.freedPosts =
    (if (∃ r ∈ s.inter.rows ++ s.inter.leaving, r.dirty = true) then [.dirtyRowOffer] else []) ++
      (if s.mu.owed then [.noteOwedOffer] else []) := by
  have hdirty : (s.inter.rows.any (·.dirty) || s.inter.leaving.any (·.dirty)) = true ↔
      ∃ r ∈ s.inter.rows ++ s.inter.leaving, r.dirty = true := by
    rw [← List.any_append, List.any_eq_true]
  unfold State.freedPosts
  simp only [hdirty]

/-- A change of the ring, the lines and the posts only. -/
theorem State.Within.restore_ring {s t : State} (h : s.Within [.lines, .ring] t) :
    ((t.setRing s.ring).setLines s.lines).setPosts s.posts = s := by
  apply State.ext
  case lines => rfl
  case ring => rfl
  case posts => rfl
  case held => exact h.same .held (by simp)
  case trans => exact h.same .trans (by simp)
  case zones => exact h.same .zones (by simp)
  case alloc => exact h.same .alloc (by simp)
  case inter => exact h.same .inter (by simp)
  case dry => exact h.same .dry (by simp)
  case water => exact h.same .water (by simp)
  case cycles => exact h.same .cycles (by simp)
  case filters => exact h.same .filters (by simp)
  case banks => exact h.same .banks (by simp)
  case mu => exact h.same .mu (by simp)
  case rc => exact h.same .rc (by simp)
  case free => exact h.same .free (by simp)
  case subTick => exact h.same .subTick (by simp)
  case pending => exact h.same .pending (by simp)

theorem State.grantDistance_eq : s.grantDistance = if s.isLive then s.param 78 2 else 4 := rfl

/-- Settles O13: the four things the arbiter can come to. -/
theorem arbiterGrantsByWaitCount : Obligations.ArbiterGrantsByWaitCount := by
  intro s hheld hsoft
  have hgrant := exec_transmitGrant s hheld hsoft
  refine ⟨fun p hp => ?_, fun hslot => ⟨fun ws rest hf hw => ?_, fun f rest ho hw => ?_, fun hf ho => ?_⟩, fun t h => ?_⟩
  · rw [hgrant, State.grant_of_slot s.portFreed p hp]
    exact ⟨_, rfl, rfl, rfl, rfl⟩
  · rw [hgrant, State.grant_of_forward s.portFreed ws rest hslot hf hw]
    exact ⟨_, rfl, rfl, rfl, rfl⟩
  · rw [hgrant, State.grant_of_origin s.portFreed f rest hslot ho hw]
    refine ⟨_, rfl, ?_, rfl, ?_⟩
    · cases rest <;> rfl
    · rw [List.append_assoc, State.grantOrigin]
      exact congrArg (s.posts.erase .transmitGrant ++ ·) (State.freedPosts_eq _)
  · rw [hgrant, State.grant_of_empty s.portFreed hslot hf ho]
    exact ⟨_, rfl, rfl, rfl⟩
  · have h : (s.took .transmitGrant).Within [.lines, .ring] t := exec_within s h rfl
    exact (congrArg (State.setPosts · s.posts) h.restore_ring : _)

end Sys2Proof.Machine
end

section
/-! The sweeps follow the run level, the swap and SETUP (R8, R15). -/

namespace Sys2Proof.Machine
open State

variable (s : State)

theorem State.sweepsWanted_iff : s.sweepsWanted = true ↔
    s.isLive = true ∧ (s.ring.level = .active ∨ s.ring.level = .watch) ∧ s.lines.setup = false := by
  simp [State.sweepsWanted, and_assoc]

theorem State.evalSweeps_same (h : s.sweepsWanted = s.ring.enabled) : s.evalSweeps = s := by
  unfold State.evalSweeps
  rw [h]
  cases s.ring.enabled <;> rfl

theorem State.evalSweeps_start (hw : s.sweepsWanted = true) (he : s.ring.enabled = false) :
    s.evalSweeps = s.setRing { s.ring with enabled := true, timer := some s.sweepPeriod } := by
  unfold State.evalSweeps
  rw [hw, he]
  rfl

theorem State.evalSweeps_stop (hw : s.sweepsWanted = false) (he : s.ring.enabled = true) :
    s.evalSweeps = (s.setRing { s.ring with
      enabled := false, timer := none, slot := none, outstanding := none, late := 0 }).post [.sweepsDisabled] := by
  unfold State.evalSweeps
  rw [hw, he]
  rfl

/-- R8: SETUP high stops the sweeps; low lets them follow the level. -/
theorem State.setLines_sweepsWanted (x : Lines) : (s.setLines x).sweepsWanted = true ↔
    s.isLive = true ∧ (s.ring.level = .active ∨ s.ring.level = .watch) ∧ x.setup = false :=
  State.sweepsWanted_iff (s.setLines x)

/-- The device with SETUP at a level, the change taken. -/
def State.setupTaken (b : Bool) (s : State) : State :=
  (s.setLines { s.lines with setup := b }).took (.setupLineChange b)

theorem State.setupTaken_sweepsWanted (b : Bool) : (s.setupTaken b).sweepsWanted = true ↔
    s.isLive = true ∧ (s.ring.level = .active ∨ s.ring.level = .watch) ∧ b = false :=
  State.sweepsWanted_iff (s.setupTaken b)

theorem exec_setupLineChange (b : Bool) (hheld : s.held = false) :
    exec (.setupLineChange b) s = .next (s.setupTaken b).evalSweeps := by
  show execSetupLineChange b s = _
  rw [execSetupLineChange]
  simp only [hheld, Bool.false_eq_true, if_false]
  exact taking_awake _ _ _ hheld

/-- An evaluation of the sweeps changes the ring and the posts only. -/
theorem State.evalSweeps_frame : (s.evalSweeps.setRing s.ring).setPosts s.posts = s := by
  unfold State.evalSweeps
  split
  · rfl
  · split <;> rfl

theorem State.evalSweeps_own : s.evalSweeps.ring.own = s.ring.own := by
  unfold State.evalSweeps
  split
  · rfl
  · split <;> rfl

/-- R15: what an evaluation comes to, by whether sweeps are wanted and whether they are enabled. -/
theorem exec_eq_evalSweeps {c : Instr} {u : State} {on : Bool} (h : exec c s = .next u.evalSweeps)
    (hon : on = u.sweepsWanted) :
    (on = u.ring.enabled → exec c s = .next u) ∧
    (on = true → u.ring.enabled = false →
      exec c s = .next (u.setRing { u.ring with enabled := true, timer := some u.sweepPeriod })) ∧
    (on = false → u.ring.enabled = true → exec c s = .next ((u.setRing { u.ring with
      enabled := false, timer := none, slot := none, outstanding := none, late := 0 }).post [.sweepsDisabled])) := by
  subst hon
  rw [h]
  exact ⟨fun hs => congrArg _ (u.evalSweeps_same hs), fun hw he => congrArg _ (u.evalSweeps_start hw he),
    fun hw he => congrArg _ (u.evalSweeps_stop hw he)⟩

theorem State.setupTaken_period (b : Bool) : (s.setupTaken b).sweepPeriod =
    if s.ring.level = .watch then s.param 78 0 * s.param 78 1 else s.param 78 0 := by
  show s.param 78 0 * (if s.ring.level = .watch then s.param 78 1 else 1) = _
  split
  · rfl
  · exact Nat.mul_one _

/-- Settles O15: each of the three is one evaluation of the sweeps (R15). -/
theorem levelSwapAndSetupRuleSweeps : Obligations.LevelSwapAndSetupRuleSweeps := by
  constructor
  · intro s u v l on hheld hu hv hon
    have hlevel : exec (.ringRunLevelChange l) s = .next u.evalSweeps := by
      rw [hu]
      exact taking_awake s (.ringRunLevelChange l) (fun s => (s.setRing { s.ring with level := l }).evalSweeps) hheld
    have hswap : exec .ringSwapTaken s = .next v.evalSweeps := by
      rw [hv]
      exact taking_awake s _ _ hheld
    have hwant : on = u.sweepsWanted := by
      rw [Bool.eq_iff_iff, hon, State.sweepsWanted_iff, hu]
      rfl
    have hlevels := exec_eq_evalSweeps s hlevel hwant
    subst hu hv
    refine ⟨hlevels.1, hlevels.2.1, hlevels.2.2, fun hl => ?_⟩
    subst hl
    exact exec_eq_evalSweeps s hswap hwant
  · intro b s hheld
    refine ⟨_, exec_setupLineChange s b hheld, ?_⟩
    have hframe := (s.setupTaken b).evalSweeps_frame
    have hlines : (s.setupTaken b).evalSweeps.lines = { s.lines with setup := b } := congrArg State.lines hframe
    have hon (hb : b = false) (hrun : s.isLive = true ∧ (s.ring.level = .active ∨ s.ring.level = .watch)) :
        (s.setupTaken b).sweepsWanted = true := (s.setupTaken_sweepsWanted b).2 ⟨hrun.1, hrun.2, hb⟩
    have hoff (h : ¬ (b = false ∧ s.isLive = true ∧ (s.ring.level = .active ∨ s.ring.level = .watch))) :
        (s.setupTaken b).sweepsWanted = false :=
      Bool.eq_false_iff.2 fun hw => h (by
        obtain ⟨hlive, hlevel, hb⟩ := (s.setupTaken_sweepsWanted b).1 hw
        exact ⟨hb, hlive, hlevel⟩)
    have hsame (h : (s.setupTaken b).sweepsWanted = s.ring.enabled) : (s.setupTaken b).evalSweeps = s.setupTaken b :=
      State.evalSweeps_same _ h
    have hstart := (s.setupTaken b).evalSweeps_start
    have hstop := (s.setupTaken b).evalSweeps_stop
    refine ⟨hlines, ?_, fun hb he => ?_, fun hb he => ?_, fun hb hl hr he => ?_, fun hb hn he => ?_, fun h => ?_,
      fun hb he hl hr => ?_, ?_⟩
    case refine_1 =>
      rw [State.answering, hlines, State.evalSweeps_own]
      rfl
    case refine_2 =>
      rw [hstop (hoff fun h => by simp [hb] at h) he]
      exact ⟨rfl, rfl⟩
    case refine_3 => rw [hsame ((hoff fun h => by simp [hb] at h).trans he.symm)]; rfl
    case refine_4 => rw [hsame ((hon hb ⟨hl, hr⟩).trans he.symm)]; rfl
    case refine_5 => rw [hsame ((hoff fun h => hn h.2).trans he.symm)]; rfl
    case refine_6 =>
      cases he : s.ring.enabled with
      | false =>
        cases hw : (s.setupTaken b).sweepsWanted with
        | false => rw [hsame (hw.trans he.symm)]; rfl
        | true => rw [hstart hw he]; rfl
      | true =>
        have hrun := h.resolve_left (by simp [he])
        rw [hsame ((hon hrun.1 hrun.2).trans he.symm)]
        rfl
    case refine_7 =>
      rw [hstart (hon hb ⟨hl, hr⟩) he, State.setupTaken_period]
      rfl
    case refine_8 =>
      exact congrArg (fun u => (State.setLines u s.lines).setPosts (s.setupTaken b).evalSweeps.posts) hframe

end Sys2Proof.Machine
end

section
/-! The offers of the dirty rows and of the owed NOTE (R11, R12, R87, R177). -/

namespace Sys2Proof.Machine
open State

/-! ### One offer -/

/-- The row's ACT is queued with the row's commanded output. -/
def Ring.Holds (g : Ring) (r : Row) : Prop := ∃ a, .act r.dst a r.kind.function r.port r.commanded ∈ g.origin

/-- An ACT for the row's output is queued. -/
def Ring.hasRow (g : Ring) (r : Row) : Bool := g.hasAct r.dst r.kind.function r.port

theorem OriginFrame.isActFor_eq_true {dst fn port : Nat} {f : OriginFrame} (h : f.isActFor dst fn port = true) :
    ∃ a v, f = .act dst a fn port v := by
  cases f with
  | act d a k p v =>
    simp only [OriginFrame.isActFor, Bool.and_eq_true, beq_iff_eq] at h
    obtain ⟨⟨rfl, rfl⟩, rfl⟩ := h
    exact ⟨a, v, rfl⟩
  | mrsp => cases h
  | note => cases h

theorem OriginFrame.isActFor_withValue (dst fn port v : Nat) (f : OriginFrame) :
    (f.withValue v).isActFor dst fn port = f.isActFor dst fn port := by
  cases f <;> rfl

section offers
variable {g g' : Ring} {dst src fn port v : Nat}

theorem Ring.offerAct_eq_none (h : g.offerAct dst src fn port v = none) :
    g.placeFree = false ∧ g.hasAct dst fn port = false := by
  unfold Ring.offerAct at h
  split at h
  · cases h
  · next hact =>
    split at h
    · cases h
    · next hfree => exact ⟨Bool.eq_false_iff.2 hfree, Bool.eq_false_iff.2 hact⟩

theorem Ring.offerAct_mem (h : g.offerAct dst src fn port v = some g') : ∃ a, .act dst a fn port v ∈ g'.origin := by
  unfold Ring.offerAct at h
  split at h
  · next hact =>
    obtain ⟨f, hf, hfor⟩ := List.any_eq_true.1 hact
    obtain ⟨a, w, rfl⟩ := OriginFrame.isActFor_eq_true hfor
    cases h
    exact ⟨a, List.mem_map.2 ⟨_, hf, if_pos hfor⟩⟩
  · split at h
    · cases h
      exact ⟨src, List.mem_append_right _ (List.mem_singleton_self _)⟩
    · cases h

/-- R11: an offer leaves every ACT of another output as it stands. -/
theorem Ring.offerAct_other (h : g.offerAct dst src fn port v = some g') {f : OriginFrame} (hf : f ∈ g.origin)
    (hother : f.isActFor dst fn port = false) : f ∈ g'.origin := by
  unfold Ring.offerAct at h
  split at h
  · cases h
    exact List.mem_map.2 ⟨f, hf, if_neg (by simp [hother])⟩
  · split at h
    · cases h
      exact List.mem_append_left _ hf
    · cases h

/-- R11: in a full queue an offer can only merge, which adds no ACT. -/
theorem Ring.offerAct_full (h : g.offerAct dst src fn port v = some g') (hfull : g.placeFree = false) :
    g'.placeFree = false ∧ ∀ d k p, g'.hasAct d k p = g.hasAct d k p := by
  unfold Ring.offerAct at h
  rw [hfull] at h
  split at h
  · cases h
    constructor
    · rw [← hfull]
      simp [Ring.placeFree]
    · intro d k p
      rw [Ring.hasAct, Ring.hasAct, List.any_map]
      congr 1
      funext f
      simp only [Function.comp_apply]
      split
      · exact OriginFrame.isActFor_withValue d k p v f
      · rfl
  · cases h

end offers

section rows
variable {g : Ring} {src : Nat} {r : Row}

theorem Ring.offerRow_clean (h : r.dirty = false) : g.offerRow src r = (g, false) := by
  simp [Ring.offerRow, h]

/-- R87: a dirty row is taken, or finds neither a place nor an ACT. -/
theorem Ring.offerRow_dirty (h : r.dirty = true) :
    (∃ g', g.offerAct r.dst src r.kind.function r.port r.commanded = some g' ∧ g.offerRow src r = (g', true)) ∨
      g.offerRow src r = (g, false) ∧ g.placeFree = false ∧ g.hasRow r = false := by
  simp only [Ring.offerRow, h, if_true]
  cases ho : g.offerAct r.dst src r.kind.function r.port r.commanded with
  | none => exact Or.inr ⟨rfl, Ring.offerAct_eq_none ho⟩
  | some g' => exact Or.inl ⟨g', rfl, rfl⟩

theorem Ring.offerRow_full (hfull : g.placeFree = false) :
    (g.offerRow src r).1.placeFree = false ∧ ∀ x, (g.offerRow src r).1.hasRow x = g.hasRow x := by
  cases hd : r.dirty with
  | false =>
    rw [Ring.offerRow_clean hd]
    exact ⟨hfull, fun _ => rfl⟩
  | true =>
    obtain ⟨g', ho, heq⟩ | ⟨heq, -⟩ := g.offerRow_dirty (src := src) hd
    · rw [heq]
      exact ⟨(Ring.offerAct_full ho hfull).1, fun x => (Ring.offerAct_full ho hfull).2 _ _ _⟩
    · rw [heq]
      exact ⟨hfull, fun _ => rfl⟩

theorem Ring.offerRow_holds {x : Row} (h : g.Holds x) (hother : x.place ≠ r.place) : (g.offerRow src r).1.Holds x := by
  cases hd : r.dirty with
  | false =>
    rw [Ring.offerRow_clean hd]
    exact h
  | true =>
    obtain ⟨g', ho, heq⟩ | ⟨heq, -⟩ := g.offerRow_dirty (src := src) hd
    · rw [heq]
      obtain ⟨a, ha⟩ := h
      refine ⟨a, Ring.offerAct_other ho ha (Bool.eq_false_iff.2 fun hfor => hother ?_)⟩
      obtain ⟨b, w, hb⟩ := OriginFrame.isActFor_eq_true hfor
      injection hb with hdst _ hfn hport
      rw [Row.place, Row.place, hdst, hfn, hport]
    · rw [heq]
      exact h

/-! ### The offers of a list of rows -/

variable {rs : List Row}

theorem offerRows_cons_ring : (offerRows src g (r :: rs)).1 = (offerRows src (g.offerRow src r).1 rs).1 := rfl

theorem offerRows_cons_taken {g' : Ring} (h : g.offerRow src r = (g', true)) : (offerRows src g (r :: rs)).2 =
    { r with dirty := false, lastSent := g.lastBegin } :: (offerRows src g' rs).2 := by
  simp [offerRows, h]

theorem offerRows_cons_left (h : g.offerRow src r = (g, false)) :
    (offerRows src g (r :: rs)).2 = r :: (offerRows src g rs).2 := by
  simp [offerRows, h]

theorem offerRows_full (hfull : g.placeFree = false) :
    (offerRows src g rs).1.placeFree = false ∧ ∀ x, (offerRows src g rs).1.hasRow x = g.hasRow x := by
  induction rs generalizing g with
  | nil => exact ⟨hfull, fun _ => rfl⟩
  | cons r rs ih =>
    obtain ⟨hp, hx⟩ := g.offerRow_full (src := src) (r := r) hfull
    obtain ⟨hp', hx'⟩ := ih hp
    exact ⟨hp', fun x => (hx' x).trans (hx x)⟩

theorem offerRows_holds {x : Row} (h : g.Holds x) (hother : ∀ r ∈ rs, x.place ≠ r.place) :
    (offerRows src g rs).1.Holds x := by
  induction rs generalizing g with
  | nil => exact h
  | cons r rs ih =>
    exact ih (Ring.offerRow_holds h (hother r List.mem_cons_self)) fun y hy => hother y (List.mem_cons_of_mem _ hy)

theorem offerRows_lastBegin : (offerRows src g rs).1.lastBegin = g.lastBegin :=
  (congrArg Ring.lastBegin (offerRows_frame src rs g) : _)

theorem Ring.offerRow_lastBegin : (g.offerRow src r).1.lastBegin = g.lastBegin :=
  (congrArg Ring.lastBegin (Ring.offerRow_frame src g r) : _)

/-- R87: a row still dirty finds neither a place nor an ACT in the queue the offers leave. -/
theorem offerRows_left (h : r ∈ (offerRows src g rs).2) (hd : r.dirty = true) :
    (offerRows src g rs).1.placeFree = false ∧ (offerRows src g rs).1.hasRow r = false := by
  induction rs generalizing g with
  | nil => cases h
  | cons y rs ih =>
    obtain hc | hy := Bool.eq_false_or_eq_true y.dirty |>.symm
    · rw [offerRows_cons_left (Ring.offerRow_clean hc)] at h
      obtain rfl | h := List.mem_cons.1 h
      · rw [hd] at hc
        cases hc
      · rw [offerRows_cons_ring, Ring.offerRow_clean hc]
        exact ih h
    · obtain ⟨g', -, heq⟩ | ⟨heq, hfull, hnone⟩ := g.offerRow_dirty (src := src) hy
      · rw [offerRows_cons_taken heq] at h
        obtain rfl | h := List.mem_cons.1 h
        · cases hd
        · rw [offerRows_cons_ring, heq]
          exact ih h
      · rw [offerRows_cons_left heq] at h
        rw [offerRows_cons_ring, heq]
        obtain rfl | h := List.mem_cons.1 h
        · obtain ⟨hp, hx⟩ := offerRows_full (src := src) (rs := rs) hfull
          exact ⟨hp, (hx r).trans hnone⟩
        · exact ih h

theorem offerRows_clean (h : r ∈ rs) (hc : r.dirty = false) : r ∈ (offerRows src g rs).2 := by
  induction rs generalizing g with
  | nil => cases h
  | cons y rs ih =>
    obtain rfl | h := List.mem_cons.1 h
    · rw [offerRows_cons_left (Ring.offerRow_clean hc)]
      exact List.mem_cons_self
    · exact List.mem_cons_of_mem _ (ih h)

/-- R87: among rows of distinct outputs every dirty row is taken, its ACT queued, or stands as it was before a full queue. -/
theorem offerRows_dirty (hne : rs.Pairwise fun x y => x.place ≠ y.place) (h : r ∈ rs) (hd : r.dirty = true) :
    { r with dirty := false, lastSent := g.lastBegin } ∈ (offerRows src g rs).2 ∧ (offerRows src g rs).1.Holds r ∨
      r ∈ (offerRows src g rs).2 ∧ (offerRows src g rs).1.placeFree = false := by
  induction rs generalizing g with
  | nil => cases h
  | cons y rs ih =>
    obtain ⟨hhead, htail⟩ := List.pairwise_cons.1 hne
    obtain rfl | h := List.mem_cons.1 h
    · obtain ⟨g', ho, heq⟩ | ⟨heq, hfull, -⟩ := g.offerRow_dirty (src := src) hd
      · rw [offerRows_cons_taken heq, offerRows_cons_ring, heq]
        exact Or.inl ⟨List.mem_cons_self, offerRows_holds (Ring.offerAct_mem ho) hhead⟩
      · rw [offerRows_cons_left heq, offerRows_cons_ring, heq]
        exact Or.inr ⟨List.mem_cons_self, (offerRows_full hfull).1⟩
    · rw [← Ring.offerRow_lastBegin (g := g) (src := src) (r := y)]
      exact (ih htail h).imp (And.imp_left (List.mem_cons_of_mem _)) (And.imp_left (List.mem_cons_of_mem _))

end rows

/-! ### The offers of the device -/

variable (s : State)

theorem exec_dirtyRowOffer (hheld : s.held = false) : exec .dirtyRowOffer s = .next (s.took .dirtyRowOffer).offerDirty :=
  taking_awake s .dirtyRowOffer State.offerDirty hheld

/-- The queue after the leaving rows' offers. -/
def State.leavingOffered (s : State) : Ring × List Row := offerRows s.answering s.ring s.inter.leaving

/-- The queue after the rows' offers. -/
def State.rowsOffered (s : State) : Ring × List Row := offerRows s.answering s.leavingOffered.1 s.inter.rows

theorem State.offerDirty_eq : s.offerDirty = (s.setRing s.rowsOffered.1).setInter
    { s.inter with leaving := s.leavingOffered.2.filter (·.dirty), rows := s.rowsOffered.2 } := rfl

/-- R87: a row still dirty after the offers finds neither a place nor an ACT in the queue. -/
theorem State.offerDirty_left {r : Row} (h : r ∈ s.offerDirty.inter.rows ++ s.offerDirty.inter.leaving)
    (hd : r.dirty = true) : s.offerDirty.ring.placeFree = false ∧ s.offerDirty.ring.hasRow r = false := by
  obtain h | h := List.mem_append.1 h
  · exact offerRows_left h hd
  · obtain ⟨hfull, hnone⟩ := offerRows_left (List.mem_of_mem_filter h) hd
    obtain ⟨hp, hx⟩ := offerRows_full (src := s.answering) (rs := s.inter.rows) hfull
    exact ⟨hp, (hx r).trans hnone⟩

/-- R87: each dirty row of the table is taken, or stands before a full queue. -/
theorem State.offerDirty_rows (hne : s.inter.Distinct) {r : Row} (h : r ∈ s.inter.rows) (hd : r.dirty = true) :
    { r with dirty := false, lastSent := s.ring.lastBegin } ∈ s.offerDirty.inter.rows ∧ s.offerDirty.ring.Holds r ∨
      r ∈ s.offerDirty.inter.rows ∧ s.offerDirty.ring.placeFree = false := by
  have hne : s.inter.rows.Pairwise fun x y => x.place ≠ y.place := by
    rw [Interlock.Distinct, List.map_append] at hne
    exact (nodup_places_iff _).1 (List.nodup_append.1 hne).1
  have hlast : s.leavingOffered.1.lastBegin = s.ring.lastBegin := offerRows_lastBegin
  rw [← hlast]
  exact offerRows_dirty hne h hd

/-- R87, R89: each dirty leaving row is taken, and gone, or stands before a full queue. -/
theorem State.offerDirty_leaving (hne : s.inter.Distinct) {r : Row} (h : r ∈ s.inter.leaving) (hd : r.dirty = true) :
    s.offerDirty.ring.Holds r ∨ r ∈ s.offerDirty.inter.leaving ∧ s.offerDirty.ring.placeFree = false := by
  rw [Interlock.Distinct, List.map_append] at hne
  obtain ⟨-, hleaving, hapart⟩ := List.nodup_append.1 hne
  obtain ⟨-, hholds⟩ | ⟨hmem, hfull⟩ := offerRows_dirty (g := s.ring) (src := s.answering) ((nodup_places_iff _).1 hleaving) h hd
  · exact Or.inl (offerRows_holds hholds fun x hx =>
      (hapart _ (List.mem_map_of_mem hx) _ (List.mem_map_of_mem h)).symm)
  · exact Or.inr ⟨List.mem_filter.2 ⟨hmem, hd⟩, (offerRows_full hfull).1⟩

/-- R87: one dirty row that finds a place and no ACT to merge with joins the tail. -/
theorem State.offerDirty_single {r : Row} (hl : s.inter.leaving = []) (hr : s.inter.rows = [r]) (hd : r.dirty = true)
    (hfree : s.ring.placeFree = true) (hnone : s.ring.hasAct r.dst r.kind.function r.port = false) :
    s.offerDirty.ring = s.ring.join (.act r.dst s.answering r.kind.function r.port r.commanded) ∧
      s.offerDirty.inter.rows = [{ r with dirty := false, lastSent := s.ring.lastBegin }] := by
  have htaken : s.ring.offerRow s.answering r =
      (s.ring.join (.act r.dst s.answering r.kind.function r.port r.commanded), true) := by
    simp [Ring.offerRow, hd, Ring.offerAct, hnone, hfree]
  have hrows : s.rowsOffered = offerRows s.answering s.ring [r] := by
    rw [State.rowsOffered, State.leavingOffered, hl, hr]
    rfl
  rw [State.offerDirty_eq]
  constructor
  · show s.rowsOffered.1 = _
    rw [hrows, offerRows_cons_ring, htaken]
    rfl
  · show s.rowsOffered.2 = _
    rw [hrows, offerRows_cons_taken htaken]
    rfl

theorem State.offerDirty_frame :
    ({ s.offerDirty.ring with origin := s.ring.origin, headWait := s.ring.headWait } : Ring) = s.ring := by
  have hleaving := offerRows_frame s.answering s.inter.leaving s.ring
  have hrows := offerRows_frame s.answering s.inter.rows s.leavingOffered.1
  rw [← hleaving]
  exact (congrArg (fun g : Ring => { g with origin := s.ring.origin, headWait := s.ring.headWait }) hrows : _)

/-! ### The owed NOTE -/

theorem exec_noteOwedOffer (hheld : s.held = false) :
    exec .noteOwedOffer s = .next (s.took .noteOwedOffer).offerOwedNote :=
  taking_awake s .noteOwedOffer State.offerOwedNote hheld

/-- R177: a refreshed NOTE carries the record. -/
theorem Ring.refreshNote_note (g : Ring) (flags conditions : Word) (level : RunLevel) {f : OriginFrame}
    (h : f ∈ (g.refreshNote flags conditions level).origin) (hn : f.isNote = true) :
    ∃ d a, f = .note d a flags conditions level := by
  obtain ⟨x, -, rfl⟩ := List.mem_map.1 h
  cases x with
  | note d a _ _ _ => exact ⟨d, a, rfl⟩
  | act => cases hn
  | mrsp => cases hn

theorem State.offerOwedNote_clear (h : s.mu.owed = false) : s.offerOwedNote = s := by
  simp [State.offerOwedNote, h]

theorem State.offerOwedNote_refresh (h : s.mu.owed = true) (hnote : s.ring.hasNote = true) : s.offerOwedNote =
    (s.setRing (s.ring.refreshNote s.mu.flags s.mu.conditions s.mu.level)).setMu { s.mu with owed := false } := by
  simp [State.offerOwedNote, h, hnote]

theorem State.offerOwedNote_join (h : s.mu.owed = true) (hnote : s.ring.hasNote = false)
    (hfree : s.ring.placeFree = true) :
    s.offerOwedNote = (s.setRing (s.ring.join s.noteFrame)).setMu { s.mu with owed := false } := by
  simp [State.offerOwedNote, h, hnote, hfree]

theorem State.offerOwedNote_full (h : s.mu.owed = true) (hnote : s.ring.hasNote = false)
    (hfree : s.ring.placeFree = false) : s.offerOwedNote = s := by
  simp [State.offerOwedNote, h, hnote, hfree]

/-- Settles O16: the offers of the dirty rows, and those of the owed NOTE. -/
theorem waitingRowsAndOwedNoteAreOffered : Obligations.WaitingRowsAndOwedNoteAreOffered := by
  constructor
  · intro s hheld
    have hleft {r : Row} := (s.took .dirtyRowOffer).offerDirty_left (r := r)
    refine ⟨_, exec_dirtyRowOffer s hheld, ?_, fun r hr hd => hleft hr hd, fun hne => ⟨fun r hr hd => ?_, fun r hr hd => ?_⟩,
      fun r hr hc => offerRows_clean hr hc, fun r hl hr hd hfree hnone => ?_, ?_, rfl, rfl⟩
    · exact offerRows_rows _ _ _
    · exact (s.took .dirtyRowOffer).offerDirty_rows hne hr hd
    · exact (s.took .dirtyRowOffer).offerDirty_leaving hne hr hd
    · obtain ⟨hring, hrows⟩ := (s.took .dirtyRowOffer).offerDirty_single hl hr hd hfree hnone
      exact ⟨congrArg Ring.origin hring, hrows⟩
    · exact (s.took .dirtyRowOffer).offerDirty_frame
  · intro s u hheld hu
    have hoffer := exec_noteOwedOffer s hheld
    subst hu
    rw [hoffer]
    refine ⟨fun h => ?_, fun h hnote hfree => ?_, fun h hnote hfree => ?_, fun h hnote => ?_⟩
    · exact congrArg _ (State.offerOwedNote_clear _ h)
    · exact congrArg _ (State.offerOwedNote_join (s.took .noteOwedOffer) h hnote hfree)
    · exact congrArg _ (State.offerOwedNote_full _ h hnote hfree)
    · refine ⟨_, congrArg _ (State.offerOwedNote_refresh _ h hnote), rfl, ?_, fun f hf hn => ?_, rfl⟩
      · exact List.length_map _
      · exact Ring.refreshNote_note _ _ _ _ hf hn

end Sys2Proof.Machine
end

section
/-! How cycles are aborted (R126, R136–R138): the instances that end, their records, and what the engine then runs. -/

namespace Sys2Proof.Machine
open State

variable (s : State)

/-! ### Records -/

namespace CycleEngine

theorem setRecord_record_same (e : CycleEngine) (k : CycleKind) (r : OutcomeRecord) : (e.setRecord k r).record k = r := by
  cases k <;> rfl

theorem setRecord_record_other (e : CycleEngine) {k k' : CycleKind} (r : OutcomeRecord) (h : k' ≠ k) :
    (e.setRecord k r).record k' = e.record k' := by
  cases k <;> cases k' <;> first | rfl | exact absurd rfl h

/-- What the lines and the other blocks told the engine. -/
def settings (e : CycleEngine) : Bool × RunLevel × Bool := (e.door, e.level, e.tankHold)

theorem setRecord_settings (e : CycleEngine) (k : CycleKind) (r : OutcomeRecord) :
    (e.setRecord k r).settings = e.settings := by
  cases k <;> rfl

variable {e : CycleEngine} {c d : Cycle}

theorem Lawful.queue_ne_running (h : e.Lawful) (hd : d ∈ e.queue) (hc : e.running = some c) : d.kind ≠ c.kind := by
  have hnodup := h.kinds
  rw [CycleEngine.kinds, List.nodup_append, List.nodup_append] at hnodup
  exact hnodup.1.2.2 _ (List.mem_map_of_mem hd) _ (by rw [hc]; exact List.mem_singleton_self _)

theorem Lawful.queue_ne_suspended (h : e.Lawful) (hd : d ∈ e.queue) (hc : e.suspended = some c) : d.kind ≠ c.kind := by
  have hnodup := h.kinds
  rw [CycleEngine.kinds, List.nodup_append] at hnodup
  exact hnodup.2.2 _ (List.mem_append_left _ (List.mem_map_of_mem hd)) _ (by rw [hc]; exact List.mem_singleton_self _)

theorem Lawful.running_ne_suspended (h : e.Lawful) (hd : e.running = some d) (hc : e.suspended = some c) :
    d.kind ≠ c.kind := by
  have hnodup := h.kinds
  rw [CycleEngine.kinds, List.nodup_append] at hnodup
  exact hnodup.2.2 _ (List.mem_append_right _ (by rw [hd]; exact List.mem_singleton_self _)) _
    (by rw [hc]; exact List.mem_singleton_self _)

theorem Lawful.queue_nodup (h : e.Lawful) : (e.queue.map (·.kind)).Nodup := by
  have hnodup := h.kinds
  rw [CycleEngine.kinds, List.nodup_append, List.nodup_append] at hnodup
  exact hnodup.1.1

end CycleEngine

/-- R136.1: the record of an instance's end. -/
def State.endRecord (s : State) (c : Cycle) (o : CycleOutcome) : OutcomeRecord :=
  { outcome := o, endSweep := s.ring.lastBegin, completed := c.completed }

section ended
variable (c : Cycle) (planned : Bool) (o : CycleOutcome) (result : List (Option Curve))

theorem State.ended_record_same : (s.ended c planned o result).cycles.record c.kind = s.endRecord c o :=
  s.cycles.setRecord_record_same _ _

theorem State.ended_record_other {k : CycleKind} (h : k ≠ c.kind) :
    (s.ended c planned o result).cycles.record k = s.cycles.record k := s.cycles.setRecord_record_other _ h

theorem State.ended_settings : (s.ended c planned o result).cycles.settings = s.cycles.settings :=
  s.cycles.setRecord_settings _ _

end ended

/-! ### The settings stay -/

theorem State.run_settings (fresh : Bool) (c : Cycle) : (s.run fresh c).cycles.settings = s.cycles.settings := by
  unfold State.run
  split
  · split <;> rfl
  · split <;> rfl

theorem State.takeHighest_settings {fresh : Bool} {c : Cycle} {t : State} (h : s.takeHighest = some (fresh, c, t)) :
    t.cycles.settings = s.cycles.settings := by
  unfold State.takeHighest at h
  split at h
  · cases h
  · cases h
    rfl
  · cases h
    rfl
  · split at h
    · cases h
      rfl
    · cases h
      rfl

theorem State.pickLoop_settings (n : Nat) : (s.pickLoop n).cycles.settings = s.cycles.settings := by
  induction n generalizing s with
  | zero => rfl
  | succ n ih =>
    unfold State.pickLoop
    split
    · rfl
    · next fresh c t ht =>
      rw [← s.takeHighest_settings ht]
      unfold State.startPicked
      split
      · exact (ih _).trans (State.ended_settings _ _ _ _ _)
      · exact t.run_settings _ _

theorem State.pick_settings : s.pick.cycles.settings = s.cycles.settings := by
  unfold State.pick
  split
  · rfl
  · exact s.pickLoop_settings _

theorem State.endRunning_settings (c : Cycle) (o : CycleOutcome) (result : List (Option Curve)) :
    (s.endRunning c o result).cycles.settings = s.cycles.settings :=
  (State.pick_settings _).trans (State.ended_settings _ _ _ _ _)

theorem State.preempt_settings (k : CycleKind) : (s.preempt k).cycles.settings = s.cycles.settings := by
  unfold State.preempt
  split
  · rfl
  · split
    · split
      · exact State.pick_settings _
      · exact s.endRunning_settings _ _ _
    · rfl

theorem State.preemptTest_settings : s.preemptTest.cycles.settings = s.cycles.settings := by
  unfold State.preemptTest
  split
  · rfl
  · exact s.preempt_settings _

theorem State.abortRunning_settings (hit : CycleKind → Bool) (r : AbortReason) :
    (s.abortRunning hit r).cycles.settings = s.cycles.settings := by
  unfold State.abortRunning
  split
  · rfl
  · split
    · exact State.ended_settings _ _ _ _ _
    · rfl

theorem State.abortSuspended_settings (hit : CycleKind → Bool) (r : AbortReason) :
    (s.abortSuspended hit r).cycles.settings = s.cycles.settings := by
  unfold State.abortSuspended
  split
  · rfl
  · split
    · exact State.ended_settings _ _ _ _ _
    · rfl

/-- R138: queued instances that end CANCELLED, in order. -/
def State.cancel (cs : List Cycle) (s : State) : State := cs.foldl (fun t c => t.ended c false .cancelled []) s

theorem State.cancel_settings (cs : List Cycle) : (s.cancel cs).cycles.settings = s.cycles.settings := by
  induction cs generalizing s with
  | nil => rfl
  | cons c cs ih => exact (ih _).trans (State.ended_settings _ _ _ _ _)

theorem State.afterAborts_settings (before : Option Cycle) : (s.afterAborts before).cycles.settings = s.cycles.settings := by
  unfold State.afterAborts
  split
  · exact s.pick_settings
  · split
    · exact s.preemptTest_settings
    · rfl

theorem State.abortKinds_settings (hit : CycleKind → Bool) (r : AbortReason) :
    (s.abortKinds hit r).cycles.settings = s.cycles.settings :=
  (State.afterAborts_settings _ _).trans <| (State.cancel_settings _ _).trans <|
    (State.abortSuspended_settings _ hit r).trans (s.abortRunning_settings hit r)

/-! ### The instances that end -/

section aborts
variable (hit : CycleKind → Bool) (r : AbortReason)

/-- R138: the instances hit are out of their places, and nothing is picked yet. -/
def State.aborted (s : State) : State := ((s.abortRunning hit r).abortSuspended hit r).cancelQueued hit

/-- A place without the instance hit. -/
def spared (o : Option Cycle) : Option Cycle := o.filter fun c => !hit c.kind

theorem spared_hit {hit : CycleKind → Bool} {c : Cycle} (h : hit c.kind = true) : spared hit (some c) = none := by
  simp [spared, Option.filter, h]

theorem spared_kept {hit : CycleKind → Bool} {c : Cycle} (h : ¬ hit c.kind = true) : spared hit (some c) = some c := by
  simp [spared, Option.filter, h]

theorem State.cancel_places (cs : List Cycle) : (s.cancel cs).cycles.queue = s.cycles.queue ∧
    (s.cancel cs).cycles.running = s.cycles.running ∧ (s.cancel cs).cycles.suspended = s.cycles.suspended := by
  induction cs generalizing s with
  | nil => exact ⟨rfl, rfl, rfl⟩
  | cons c cs ih =>
    obtain ⟨hq, hr, hs⟩ := s.ended_places c false .cancelled []
    obtain ⟨hq', hr', hs'⟩ := ih (s.ended c false .cancelled [])
    exact ⟨hq'.trans hq, hr'.trans hr, hs'.trans hs⟩

theorem State.abortRunning_places : (s.abortRunning hit r).cycles.queue = s.cycles.queue ∧
    (s.abortRunning hit r).cycles.running = spared hit s.cycles.running ∧
    (s.abortRunning hit r).cycles.suspended = s.cycles.suspended := by
  unfold State.abortRunning
  split
  · next hc => exact ⟨rfl, by rw [hc]; rfl, rfl⟩
  · next c hc =>
    rw [hc]
    split
    · next hhit =>
      obtain ⟨hq, hr, hs⟩ := (s.setRunning none).ended_places c true (.aborted r) []
      exact ⟨hq, hr.trans (spared_hit hhit).symm, hs⟩
    · next hhit => exact ⟨rfl, hc.trans (spared_kept hhit).symm, rfl⟩

theorem State.abortSuspended_places : (s.abortSuspended hit r).cycles.queue = s.cycles.queue ∧
    (s.abortSuspended hit r).cycles.running = s.cycles.running ∧
    (s.abortSuspended hit r).cycles.suspended = spared hit s.cycles.suspended := by
  unfold State.abortSuspended
  split
  · next hc => exact ⟨rfl, rfl, by rw [hc]; rfl⟩
  · next c hc =>
    rw [hc]
    split
    · next hhit =>
      obtain ⟨hq, hr, hs⟩ := (s.setCycles { s.cycles with suspended := none }).ended_places c false (.aborted r) []
      exact ⟨hq, hr, hs.trans (spared_hit hhit).symm⟩
    · next hhit => exact ⟨rfl, rfl, hc.trans (spared_kept hhit).symm⟩

theorem State.aborted_places : (s.aborted hit r).cycles.queue = s.cycles.queue.filter (fun c => !hit c.kind) ∧
    (s.aborted hit r).cycles.running = spared hit s.cycles.running ∧
    (s.aborted hit r).cycles.suspended = spared hit s.cycles.suspended := by
  obtain ⟨hq, hr, hs⟩ := s.abortRunning_places hit r
  obtain ⟨hq', hr', hs'⟩ := (s.abortRunning hit r).abortSuspended_places hit r
  rw [hq] at hq'
  rw [hr] at hr'
  rw [hs] at hs'
  obtain ⟨hq'', hr'', hs''⟩ := State.cancel_places
    (((s.abortRunning hit r).abortSuspended hit r).setCycles { ((s.abortRunning hit r).abortSuspended hit r).cycles with
      queue := ((s.abortRunning hit r).abortSuspended hit r).cycles.queue.filter fun c => !hit c.kind })
    (((s.abortRunning hit r).abortSuspended hit r).cycles.queue.filter fun c => hit c.kind)
  exact ⟨hq''.trans (congrArg (List.filter fun c : Cycle => !hit c.kind) hq'), hr''.trans hr', hs''.trans hs'⟩

theorem State.cancel_record_other {k : CycleKind} (cs : List Cycle) (h : ∀ c ∈ cs, c.kind ≠ k) :
    (s.cancel cs).cycles.record k = s.cycles.record k := by
  induction cs generalizing s with
  | nil => rfl
  | cons c cs ih =>
    exact (ih _ fun x hx => h x (List.mem_cons_of_mem _ hx)).trans
      (s.ended_record_other _ _ _ _ (h c List.mem_cons_self).symm)

theorem State.cancel_record_mem {c : Cycle} (cs : List Cycle) (hnodup : (cs.map (·.kind)).Nodup) (h : c ∈ cs) :
    (s.cancel cs).cycles.record c.kind = s.endRecord c .cancelled := by
  induction cs generalizing s with
  | nil => cases h
  | cons x cs ih =>
    rw [List.map_cons, List.nodup_cons] at hnodup
    obtain ⟨hx, hcs⟩ := hnodup
    obtain rfl | h := List.mem_cons.1 h
    · exact (State.cancel_record_other _ cs fun y hy he => hx (List.mem_map.2 ⟨y, hy, he⟩)).trans
        (s.ended_record_same _ _ _ _)
    · exact ih (s.ended x false .cancelled []) hcs h

theorem State.abortRunning_record_other {k : CycleKind} (h : ∀ c, s.cycles.running = some c → c.kind ≠ k) :
    (s.abortRunning hit r).cycles.record k = s.cycles.record k := by
  unfold State.abortRunning
  split
  · rfl
  · next c hc =>
    split
    · exact State.ended_record_other _ c true _ _ (h c hc).symm
    · rfl

theorem State.abortSuspended_record_other {k : CycleKind} (h : ∀ c, s.cycles.suspended = some c → c.kind ≠ k) :
    (s.abortSuspended hit r).cycles.record k = s.cycles.record k := by
  unfold State.abortSuspended
  split
  · rfl
  · next c hc =>
    split
    · exact State.ended_record_other _ c false _ _ (h c hc).symm
    · rfl

theorem State.abortRunning_record {c : Cycle} (hc : s.cycles.running = some c) (hhit : hit c.kind = true) :
    (s.abortRunning hit r).cycles.record c.kind = s.endRecord c (.aborted r) := by
  simp only [State.abortRunning, hc, hhit, if_true]
  exact State.ended_record_same _ c true _ _

theorem State.abortSuspended_record {c : Cycle} (hc : s.cycles.suspended = some c) (hhit : hit c.kind = true) :
    (s.abortSuspended hit r).cycles.record c.kind = s.endRecord c (.aborted r) := by
  simp only [State.abortSuspended, hc, hhit, if_true]
  exact State.ended_record_same _ c false _ _

theorem State.cancelQueued_record_other {k : CycleKind} (h : ∀ c ∈ s.cycles.queue, c.kind ≠ k) :
    (s.cancelQueued hit).cycles.record k = s.cycles.record k :=
  State.cancel_record_other (s.setCycles { s.cycles with queue := s.cycles.queue.filter fun c => !hit c.kind }) _
    fun c hc => h c (List.mem_of_mem_filter hc)

theorem State.cancelQueued_record {c : Cycle} (hnodup : (s.cycles.queue.map (·.kind)).Nodup) (hc : c ∈ s.cycles.queue)
    (hhit : hit c.kind = true) : (s.cancelQueued hit).cycles.record c.kind = s.endRecord c .cancelled :=
  State.cancel_record_mem (s.setCycles { s.cycles with queue := s.cycles.queue.filter fun c => !hit c.kind }) _
    (hnodup.sublist (List.filter_sublist.map _)) (List.mem_filter.2 ⟨hc, hhit⟩)

theorem State.abortRunning_ring : (s.abortRunning hit r).ring = s.ring :=
  (s.abortRunning_within hit r).same .ring (by simp)

theorem State.abortSuspended_ring : (s.abortSuspended hit r).ring = s.ring :=
  (s.abortSuspended_within hit r).same .ring (by simp)

variable {s}

/-- R138: a running instance hit leaves the record of its abort. -/
theorem State.aborted_running (h : s.cycles.Lawful) {c : Cycle} (hc : s.cycles.running = some c) (hhit : hit c.kind = true) :
    (s.aborted hit r).cycles.record c.kind = s.endRecord c (.aborted r) := by
  obtain ⟨hq, -, hs⟩ := s.abortRunning_places hit r
  obtain ⟨hq', -, -⟩ := (s.abortRunning hit r).abortSuspended_places hit r
  rw [State.aborted, State.cancelQueued_record_other, State.abortSuspended_record_other, s.abortRunning_record hit r hc hhit]
  · rw [hs]
    exact fun d hd => (h.running_ne_suspended hc hd).symm
  · rw [hq', hq]
    exact fun d hd => h.queue_ne_running hd hc

/-- R138: a suspended instance hit leaves the record of its abort. -/
theorem State.aborted_suspended (h : s.cycles.Lawful) {c : Cycle} (hc : s.cycles.suspended = some c)
    (hhit : hit c.kind = true) : (s.aborted hit r).cycles.record c.kind = s.endRecord c (.aborted r) := by
  obtain ⟨hq, -, hs⟩ := s.abortRunning_places hit r
  obtain ⟨hq', -, -⟩ := (s.abortRunning hit r).abortSuspended_places hit r
  rw [State.aborted, State.cancelQueued_record_other, State.abortSuspended_record _ hit r (hs.trans hc) hhit]
  · rw [State.endRecord, State.endRecord, State.abortRunning_ring]
  · rw [hq', hq]
    exact fun d hd => h.queue_ne_suspended hd hc

/-- R138: a queued instance hit leaves the record of its cancellation. -/
theorem State.aborted_queued (h : s.cycles.Lawful) {c : Cycle} (hc : c ∈ s.cycles.queue) (hhit : hit c.kind = true) :
    (s.aborted hit r).cycles.record c.kind = s.endRecord c .cancelled := by
  obtain ⟨hq, -, -⟩ := s.abortRunning_places hit r
  obtain ⟨hq', -, -⟩ := (s.abortRunning hit r).abortSuspended_places hit r
  rw [hq] at hq'
  rw [State.aborted, State.cancelQueued_record _ hit (by rw [hq']; exact h.queue_nodup) (by rw [hq']; exact hc) hhit,
    State.endRecord, State.endRecord, State.abortSuspended_ring, State.abortRunning_ring]

end aborts

end Sys2Proof.Machine
end

section
/-! What the engine runs after aborts that leave PUMP-OUT alone, and the run level (R126, R127, R138). -/

namespace Sys2Proof.Machine
open State

variable (s : State)

/-! ### An engine with PUMP-OUT alone -/

/-- Every instance present is a PUMP-OUT. -/
def CycleEngine.OnlyPump (e : CycleEngine) : Prop := ∀ k ∈ e.kinds, k = .pumpOut

theorem CycleEngine.mem_kinds (e : CycleEngine) (k : CycleKind) : k ∈ e.kinds ↔
    (∃ c ∈ e.queue, c.kind = k) ∨ (∃ c, e.running = some c ∧ c.kind = k) ∨ ∃ c, e.suspended = some c ∧ c.kind = k := by
  simp [CycleEngine.kinds]

theorem CycleEngine.onlyPump_iff (e : CycleEngine) : e.OnlyPump ↔ (∀ c ∈ e.queue, c.kind = .pumpOut) ∧
    (∀ c, e.running = some c → c.kind = .pumpOut) ∧ ∀ c, e.suspended = some c → c.kind = .pumpOut := by
  constructor
  · intro h
    exact ⟨fun c hc => h _ ((e.mem_kinds _).2 (.inl ⟨c, hc, rfl⟩)),
      fun c hc => h _ ((e.mem_kinds _).2 (.inr (.inl ⟨c, hc, rfl⟩))),
      fun c hc => h _ ((e.mem_kinds _).2 (.inr (.inr ⟨c, hc, rfl⟩)))⟩
  · rintro ⟨hq, hr, hs⟩ k hk
    obtain ⟨c, hc, rfl⟩ | ⟨c, hc, rfl⟩ | ⟨c, hc, rfl⟩ := (e.mem_kinds k).1 hk
    · exact hq c hc
    · exact hr c hc
    · exact hs c hc

/-- R127, R130: a PUMP-OUT that is picked runs: no check ends it. -/
theorem State.startPicked_pump (fresh : Bool) {c : Cycle} (hk : c.kind = .pumpOut) :
    s.startPicked fresh c = (s.beginStep (if fresh then s.started c else c), true) := by
  have hresumed : s.resumed c = c := by simp [State.resumed, hk]
  have hkind : (if fresh then s.started c else c).kind = .pumpOut := by
    cases fresh
    · exact hk
    · exact (s.started_fits c).1.trans hk
  have hlaunch : s.launch fresh c = .runs (if fresh then s.started c else c) := by
    simp [State.launch, hk, hresumed]
  simp [State.startPicked, hlaunch, State.run, hkind]

theorem State.takeHighest_onlyPump {fresh : Bool} {c : Cycle} {t : State} (ht : s.takeHighest = some (fresh, c, t))
    (h : s.cycles.OnlyPump) : c.kind = .pumpOut ∧ (∀ d ∈ t.cycles.queue, d.kind = .pumpOut) ∧
      (∀ d, t.cycles.suspended = some d → d.kind = .pumpOut) ∧ ∀ k, t.cycles.record k = s.cycles.record k := by
  obtain ⟨hq, -, hs⟩ := s.cycles.onlyPump_iff.1 h
  have hrest {x : Cycle} {rest : List Cycle} (e : s.cycles.queue = x :: rest) :
      x.kind = .pumpOut ∧ ∀ d ∈ rest, d.kind = .pumpOut := by
    rw [e] at hq
    exact ⟨hq x List.mem_cons_self, fun d hd => hq d (List.mem_cons_of_mem _ hd)⟩
  have hrecord : ∀ k, s.cycles.record k = s.cycles.record k := fun _ => rfl
  unfold State.takeHighest at ht
  split at ht
  · cases ht
  · next e _ =>
    cases ht
    exact ⟨(hrest e).1, (hrest e).2, hs, fun k => by cases k <;> rfl⟩
  · next e =>
    cases ht
    exact ⟨hs _ e, hq, fun _ k => (nomatch k), fun k => by cases k <;> rfl⟩
  · next e e' =>
    split at ht
    · cases ht
      exact ⟨hs _ e', hq, fun _ k => (nomatch k), fun k => by cases k <;> rfl⟩
    · cases ht
      exact ⟨(hrest e).1, (hrest e).2, hs, fun k => by cases k <;> rfl⟩

theorem State.pick_onlyPump (h : s.cycles.OnlyPump) :
    s.pick.cycles.OnlyPump ∧ ∀ k, s.pick.cycles.record k = s.cycles.record k := by
  unfold State.pick
  split
  · exact ⟨h, fun _ => rfl⟩
  · unfold State.pickLoop
    split
    · exact ⟨h, fun _ => rfl⟩
    · next fresh c t ht =>
      obtain ⟨hk, hq, hs, hrecord⟩ := s.takeHighest_onlyPump ht h
      rw [t.startPicked_pump fresh hk]
      constructor
      · rw [CycleEngine.onlyPump_iff]
        refine ⟨hq, fun d hd => ?_, hs⟩
        cases hd
        cases fresh
        · exact hk
        · exact (t.started_fits c).1.trans hk
      · intro k
        rw [← hrecord k]
        cases k <;> rfl

theorem State.pick_empty (hq : s.cycles.queue = []) (hs : s.cycles.suspended = none) : s.pick = s := by
  simp [State.pick, State.pickLoop, State.takeHighest, hq, hs]

/-- R126: a running PUMP-OUT is not preempted. -/
theorem State.preemptTest_pump {c : Cycle} (hc : s.cycles.running = some c) (hk : c.kind = .pumpOut) :
    s.preemptTest = s := by
  unfold State.preemptTest
  split
  · rfl
  · simp [State.preempt, hc, hk, suspendable]

theorem State.afterAborts_running {c : Cycle} (before : Option Cycle) (hc : s.cycles.running = some c)
    (hk : c.kind = .pumpOut) : s.afterAborts before = s := by
  simp [State.afterAborts, hc, s.preemptTest_pump hc hk]

theorem State.afterAborts_onlyPump (before : Option Cycle) (h : s.cycles.OnlyPump) :
    (s.afterAborts before).cycles.OnlyPump ∧ ∀ k, (s.afterAborts before).cycles.record k = s.cycles.record k := by
  cases hc : s.cycles.running with
  | none =>
    simp only [State.afterAborts, hc, Option.isNone_none, if_true]
    exact s.pick_onlyPump h
  | some c =>
    rw [s.afterAborts_running before hc ((s.cycles.onlyPump_iff.1 h).2.1 c hc)]
    exact ⟨h, fun _ => rfl⟩

/-! ### Aborts that leave PUMP-OUT alone -/

section aborts
variable (hit : CycleKind → Bool) (r : AbortReason)

/-- The kinds hit are every kind but, perhaps, PUMP-OUT. -/
def SparesPump (hit : CycleKind → Bool) : Prop := ∀ k, hit k = false → k = .pumpOut

theorem airKinds_spares : SparesPump airKinds := by
  intro k
  cases k <;> simp [airKinds]

theorem airKinds_of_ne {k : CycleKind} (h : k ≠ .pumpOut) : airKinds k = true := by
  cases k <;> simp_all [airKinds]

theorem spared_eq_some {hit : CycleKind → Bool} {o : Option Cycle} {c : Cycle} (h : spared hit o = some c) :
    o = some c ∧ hit c.kind = false := by
  obtain ⟨ho, hc⟩ := Option.filter_eq_some_iff.1 h
  exact ⟨ho, by simpa using hc⟩

variable {hit} (hall : SparesPump hit)
include hall

theorem State.aborted_onlyPump : (s.aborted hit r).cycles.OnlyPump := by
  obtain ⟨hq, hr, hs⟩ := s.aborted_places hit r
  rw [CycleEngine.onlyPump_iff, hq, hr, hs]
  exact ⟨fun c hc => hall _ (by simpa using (List.mem_filter.1 hc).2), fun c hc => hall _ (spared_eq_some hc).2,
    fun c hc => hall _ (spared_eq_some hc).2⟩

theorem State.abortKinds_onlyPump : (s.abortKinds hit r).cycles.OnlyPump :=
  (State.afterAborts_onlyPump (s.aborted hit r) _ (s.aborted_onlyPump r hall)).1

theorem State.abortKinds_record (k : CycleKind) :
    (s.abortKinds hit r).cycles.record k = (s.aborted hit r).cycles.record k :=
  (State.afterAborts_onlyPump (s.aborted hit r) _ (s.aborted_onlyPump r hall)).2 k

variable {s}

/-- R138: a running or suspended instance hit ends ABORTED. -/
theorem State.abortKinds_aborted (h : s.cycles.Lawful) {c : Cycle}
    (hc : s.cycles.running = some c ∨ s.cycles.suspended = some c) (hhit : hit c.kind = true) :
    (s.abortKinds hit r).cycles.record c.kind = s.endRecord c (.aborted r) := by
  rw [s.abortKinds_record r hall]
  obtain hc | hc := hc
  · exact State.aborted_running hit r h hc hhit
  · exact State.aborted_suspended hit r h hc hhit

/-- R138: a queued instance hit is CANCELLED. -/
theorem State.abortKinds_cancelled (h : s.cycles.Lawful) {c : Cycle} (hc : c ∈ s.cycles.queue) (hhit : hit c.kind = true) :
    (s.abortKinds hit r).cycles.record c.kind = s.endRecord c .cancelled := by
  rw [s.abortKinds_record r hall]
  exact State.aborted_queued hit r h hc hhit

/-- R138: a running instance that is not hit runs on. -/
theorem State.abortKinds_running {c : Cycle} (hc : s.cycles.running = some c) (hhit : hit c.kind = false) :
    (s.abortKinds hit r).cycles.running = some c := by
  have hr : (s.aborted hit r).cycles.running = some c := by
    rw [(s.aborted_places hit r).2.1, hc]
    exact spared_kept (by simp [hhit])
  exact (congrArg (fun t : State => t.cycles.running) ((s.aborted hit r).afterAborts_running _ hr (hall _ hhit))).trans hr

omit hall

omit hall in
/-- R138: aborts that hit every kind leave none. -/
theorem State.abortKinds_all : (s.abortKinds (fun _ => true) r).cycles.kinds = [] := by
  obtain ⟨hq, hr, hs⟩ := s.aborted_places (fun _ => true) r
  have hq : (s.aborted (fun _ => true) r).cycles.queue = [] := by simpa using hq
  have hr : (s.aborted (fun _ => true) r).cycles.running = none := by
    rw [hr]
    exact Option.filter_eq_none_iff.2 fun _ _ => by simp
  have hs : (s.aborted (fun _ => true) r).cycles.suspended = none := by
    rw [hs]
    exact Option.filter_eq_none_iff.2 fun _ _ => by simp
  have hpick : s.abortKinds (fun _ => true) r = s.aborted (fun _ => true) r :=
    Eq.trans (if_pos (Option.isNone_iff_eq_none.2 hr)) (State.pick_empty _ hq hs)
  simp [hpick, CycleEngine.kinds, hq, hr, hs]

/-- R136.2: the running instance that ends releases its plan. -/
theorem State.abortKinds_release {c : Cycle} (hc : s.cycles.running = some c) (hhit : hit c.kind = true) :
    .planRelease ∈ (s.abortKinds hit r).posts := by
  have hrun : .planRelease ∈ (s.abortRunning hit r).posts := by
    simp only [State.abortRunning, hc, hhit, if_true]
    simp [State.ended]
  have hrest : (s.abortRunning hit r).Within [.cycles] (s.abortKinds hit r) :=
    (((State.abortSuspended_within _ hit r).setCycles (by simp)).trans (State.cancel_within _ _) (by simp)).trans
      (State.afterAborts_within _ _) (by simp)
  exact hrest.posts hrun

end aborts

/-! ### Refusals and the queued PUMP-OUT -/

/-- R125.1: when a request is not refused. -/
theorem State.cycleRefusal_eq_none (k : CycleKind) : s.cycleRefusal k = none ↔ s.isLive = true ∧
    (if k = .pumpOut then s.water.pumpFault = false ∧ s.cycles.level ≠ .unconfigured ∧ s.cycles.level ≠ .halt ∧
        s.pumpFitted = true
      else s.cycles.level = .active ∧ s.cycles.door = false) := by
  unfold State.cycleRefusal
  split
  · cases s.water.pumpFault with
    | true => simp
    | false => simp
  · simp

theorem State.pumpFitted_iff : s.pumpFitted = true ↔ s.isLive = true ∧ s.param 75 7 = 1 := by
  simp [State.pumpFitted]

/-- R127: the free engine starts the PUMP-OUT at the head of its queue. -/
theorem State.pick_pump {c : Cycle} {rest : List Cycle} (hfree : s.cycles.running = none)
    (hs : s.cycles.suspended = none) (hq : s.cycles.queue = c :: rest) (hk : c.kind = .pumpOut) :
    s.pick = (s.setCycles { s.cycles with queue := rest }).beginStep (s.started c) := by
  have ht : s.takeHighest = some (true, c, s.setCycles { s.cycles with queue := rest }) := by
    simp [State.takeHighest, hq, hs]
  simp only [State.pick, hfree, Option.isSome_none, Bool.false_eq_true, if_false, State.pickLoop, ht]
  rw [State.startPicked_pump _ true hk]
  rfl

theorem State.started_pump {c : Cycle} (hk : c.kind = .pumpOut) : s.started c =
    { c with step := .prime, cycleTimer := some (s.param 77 4), flowTime := s.param 77 3 } := by
  simp [State.started, hk]

/-- A change of the cycles and the posts only. -/
theorem State.Within.restore_cycles {s t : State} (h : s.Within [.cycles] t) :
    (t.setCycles s.cycles).setPosts s.posts = s := by
  apply State.ext
  case cycles => rfl
  case posts => rfl
  case lines => exact h.same .lines (by simp)
  case ring => exact h.same .ring (by simp)
  case held => exact h.same .held (by simp)
  case trans => exact h.same .trans (by simp)
  case zones => exact h.same .zones (by simp)
  case alloc => exact h.same .alloc (by simp)
  case inter => exact h.same .inter (by simp)
  case dry => exact h.same .dry (by simp)
  case water => exact h.same .water (by simp)
  case filters => exact h.same .filters (by simp)
  case banks => exact h.same .banks (by simp)
  case mu => exact h.same .mu (by simp)
  case rc => exact h.same .rc (by simp)
  case free => exact h.same .free (by simp)
  case subTick => exact h.same .subTick (by simp)
  case pending => exact h.same .pending (by simp)

theorem State.aborted_within (hit : CycleKind → Bool) (r : AbortReason) : s.Within [.cycles] (s.aborted hit r) :=
  (((s.abortRunning_within hit r).trans (State.abortSuspended_within _ hit r) (by simp)).setCycles (by simp)).trans
    (State.cancel_within _ _) (by simp)

/-- R127, R138: after aborts that hit all but PUMP-OUT, a PUMP-OUT in the queue starts. -/
theorem State.abortKinds_startsPump {s : State} (r : AbortReason) (h : s.cycles.Lawful) {c : Cycle}
    (hc : c ∈ s.cycles.queue) (hk : c.kind = .pumpOut) :
    ∃ d, (s.abortKinds airKinds r).cycles.running = some d ∧ d.kind = .pumpOut ∧ d.step = .prime ∧
      d.cycleTimer = some (s.param 77 4) ∧
      .cyclePlan .pumpOut [{ target := .pump, value := 1 }] ∈ (s.abortKinds airKinds r).posts := by
  obtain ⟨hq, hr, hs⟩ := s.aborted_places airKinds r
  have hfree : (s.aborted airKinds r).cycles.running = none := by
    rw [hr]
    cases hrun : s.cycles.running with
    | none => rfl
    | some x => exact spared_hit (by
        have := h.queue_ne_running hc hrun
        rw [hk] at this
        cases hx : x.kind <;> simp_all [airKinds])
  have hnone : (s.aborted airKinds r).cycles.suspended = none := by
    rw [hs]
    cases hsus : s.cycles.suspended with
    | none => rfl
    | some x => exact spared_hit (by obtain hx | hx := h.suspended x hsus <;> rw [hx] <;> rfl)
  obtain ⟨x, rest, hqueue⟩ : ∃ x rest, (s.aborted airKinds r).cycles.queue = x :: rest := by
    have hmem : c ∈ (s.aborted airKinds r).cycles.queue := by
      rw [hq]
      exact List.mem_filter.2 ⟨hc, by rw [hk]; rfl⟩
    exact List.exists_cons_of_ne_nil (List.ne_nil_of_mem hmem)
  have hx : x.kind = .pumpOut := by
    refine ((s.aborted airKinds r).cycles.onlyPump_iff.1 (s.aborted_onlyPump r airKinds_spares)).1 x ?_
    rw [hqueue]
    exact List.mem_cons_self
  have hpick : s.abortKinds airKinds r = ((s.aborted airKinds r).setCycles
      { (s.aborted airKinds r).cycles with queue := rest }).beginStep ((s.aborted airKinds r).started x) := by
    refine Eq.trans ?_ ((s.aborted airKinds r).pick_pump hfree hnone hqueue hx)
    exact if_pos (by rw [State.aborted] at hfree; rw [hfree]; rfl)
  have hparam : (s.aborted airKinds r).param 77 4 = s.param 77 4 :=
    congrArg (fun b : Banks => (b.liveWord 77 4).toNat) ((s.aborted_within airKinds r).same .banks (by simp))
  rw [hpick, State.started_pump _ hx, hparam]
  refine ⟨_, rfl, hx, rfl, rfl, ?_⟩
  rw [← hx]
  exact List.mem_append_right _ (List.mem_singleton_self _)

/-! ### The run level -/

theorem exec_cycleRunLevelChange (l : RunLevel) (hheld : s.held = false) :
    exec (.cycleRunLevelChange l) s = .next ((s.took (.cycleRunLevelChange l)).cycleLevel l) :=
  taking_awake s (.cycleRunLevelChange l) (State.cycleLevel l) hheld

/-- The device with the level taken by the Cycle Engine. -/
def State.levelTaken (l : RunLevel) (s : State) : State :=
  (s.took (.cycleRunLevelChange l)).setCycles { s.cycles with level := l }

theorem State.cycleLevel_halt (h : s.cycles.level ≠ .halt) :
    (s.took (.cycleRunLevelChange .halt)).cycleLevel .halt = (s.levelTaken .halt).abortKinds (fun _ => true) .runLevel :=
  if_neg h

theorem State.cycleLevel_watch (h : s.cycles.level ≠ .watch) :
    (s.took (.cycleRunLevelChange .watch)).cycleLevel .watch = (s.levelTaken .watch).abortKinds airKinds .runLevel :=
  if_neg h

theorem State.cycleLevel_other (l : RunLevel) (hl : l = .active ∨ l = .unconfigured) (h : s.cycles.level ≠ l) :
    (s.took (.cycleRunLevelChange l)).cycleLevel l = s.levelTaken l := by
  refine (if_neg h).trans ?_
  obtain rfl | rfl := hl <;> rfl

theorem everyKind_spares : SparesPump fun _ => true := fun _ h => nomatch h

/-- Settles O42: HALT hits every kind, WATCH every kind but PUMP-OUT, and the other levels none. -/
theorem runLevelEndsCycles : Obligations.RunLevelEndsCycles := by
  intro s l hheld hlaw hlevel
  rw [State.cycleLaw_iff] at hlaw
  have hlaw : (s.levelTaken l).cycles.Lawful := hlaw.of_places rfl rfl rfl
  have hexec := exec_cycleRunLevelChange s l hheld
  have hframe {t : State} (ht : exec (.cycleRunLevelChange l) s = .next t) : (t.setCycles s.cycles).setPosts s.posts = s := by
    have hw : (s.took (.cycleRunLevelChange l)).Within [.cycles] t := exec_within s ht rfl
    exact (congrArg (State.setPosts · s.posts) hw.restore_cycles : _)
  cases l with
  | active =>
    rw [s.cycleLevel_other .active (.inl rfl) hlevel] at hexec
    exact ⟨_, hexec, rfl, hframe hexec, nofun, nofun, nofun, fun _ => rfl, fun _ _ h => by simp at h, fun _ _ h => by simp at h⟩
  | unconfigured =>
    rw [s.cycleLevel_other .unconfigured (.inr rfl) hlevel] at hexec
    exact ⟨_, hexec, rfl, hframe hexec, nofun, nofun, nofun, fun _ => rfl, fun _ _ h => by simp at h, fun _ _ h => by simp at h⟩
  | halt =>
    rw [s.cycleLevel_halt hlevel] at hexec
    have hset := (s.levelTaken .halt).abortKinds_settings (fun _ => true) .runLevel
    refine ⟨_, hexec, congrArg (·.2.1) hset, hframe hexec, fun _ => ?_, nofun, nofun, fun h => by simp at h,
      fun c hc _ => State.abortKinds_aborted _ everyKind_spares hlaw hc rfl,
      fun c hc _ => State.abortKinds_cancelled _ everyKind_spares hlaw hc rfl⟩
    exact (s.levelTaken .halt).abortKinds_all .runLevel
  | watch =>
    rw [s.cycleLevel_watch hlevel] at hexec
    have hset := (s.levelTaken .watch).abortKinds_settings airKinds .runLevel
    have hlevel' := congrArg (·.2.1) hset
    have hhit {c : Cycle} (h : (RunLevel.watch = .halt ∨ RunLevel.watch = .watch ∧ c.kind ≠ .pumpOut)) :
        airKinds c.kind = true := airKinds_of_ne (by simpa using h)
    have hw := (s.levelTaken .watch).abortKinds_within airKinds .runLevel
    refine ⟨_, hexec, hlevel', hframe hexec, nofun, fun _ => State.abortKinds_onlyPump _ _ airKinds_spares,
      fun _ => ⟨fun c hc hk => State.abortKinds_running _ airKinds_spares hc (by rw [hk]; rfl),
        fun ⟨c, hc, hk⟩ => State.abortKinds_startsPump _ hlaw hc hk, ?_⟩, fun h => by simp at h,
      fun c hc h => State.abortKinds_aborted _ airKinds_spares hlaw hc (hhit h),
      fun c hc h => State.abortKinds_cancelled _ airKinds_spares hlaw hc (hhit h)⟩
    obtain ⟨t, ht⟩ : ∃ t, t = (s.levelTaken .watch).abortKinds airKinds .runLevel := ⟨_, rfl⟩
    rw [← ht] at hw hlevel' ⊢
    have hlive : t.isLive = s.isLive := congrArg (fun b : Banks => b.live.isSome) (hw.same .banks (by simp))
    have hparam : t.param 75 7 = s.param 75 7 :=
      congrArg (fun b : Banks => (b.liveWord 75 7).toNat) (hw.same .banks (by simp))
    have hwater : t.water = s.water := hw.same .water (by simp)
    rw [State.cycleRefusal_eq_none, if_pos rfl, State.pumpFitted_iff, hlive, hparam, hwater,
      show t.cycles.level = .watch from hlevel']
    simp
    tauto

end Sys2Proof.Machine
end

section
/-! The DOOR line (R72, R80, R138, R150). -/

namespace Sys2Proof.Machine
open State

variable (s : State)

/-! ### The interlock and the filters at a change -/

theorem Inhibits.set_of_get {i : Inhibits} {m : Inhibit} {b : Bool} (h : i.get m = b) : i.set m b = i := by
  cases m <;> subst h <;> rfl

/-- R80: a claim or a release sets the member. -/
theorem State.setInhibit_inhibits (m : Inhibit) (b : Bool) :
    (s.setInhibit m b).inter.inhibits = s.inter.inhibits.set m b := by
  unfold State.setInhibit
  split
  · next h => exact (Inhibits.set_of_get h).symm
  · exact Interlock.resolve_inhibits _ _

theorem State.offerDirty_lastBegin : s.offerDirty.ring.lastBegin = s.ring.lastBegin :=
  (congrArg Ring.lastBegin s.offerDirty_frame : _)

theorem State.setInhibit_lastBegin (m : Inhibit) (b : Bool) : (s.setInhibit m b).ring.lastBegin = s.ring.lastBegin := by
  unfold State.setInhibit
  split
  · rfl
  · exact State.offerDirty_lastBegin _

theorem isLoaded_eq (x : StageState) : isLoaded x = (x == .worn || x == .spent) := by
  cases x <;> rfl

/-- R150: an opening door marks the fitted stages that are WORN or SPENT. -/
theorem State.filterDoor_stage (b : Bool) (st : Stage) : (s.filterDoor b).filters.stage st =
    { s.filters.stage st with doorOpened := (s.filters.stage st).doorOpened ||
      (b && !s.filters.door && (s.filters.stage st).fitted &&
        ((s.filters.stage st).state == .worn || (s.filters.stage st).state == .spent)) } := by
  unfold State.filterDoor
  split
  · next h => simp [h]
  · next h =>
    split
    · next hb =>
      have hdoor : s.filters.door = false := by simpa [hb] using h
      refine Eq.trans (b := (s.filters.stage st).ifFitted fun r =>
        { r with doorOpened := r.doorOpened || isLoaded r.state }) ?_ ?_
      · cases st <;> rfl
      · unfold StageRecord.ifFitted
        split
        · next hfit => simp [hb, hdoor, hfit, isLoaded_eq]
        · next hfit => rw [Bool.eq_false_iff.2 hfit, Bool.and_false, Bool.false_and, Bool.or_false]
    · next hb =>
      have hb : b = false := by simpa using hb
      rw [hb]
      cases st <;> simp [Filters.stage]

theorem State.filterDoor_door (b : Bool) : (s.filterDoor b).filters.door = b := by
  unfold State.filterDoor
  split
  · assumption
  · split
    · next h => exact h.symm
    · next h => exact (by simpa using h : b = false).symm

/-! ### The four blocks in order -/

/-- The device with the DOOR line at a level, the change taken. -/
def State.doorSet (b : Bool) (s : State) : State := (s.setLines { s.lines with door := b }).took (.doorLineChange b)

/-- The interlock and the allocator have taken the line. -/
def State.doorGuarded (b : Bool) (s : State) : State := ((s.doorSet b).interlockDoor b).allocDoor b

theorem exec_doorLineChange (b : Bool) (hheld : s.held = false) (hdoor : s.lines.door = !b) :
    exec (.doorLineChange b) s = .next (((s.doorGuarded b).cycleDoor b).filterDoor b) := by
  show execDoorLineChange b s = _
  rw [execDoorLineChange]
  have hnew : ¬ (s.held = true ∨ s.lines.door = b) := by
    rw [hheld, hdoor]
    cases b <;> simp
  simp only [hnew, if_false]
  exact taking_awake _ _ _ hheld

theorem State.doorGuarded_cycles (b : Bool) : (s.doorGuarded b).cycles = s.cycles :=
  ((s.doorSet b).setInhibit_within .door b).same .cycles (by simp)

theorem State.doorGuarded_filters (b : Bool) : (s.doorGuarded b).filters = s.filters :=
  ((s.doorSet b).setInhibit_within .door b).same .filters (by simp)

theorem State.doorGuarded_lastBegin (b : Bool) : (s.doorGuarded b).ring.lastBegin = s.ring.lastBegin :=
  (s.doorSet b).setInhibit_lastBegin .door b

theorem State.filterDoor_posts (b : Bool) : (s.filterDoor b).posts = s.posts := by
  unfold State.filterDoor
  split
  · rfl
  · split <;> rfl

/-- R138: the engine as the door opens. -/
def State.doorOpened (s : State) : State :=
  (s.doorGuarded true).setCycles { (s.doorGuarded true).cycles with door := true }

theorem State.cycleDoor_open : (s.doorGuarded true).cycleDoor true = s.doorOpened.abortKinds airKinds .door := rfl

theorem State.doorOpened_places : s.doorOpened.cycles.queue = s.cycles.queue ∧
    s.doorOpened.cycles.running = s.cycles.running ∧ s.doorOpened.cycles.suspended = s.cycles.suspended := by
  have h := s.doorGuarded_cycles true
  exact ⟨(congrArg CycleEngine.queue h : _), (congrArg CycleEngine.running h : _), (congrArg CycleEngine.suspended h : _)⟩

theorem State.cycleDoor_door (b : Bool) : (s.cycleDoor b).cycles.door = b := by
  unfold State.cycleDoor
  extract_lets _ t
  split
  · exact congrArg (·.1) (t.abortKinds_settings airKinds .door)
  · rfl

/-- Settles O9: the line reaches the interlock, the allocator, the engine and the filters in that order, and each changes its
own block. -/
theorem doorLineReachesFourBlocks : Obligations.DoorLineReachesFourBlocks := by
  intro b s hheld hdoor hlaw
  have hexec := exec_doorLineChange s b hheld hdoor
  obtain ⟨v, hv⟩ : ∃ v, v = (s.doorGuarded b).cycleDoor b := ⟨_, rfl⟩
  rw [← hv] at hexec
  have hcycle : (s.doorGuarded b).Within [.cycles] v := hv ▸ State.cycleDoor_within _ b
  have hfilter := v.filterDoor_within b
  have hrest {c : Block} (h1 : c ≠ .cycles) (h2 : c ≠ .filters) : (s.doorGuarded b).agrees (v.filterDoor b) c :=
    agrees_trans (hcycle.same c (by simpa using h1)) (hfilter.same c (by simpa using h2))
  have hguard := (s.doorSet b).setInhibit_within .door b
  have hcycles : (v.filterDoor b).cycles = v.cycles := hfilter.same .cycles (by simp)
  have hposts : (v.filterDoor b).posts = v.posts := v.filterDoor_posts b
  have hinter : (v.filterDoor b).inter = ((s.doorSet b).setInhibit .door b).inter := hrest (c := .inter) nofun nofun
  have halloc : (v.filterDoor b).alloc = (s.doorGuarded b).alloc := hrest (c := .alloc) nofun nofun
  have hlock : ((s.doorSet b).setInhibit .door b).alloc = s.alloc := hguard.same .alloc (by simp)
  have hstage : v.filters = s.filters := (hcycle.same .filters (by simp)).trans (s.doorGuarded_filters b)
  refine ⟨_, hexec, ?lines, ?inhibits, ?alloc, ?cycleDoor, v.filterDoor_door b, ?posted, fun hb => ⟨?law, ?kinds⟩,
    fun hb hcyc => ?ends, fun hb => ?closes, fun st x hx => ?stages,
    ?zones, ?trans, ?dry, ?water, ?banks, ?mu, ?rc⟩
  case lines => exact (hrest (c := .lines) nofun nofun : _ = _).trans (hguard.same .lines (by simp))
  case zones => exact (hrest (c := .zones) nofun nofun : _ = _).trans (hguard.same .zones (by simp))
  case trans => exact (hrest (c := .trans) nofun nofun : _ = _).trans (hguard.same .trans (by simp))
  case dry => exact (hrest (c := .dry) nofun nofun : _ = _).trans (hguard.same .dry (by simp))
  case water => exact (hrest (c := .water) nofun nofun : _ = _).trans (hguard.same .water (by simp))
  case banks => exact (hrest (c := .banks) nofun nofun : _ = _).trans (hguard.same .banks (by simp))
  case mu => exact (hrest (c := .mu) nofun nofun : _ = _).trans (hguard.same .mu (by simp))
  case rc => exact (hrest (c := .rc) nofun nofun : _ = _).trans (hguard.same .rc (by simp))
  case inhibits => exact (congrArg Interlock.inhibits hinter).trans (State.setInhibit_inhibits _ _ _)
  case alloc => exact halloc.trans (congrArg (fun a : Allocator => { a with door := b }) hlock)
  case cycleDoor =>
    rw [hcycles, hv]
    exact State.cycleDoor_door _ b
  case posted =>
    rw [hposts]
    exact hcycle.posts (List.mem_append_right _ (List.mem_singleton_self _))
  case law =>
    have hshut : (v.filterDoor b).inter.DoorShut := by
      rw [hinter]
      exact ((s.doorSet b).setInhibit_interTo .door b).door hlaw
    exact hshut
  case kinds =>
    subst hb
    rw [hcycles, hv]
    exact State.abortKinds_onlyPump s.doorOpened .door airKinds_spares
  case ends =>
    subst hb
    obtain ⟨hq, hr, hs⟩ := s.doorOpened_places
    have hcyc : s.doorOpened.cycles.Lawful := ((s.cycleLaw_iff).1 hcyc).of_places hq hr hs
    have hrecord (c : Cycle) (o : CycleOutcome) : s.doorOpened.endRecord c o = s.endRecord c o := by
      rw [State.endRecord, State.endRecord, ← s.doorGuarded_lastBegin true]
      rfl
    rw [hcycles, hposts, hv]
    refine ⟨fun c hc hk => ?_, fun c hc hk => ?_, fun c hc hk => ?_, fun c hc hk => ?_⟩
    · rw [← hr, ← hs] at hc
      exact (State.abortKinds_aborted .door airKinds_spares hcyc hc (airKinds_of_ne hk)).trans (hrecord c _)
    · rw [← hq] at hc
      exact (State.abortKinds_cancelled .door airKinds_spares hcyc hc (airKinds_of_ne hk)).trans (hrecord c _)
    · exact State.abortKinds_release .door (hr.trans hc) (airKinds_of_ne hk)
    · exact State.abortKinds_running .door airKinds_spares (hr.trans hc) (by rw [hk]; rfl)
  case closes =>
    subst hb
    rw [hcycles, hv, ← s.doorGuarded_cycles false]
    rfl
  case stages =>
    rw [hx, ← hstage]
    exact v.filterDoor_stage b st

end Sys2Proof.Machine
end

section
/-! The regime record and the gates of the Sample Translator (R21, R31, R32, R36). -/

namespace Sys2Proof.Machine
open State

variable (s : State)

/-! ### DEFROST -/

theorem State.setDefrost_same {on : Bool} (h : s.trans.defrost = on) : s.setDefrost on = s := if_pos h

theorem State.setDefrost_changed {on : Bool} (h : s.trans.defrost ≠ on) :
    s.setDefrost on = (s.setTrans { s.trans with defrost := on }).post [.regimeChanged] := if_neg h

/-! ### Gates -/

theorem Gates.get_set (x : Gates) (g h : Gate) (b : Bool) : (x.set g b).get h = if h = g then b else x.get h := by
  cases g <;> cases h <;> rfl

theorem State.setGate_same {g : Gate} {truth : Bool} (h : s.trans.gates.get g = truth) : s.setGate g truth = s := if_pos h

theorem State.setGate_open {g : Gate} (h : s.trans.gates.get g ≠ true) : s.setGate g true =
    s.setTrans { s.trans with
      gates := s.trans.gates.set g true
      accs := s.trans.accs.zipIdx.map fun x => x.1.openOn (s.accDef x.2) g } :=
  if_neg h

theorem State.setGate_close {g : Gate} (h : s.trans.gates.get g ≠ false) : s.setGate g false =
    (s.setTrans { s.trans with
      gates := s.trans.gates.set g false
      accs := s.trans.accs.map (Acc.closeOn g) }).post (s.trans.accs.flatMap (Acc.closingPost g)) :=
  if_neg h

theorem Acc.openOn_pos {a : Acc} {d : AccDef} {g : Gate} (h : a.held = none) (hg : d.gate = g) :
    a.openOn d g = { held := some d, sum := 0, saturated := false } := by
  simp [Acc.openOn, h, hg]

theorem Acc.openOn_neg {a : Acc} {d : AccDef} {g : Gate} (h : ¬ (a.held = none ∧ d.gate = g)) : a.openOn d g = a := by
  refine if_neg ?_
  simpa using h

theorem Acc.closeOn_pos {a : Acc} {d : AccDef} {g : Gate} (h : a.held = some d) (hg : d.gate = g) :
    a.closeOn g = { held := none, sum := 0, saturated := false } := by
  simp [Acc.closeOn, h, hg, Acc.closed]

theorem Acc.closeOn_neg {a : Acc} {g : Gate} (h : ∀ d, a.held = some d → d.gate ≠ g) : a.closeOn g = a := by
  unfold Acc.closeOn
  split
  · rfl
  · next d hd => simp [h d hd]

/-- R36: what a closing accumulator posts. -/
theorem Acc.closingPost_eq (g : Gate) (a : Acc) : a.closingPost g =
    match a.held with
    | none => []
    | some d => if d.gate = g ∧ 0 < a.sum then
        [if d.removal then .removal a.sum a.saturated else .deposit a.sum a.saturated] else [] := by
  unfold Acc.closingPost
  cases a.held with
  | none => rfl
  | some d => simp [waterPost]

theorem State.accs_opened {s : State} {g : Gate} {k : Nat} {a : Acc} (h : s.trans.accs[k]? = some a) :
    (s.setTrans { s.trans with
      gates := s.trans.gates.set g true
      accs := s.trans.accs.zipIdx.map fun x => x.1.openOn (s.accDef x.2) g }).trans.accs[k]? =
      some (a.openOn (s.accDef k) g) := by
  simp [h]

theorem State.accs_closed {s : State} {g : Gate} {k : Nat} {a : Acc} (h : s.trans.accs[k]? = some a) {es : List Instr} :
    ((s.setTrans { s.trans with gates := s.trans.gates.set g false, accs := s.trans.accs.map (Acc.closeOn g) }).post
      es).trans.accs[k]? = some (a.closeOn g) := by
  simp [h]

/-- R31: the command that tells a gate its truth. -/
theorem exec_gate {c : Instr} {g : Gate} {truth : Bool} (hheld : s.held = false)
    (h : c = .translatorOutputChanged .compressor (flag truth) ∧ g = .compressor ∨
      (∃ v, c = .translatorOutputChanged .heater v ∧ g = .heater ∧ truth = decide (v ≠ 0)) ∨
      c = .translatorOutputChanged .pump (flag truth) ∧ g = .pump ∨
      c = .regenActive ∧ g = .regen ∧ truth = true ∨ c = .regenInactive ∧ g = .regen ∧ truth = false) :
    exec c s = .next ((s.took c).setGate g truth) := by
  have hflag : decide (flag truth ≠ 0) = truth := by cases truth <;> rfl
  have houtput (o : Output) (v : Nat) : exec (.translatorOutputChanged o v) s =
      .next ((s.took (.translatorOutputChanged o v)).setGate (Output.gate o) (decide (v ≠ 0))) :=
    taking_awake s (.translatorOutputChanged o v) (State.setGate (Output.gate o) (decide (v ≠ 0))) hheld
  obtain ⟨rfl, rfl⟩ | ⟨v, rfl, rfl, rfl⟩ | ⟨rfl, rfl⟩ | ⟨rfl, rfl, rfl⟩ | ⟨rfl, rfl, rfl⟩ := h
  · rw [houtput, hflag]
    rfl
  · exact houtput .heater v
  · rw [houtput, hflag]
    rfl
  · exact taking_awake s .regenActive (State.setGate .regen true) hheld
  · exact taking_awake s .regenInactive (State.setGate .regen false) hheld

/-- Settles O17: the flag and the gates change by their events alone. -/
theorem regimeAndGatesFollowTheirEvents : Obligations.RegimeAndGatesFollowTheirEvents := by
  constructor
  · intro s hheld
    have hset : exec .defrostRegimeSet s = .next ((s.took .defrostRegimeSet).setDefrost true) :=
      taking_awake s .defrostRegimeSet (State.setDefrost true) hheld
    have hclear : exec .defrostRegimeClear s = .next ((s.took .defrostRegimeClear).setDefrost false) :=
      taking_awake s .defrostRegimeClear (State.setDefrost false) hheld
    rw [hset, hclear]
    refine ⟨fun h => congrArg _ ?_, fun h => congrArg _ (State.setDefrost_same _ h), fun h => congrArg _ ?_,
      fun h => congrArg _ (State.setDefrost_same _ h)⟩
    · exact State.setDefrost_changed (s.took .defrostRegimeSet) (ne_of_eq_of_ne h Bool.false_ne_true)
    · exact State.setDefrost_changed (s.took .defrostRegimeClear) (ne_of_eq_of_ne h Bool.false_ne_true.symm)
  · intro c g truth s u hheld hu hc
    rw [exec_gate s hheld hc, ← hu]
    have htrans : u.trans = s.trans := by rw [hu]; rfl
    have hdef (k : Nat) : u.accDef k = s.accDef k := by rw [hu]; rfl
    refine ⟨fun h => congrArg _ (u.setGate_same (by rw [htrans]; exact h)), fun h => ?_⟩
    rw [← htrans] at h ⊢
    refine ⟨_, rfl, ?_⟩
    have hs : s = u.setPosts s.posts := by rw [hu]; rfl
    cases truth with
    | true =>
      rw [u.setGate_open h]
      refine ⟨fun h => Gates.get_set _ _ _ _, fun k a ha => ⟨fun _ hn hg => ?_, fun _ hn => ?_, nofun, nofun⟩, ?_, rfl, rfl, rfl, ?_⟩
      · rw [State.accs_opened ha, hdef, Acc.openOn_pos hn hg]
      · rw [State.accs_opened ha, hdef, Acc.openOn_neg hn]
      · exact (List.append_nil _).symm
      · exact hs.symm
    | false =>
      rw [u.setGate_close h]
      refine ⟨fun h => Gates.get_set _ _ _ _, fun k a ha => ⟨nofun, nofun, fun _ hd => ?_, fun _ hd => ?_⟩, ?_, rfl, rfl, rfl, ?_⟩
      · obtain ⟨d, hd, hg⟩ := hd
        rw [State.accs_closed ha, Acc.closeOn_pos hd hg]
      · rw [State.accs_closed ha, Acc.closeOn_neg hd]
      · rw [if_neg Bool.false_ne_true]
        exact congrArg (u.posts ++ ·) (congrArg (u.trans.accs.flatMap ·) (funext (Acc.closingPost_eq g)))
      · exact hs.symm

end Sys2Proof.Machine
end

section
/-! Scaling and the curve (R26, R47, R48). -/

namespace Sys2Proof.Machine
open State

/-- R26: the division by 256 discards the fraction, toward zero. -/
theorem tdiv_256_eq {x q : Int} (hpos : 0 ≤ x → 256 * q ≤ x ∧ x < 256 * q + 256)
    (hneg : x < 0 → x ≤ 256 * q ∧ 256 * q - 256 < x) : x.tdiv 256 = q := by
  rcases lt_or_ge x 0 with h | h
  · have hdiv : x.tdiv 256 = -(-x / 256) := by
      rw [← Int.tdiv_eq_ediv_of_nonneg (by omega : 0 ≤ -x), Int.neg_tdiv, Int.neg_neg]
    have := hneg h
    omega
  · rw [Int.tdiv_eq_ediv_of_nonneg h]
    have := hpos h
    omega

theorem clampTo_eq_ite {lo hi v : Int} (h : lo ≤ hi) :
    clampTo lo hi v = if v < lo then lo else if hi < v then hi else v := by
  unfold clampTo
  split
  · omega
  · split <;> omega

/-- R26: the value is scaled, then held within the entry's bounds, then within the unit range. -/
theorem Scale.apply_eq (e : Scale) (range : Int × Int) (raw : Nat) (v : Int)
    (hv : ((raw : Int) * e.gain).tdiv 256 + e.offset = v) :
    e.apply range raw = (clampTo range.1 range.2 (clampTo e.low e.high v),
      if clampTo e.low e.high v = v ∧ clampTo range.1 range.2 (clampTo e.low e.high v) = clampTo e.low e.high v
      then .good else .clamped) := by
  subst hv
  rfl

theorem le_clampTo {lo hi v : Int} : lo ≤ clampTo lo hi v := le_max_left _ _

theorem clampTo_le {lo hi v : Int} (h : lo ≤ hi) : clampTo lo hi v ≤ hi := max_le h (min_le_left _ _)

/-- A value is left as it is just when it lies within the bounds. -/
theorem clampTo_eq_self_iff {lo hi v : Int} (h : lo ≤ hi) : clampTo lo hi v = v ↔ lo ≤ v ∧ v ≤ hi := by
  unfold clampTo
  omega

/-- R26: the two clamps leave a value just when it lies within the bounds of both. -/
theorem clamps_eq_iff {lo hi low high v : Int} (h : lo ≤ hi) (h' : low ≤ high) :
    (clampTo low high v = v ∧ clampTo lo hi (clampTo low high v) = clampTo low high v) ↔
      low ≤ v ∧ v ≤ high ∧ lo ≤ v ∧ v ≤ hi := by
  constructor
  · rintro ⟨h1, h2⟩
    rw [h1] at h2
    exact ⟨((clampTo_eq_self_iff h').1 h1).1, ((clampTo_eq_self_iff h').1 h1).2, (clampTo_eq_self_iff h).1 h2⟩
  · rintro ⟨h1, h2, h3⟩
    have hsame := (clampTo_eq_self_iff h').2 ⟨h1, h2⟩
    rw [hsame]
    exact ⟨rfl, (clampTo_eq_self_iff h).2 h3⟩

/-- R48: on its slope the curve is the quotient, the fraction discarded. -/
theorem curveValue_slope {x : Int} {target span : Nat} (hlo : (target : Int) < x) (hhi : x < (target : Int) + span) :
    curveValue { value := x, quality := .good } target span = 100 * (x - target).toNat / span := by
  have hdiff : (x - target : Int) = ((x - target).toNat : Int) := (Int.toNat_of_nonneg (by omega)).symm
  have h1 : ¬ x ≤ target := by omega
  have h2 : ¬ (target : Int) + span ≤ x := by omega
  simp only [curveValue, Reading.counts, h1, h2, decide_false]
  rw [hdiff]
  exact Int.toNat_natCast _

/-- Settles O18: the value of each clamp, and of the curve on either side of its slope. -/
theorem scaledAndCurveValues : Obligations.ScaledAndCurveValues := by
  constructor
  · intro e lo hi raw v q hbounds hrange hpos hneg hv
    rw [e.apply_eq (lo, hi) raw v (by rw [tdiv_256_eq hpos hneg, hv])]
    refine ⟨le_clampTo, clampTo_le hrange, fun h1 h2 h3 h4 => ?_, fun h => ?_, fun h1 h2 h3 => ?_, fun h1 h2 h3 => ?_,
      fun c hc => ?_⟩
    · have hin := (clamps_eq_iff hrange hbounds).2 ⟨h1, h2, h3, h4⟩
      rw [if_pos hin, hin.2, hin.1]
    · exact if_neg fun hin => h ((clamps_eq_iff hrange hbounds).1 hin)
    · rw [show clampTo e.low e.high v = e.low by rw [clampTo_eq_ite hbounds, if_pos h1]]
      exact (clampTo_eq_self_iff hrange).2 ⟨h2, h3⟩
    · rw [show clampTo e.low e.high v = e.high by rw [clampTo_eq_ite hbounds, if_neg (by omega), if_pos h1]]
      exact (clampTo_eq_self_iff hrange).2 ⟨h2, h3⟩
    · rw [hc, ← clampTo_eq_ite hbounds]
      exact clampTo_eq_ite hrange
  · intro x target span
    refine ⟨fun h => ?_, fun h1 h2 => ?_, fun h1 h2 q hq1 hq2 => ?_, rfl, rfl⟩
    · simp [curveValue, h]
    · simp [curveValue, Reading.counts, h2, not_le.2 h1]
    · exact (curveValue_slope h1 h2).trans (Nat.div_eq_of_lt_le hq1 hq2)

end Sys2Proof.Machine
end

section
/-! The translation of a broadcast SAMPLE frame (R5, R10, R20, R22–R25). -/

namespace Sys2Proof.Machine
open State

variable (s : State)

/-! ### A frame -/

/-- R23: a frame from an unmapped source is not translated. -/
theorem State.translate_unmapped (f : Frame) (h : (s.banks.liveNode f.src).mapped = false) :
    s.translate f = (s.post [.flagSetClaim .unmappedSrc], false) := by
  simp [State.translate, h]

/-- R22: the source's zone is on boost. -/
def State.sourceBoost (s : State) (e : NodeEntry) : Bool := e.sourceZone.any fun z => (s.zone z).boost.isSome

/-- R23: the pairs of a frame in order. -/
theorem State.translate_mapped (f : Frame) (h : (s.banks.liveNode f.src).mapped = true) : s.translate f =
    ((((samplePairs f.payload).foldl (Pairs.take f.src (s.banks.liveNode f.src))
        { s := s, boost := s.sourceBoost (s.banks.liveNode f.src), absorbed := true }).s,
      ((samplePairs f.payload).foldl (Pairs.take f.src (s.banks.liveNode f.src))
        { s := s, boost := s.sourceBoost (s.banks.liveNode f.src), absorbed := true }).absorbed)) := by
  have hboost : (match (s.banks.liveNode f.src).sourceZone with
      | some z => (s.zone z).boost.isSome
      | none => false) = s.sourceBoost (s.banks.liveNode f.src) := by
    unfold State.sourceBoost
    split
    · next h => rw [h]; rfl
    · next h => rw [h]; rfl
  unfold State.translate
  rw [← hboost]
  exact if_neg (by simp [h])

/-! ### A pair -/

/-- R23: a bad pair consumes the mark and takes no action. -/
theorem Pairs.take_bad (src : Nat) (e : NodeEntry) (p : Pairs) (ch raw : Word) (h : bits ch 6 10 ≠ 0) :
    Pairs.take src e p (ch, raw) =
      { p with s := (p.s.setMark src false).post [.flagSetClaim .frameErr], absorbed := false } := if_pos h

/-! ### Forwarding -/

theorem State.forward_place (ws : List Word) (h : s.ring.forward.length < 16) :
    s.forward ws = s.setRing { s.ring with forward := s.ring.forward ++ [ws] } := if_pos h

theorem State.forward_full (ws : List Word) (h : 16 ≤ s.ring.forward.length) :
    s.forward ws = s.post [.flagSetClaim .ringOvf] := if_neg (Nat.not_lt.2 h)

/-- R5: a broadcast SAMPLE is forwarded as it is while nothing translates it. -/
theorem State.broadcastSample_plain (f : Frame) (ws : List Word) (h : s.isLive = false ∨ s.lines.setup = true) :
    s.broadcastSample f ws = s.forward ws := by
  refine if_neg ?_
  obtain h | h := h <;> simp [h]

theorem State.broadcastSample_translated (f : Frame) (ws : List Word) (hlive : s.isLive = true)
    (hsetup : s.lines.setup = false) : s.broadcastSample f ws =
      if (s.translate f).2 = true then (s.translate f).1 else (s.translate f).1.forward ws := by
  refine if_pos ?_
  simp [hlive, hsetup]

/-- Settles O19: a frame is its pairs in order, and its verdict says whether it goes on. -/
theorem broadcastSamplesAreTranslated : Obligations.BroadcastSamplesAreTranslated := by
  refine ⟨⟨fun s f h => s.translate_unmapped f h, ?_, fun src e p ch raw h => ?_⟩, ?_,
    fun ws u => ⟨u.forward_place ws, u.forward_full ws⟩⟩
  · intro s f e boost he hmapped hboost p0 Take hp0 hTake
    subst he
    have hTake : Take = fun p c v => Pairs.take f.src (s.banks.liveNode f.src) p (c, v) :=
      funext fun p => funext fun c => funext fun v => hTake p c v
    have hboost : boost = s.sourceBoost (s.banks.liveNode f.src) := by
      rw [hboost, State.sourceBoost]
      cases (s.banks.liveNode f.src).sourceZone <;> rfl
    subst hp0 hTake hboost
    rw [s.translate_mapped f hmapped]
    refine ⟨?_, ?_, ?_, ?_⟩
    all_goals
      intros
      subst_vars
      simp only [*]
      rfl
  · rw [Pairs.take_bad src e p ch raw h]
    exact ⟨rfl, rfl, rfl⟩
  · intro ws s f u hheld hd hw hc hf hu h31 hsrc hdst hkind heven hlen hown
    have hroute : exec (.rxFrame ws) s = .next (u.broadcastSample f ws) := by
      rw [exec_rxFrame s ws hheld, ← hu, State.runEnds_of_frame u ws (hu ▸ hd) hw hc, ← hf]
      refine congrArg _ ((State.route_of_other u f ws h31 ?_ ?_).trans (if_pos ⟨hdst, hkind, hlen, heven⟩))
      · rw [hu]
        exact hsrc
      · rw [hu, hdst]
        exact hown.symm
    have hlive : u.isLive = s.isLive := by rw [hu]; rfl
    have hlines : u.lines = s.lines := by rw [hu]; rfl
    rw [hroute]
    refine ⟨fun h => congrArg _ (u.broadcastSample_plain f ws ?_), fun hl hs => ⟨fun h => congrArg _ ?_, fun h => congrArg _ ?_⟩⟩
    · rw [hlive, hlines]
      exact h
    · exact (u.broadcastSample_translated f ws (hlive.trans hl) (hlines ▸ hs)).trans (if_pos h)
    · exact (u.broadcastSample_translated f ws (hlive.trans hl) (hlines ▸ hs)).trans (if_neg (by simp [h]))

end Sys2Proof.Machine
end

section
/-! One pair: flows, special entries and stores (R20–R30, R33–R35, R38–R40). -/

namespace Sys2Proof.Machine
open State

variable (s : State)

/-! ### Entries (R25, §13.4) -/

section entries
variable {w : Word}

theorem entryAction_ignore (h : bit w 15 = true ∨ bits w 13 2 = 0) : entryAction w = .ignore := by
  unfold entryAction entryAction?
  split
  · rfl
  · next hbit =>
    rw [h.resolve_left hbit]
    rfl

theorem entryAction_store {t : StoreTarget} (hbit : bit w 15 = false) (hkind : bits w 13 2 = 1)
    (ht : targetOfCode (bits w 6 5) = some t) : entryAction w = .store t (bits w 0 6) (bit w 11) := by
  simp [entryAction, entryAction?, hbit, hkind, ht]

theorem entryAction_flow (hbit : bit w 15 = false) (hkind : bits w 13 2 = 2) (hk : bits w 6 5 < 4) :
    entryAction w = .accumulate (bits w 6 5) (bits w 0 6) := by
  simp [entryAction, entryAction?, hbit, hkind, Nat.le_of_lt_succ hk]

theorem entryAction_special {code : Special} (hbit : bit w 15 = false) (hkind : bits w 13 2 = 3)
    (hcode : specialOfCode (bits w 6 5) = some code) : entryAction w = .special code := by
  simp [entryAction, entryAction?, hbit, hkind, hcode]

theorem entryAbsorbs_eq : entryAbsorbs w = (!bit w 15 && bit w 12) := rfl

end entries

theorem specialOfCode_void {n : Nat} (h1 : 8 ≤ n) (h2 : n ≤ 11) : specialOfCode n = some (.void (n - 8)) := by
  interval_cases n <;> rfl

theorem NodeEntry.sourceZone_head {e : NodeEntry} {z : Nat} (hc : e.cls = 2) (hz : e.zone = some z) :
    e.sourceZone = some z := (if_pos hc).trans hz

theorem NodeEntry.sourceZone_none {e : NodeEntry} (h : e.cls ≠ 2 ∨ e.zone = none) : e.sourceZone = none := by
  unfold NodeEntry.sourceZone
  split
  · next hc => exact h.resolve_left (fun hn => hn hc)
  · rfl

/-! ### A pair -/

/-- R20, R22: the entry a pair reads. -/
def Pairs.entry (src : Nat) (e : NodeEntry) (ch : Word) (p : Pairs) : Word :=
  p.s.banks.liveWord (8 * e.cls + 4 * flag (p.s.trans.marks.getD src false) + bits ch 0 6 / 16)
    (4 * (bits ch 0 6 % 16) +
      (if p.s.trans.defrost then 3 else if p.boost then 2 else if p.s.trans.night then 1 else 0))

/-- The frame under way with the mark consumed, and the verdict of the pair's entry. -/
def Pairs.consumed (src : Nat) (w : Word) (p : Pairs) : Pairs :=
  { s := p.s.setMark src false, boost := p.boost, absorbed := p.absorbed && entryAbsorbs w }

theorem Pairs.take_entry (src : Nat) (e : NodeEntry) (p : Pairs) (ch raw : Word) (h : bits ch 6 10 = 0) :
    Pairs.take src e p (ch, raw) =
      (p.consumed src (p.entry src e ch)).act src e.sourceZone (entryAction (p.entry src e ch)) raw :=
  if_neg (not_not.2 h)

theorem Pairs.act_absorbed (src : Nat) (zone : Option Nat) (a : Action) (raw : Word) (p : Pairs) :
    (p.act src zone a raw).absorbed = p.absorbed := by
  cases a with
  | special code => cases code <;> rfl
  | ignore => rfl
  | store => rfl
  | accumulate => rfl

/-! ### Flows -/

/-- R33–R38: the accumulators after an OPEN one changed. -/
theorem State.acc_modify {k : Nat} (f : Acc → Acc) (hopen : (s.acc k).held ≠ none) (j : Nat) :
    (s.setTrans { s.trans with accs := modifyAt f s.trans.accs k }).acc j = if j = k then f (s.acc k) else s.acc j := by
  have hk : ∃ a, s.trans.accs[k]? = some a := by
    cases h : s.trans.accs[k]? with
    | none =>
      rw [State.acc, List.getD_eq_getElem?_getD, h] at hopen
      exact absurd rfl hopen
    | some a => exact ⟨a, rfl⟩
  obtain ⟨a, ha⟩ := hk
  simp only [State.acc, List.getD_eq_getElem?_getD, setTrans_trans, getElem?_modifyAt]
  split
  · next hj =>
    subst hj
    rw [ha]
    rfl
  · rfl

theorem Acc.add_fields (v : Nat) (a : Acc) : (a.add v).sum = min (a.sum + v) 65535 ∧ (a.add v).held = a.held ∧
    (a.add v).saturated = (a.saturated || decide (65535 < a.sum + v)) := by
  unfold Acc.add
  split
  · next h => exact ⟨(min_eq_left h).symm, rfl, by simp [Nat.not_lt.2 h]⟩
  · next h => exact ⟨(min_eq_right (Nat.le_of_lt (Nat.not_le.1 h))).symm, rfl, by simp [Nat.not_le.1 h]⟩

theorem State.accumulate_open {k : Nat} (v : Nat) (h : (s.acc k).held ≠ none) :
    s.accumulate k v = s.setTrans { s.trans with accs := modifyAt (Acc.add v) s.trans.accs k } :=
  if_pos (Option.isSome_iff_ne_none.2 h)

theorem State.accumulate_zero {k : Nat} (h : (s.acc k).held = none) : s.accumulate k 0 = s := by
  simp [State.accumulate, h]

theorem State.accumulate_pos {k v : Nat} (h : (s.acc k).held = none) (hv : 0 < v) :
    s.accumulate k v = s.post [if (s.accDef k).removal then .removal v false else .deposit v false] := by
  simp [State.accumulate, h, Nat.pos_iff_ne_zero.1 hv, waterPost]

theorem State.voidAcc_open {k : Nat} (h : (s.acc k).held ≠ none) : s.voidAcc k =
    (s.setTrans { s.trans with
      accs := modifyAt (fun a => { a with sum := 0, saturated := false }) s.trans.accs k }).post [.uncertain] :=
  if_pos (Option.isSome_iff_ne_none.2 h)

theorem State.voidAcc_closed {k : Nat} (h : (s.acc k).held = none) : s.voidAcc k = s := by
  simp [State.voidAcc, h]

theorem State.takeFlow_fault (k scale : Nat) : s.takeFlow k scale 0xFFFF#16 = s.post [.uncertain] := if_pos rfl

theorem State.takeFlow_value {k scale v : Nat} {raw : Word} (h : raw ≠ 0xFFFF#16)
    (hv : (v : Int) = ((s.scale scale).apply (0, 65535) raw.toNat).1) : s.takeFlow k scale raw = s.accumulate k v := by
  refine (if_neg h).trans ?_
  rw [← hv, Int.toNat_natCast]

/-- Settles O20: the entry's action, case by case. -/
theorem flowAndSpecialPairs : Obligations.FlowAndSpecialPairs := by
  intro src e p q ch raw w u hch hu hq hw
  have hw : w = p.entry src e ch := hw
  rw [Pairs.take_entry src e p ch raw hch, ← hw] at hq
  have hqu : (p.consumed src w).s = u := hu.symm
  have hboost : (p.consumed src w).boost = p.boost := rfl
  generalize hp' : p.consumed src w = p' at hq hqu hboost
  subst hq
  refine ⟨?_, fun h => ?_, fun hbit hkind hk => ?_, fun hbit hkind => ?_⟩
  · rw [Pairs.act_absorbed, ← hp', Bool.and_assoc]
    rfl
  · rw [entryAction_ignore h]
    exact ⟨hqu, hboost⟩
  · rw [entryAction_flow hbit hkind hk]
    have hs : (p'.act src e.sourceZone (.accumulate (bits w 6 5) (bits w 0 6)) raw).s =
        u.takeFlow (bits w 6 5) (bits w 0 6) raw := by rw [← hqu]; rfl
    rw [hs]
    refine ⟨hboost, fun hraw => ?_, fun hraw v hv => ?_⟩
    · rw [hraw]
      exact u.takeFlow_fault _ _
    · rw [u.takeFlow_value hraw hv]
      refine ⟨fun hheld hv => ?_, fun hheld hv => u.accumulate_pos hheld hv, fun hheld => ?_⟩
      · rw [hv]
        exact u.accumulate_zero hheld
      · have hacc := u.acc_modify (Acc.add v) hheld
        obtain ⟨hsum, hkept, hsat⟩ := (u.acc (bits w 6 5)).add_fields v
        rw [u.accumulate_open v hheld, hacc, if_pos rfl]
        exact ⟨rfl, hsum, hkept, hsat, fun k hk => (hacc k).trans (if_neg hk), rfl⟩
  · have hact {code : Special} (hcode : specialOfCode (bits w 6 5) = some code) :
        p'.act src e.sourceZone (entryAction w) raw = p'.special src e.sourceZone code := by
      rw [entryAction_special hbit hkind hcode]
      rfl
    refine ⟨fun h => ?_, fun z hc hz => ⟨fun h => ?_, fun h => ?_, fun h => ?_⟩, fun hn h1 h2 => ?_, fun h => ?_, fun h => ?_,
      fun h1 h2 => ?_⟩
    · rw [hact (code := .pageNext) (by rw [h]; rfl), ← hqu]
      exact ⟨rfl, hboost⟩
    · rw [hact (code := .boostToggle) (by rw [h]; rfl), NodeEntry.sourceZone_head hc hz, ← hqu]
      exact ⟨rfl, congrArg (!·) hboost⟩
    · rw [hact (code := .windowOpen) (by rw [h]; rfl), NodeEntry.sourceZone_head hc hz, ← hqu]
      exact ⟨rfl, hboost⟩
    · rw [hact (code := .windowShut) (by rw [h]; rfl), NodeEntry.sourceZone_head hc hz, ← hqu]
      exact ⟨rfl, hboost⟩
    · have hnone := NodeEntry.sourceZone_none hn
      obtain h | h | h : bits w 6 5 = 1 ∨ bits w 6 5 = 2 ∨ bits w 6 5 = 3 := by omega
      · rw [hact (code := .boostToggle) (by rw [h]; rfl), hnone, ← hqu]
        rfl
      · rw [hact (code := .windowOpen) (by rw [h]; rfl), hnone, ← hqu]
        rfl
      · rw [hact (code := .windowShut) (by rw [h]; rfl), hnone, ← hqu]
        rfl
    · rw [hact (code := .tankOut) (by rw [h]; rfl), ← hqu]
      exact ⟨rfl, hboost⟩
    · rw [hact (code := .tankIn) (by rw [h]; rfl), ← hqu]
      exact ⟨rfl, hboost⟩
    · rw [hact (specialOfCode_void h1 h2)]
      have hs : (p'.special src e.sourceZone (.void (bits w 6 5 - 8))).s = u.voidAcc (bits w 6 5 - 8) := by
        rw [← hqu]
        rfl
      rw [hs]
      refine ⟨hboost, fun hheld => u.voidAcc_closed hheld, fun hheld => ?_⟩
      have hacc := u.acc_modify (fun a => { a with sum := 0, saturated := false }) hheld
      rw [u.voidAcc_open hheld]
      exact ⟨rfl, (hacc _).trans (if_pos rfl), fun k hk => (hacc k).trans (if_neg hk), rfl⟩

/-! ### Stores -/

/-- R26: the scaled value of a store. -/
def State.stored (s : State) (t : StoreTarget) (scale : Nat) (raw : Word) : Int × Quality :=
  (s.scale scale).apply t.unitRange raw.toNat

section posts
variable (scale : Nat) (wake : Bool) {raw : Word}

theorem State.storePosts_zone_fault (z : Nat) (f : ZoneField) :
    s.storePosts (some z) (.zone f) scale wake 0xFFFF#16 = [.zoneFaultReport (zoneFin z) f] := if_pos rfl

theorem State.storePosts_zone_value (z : Nat) (f : ZoneField) (h : raw ≠ 0xFFFF#16) :
    s.storePosts (some z) (.zone f) scale wake raw =
      .zoneStore (zoneFin z) f (s.stored (.zone f) scale raw).1 (s.stored (.zone f) scale raw).2 ::
        s.wakePosts wake f (s.stored (.zone f) scale raw).1 := if_neg h

theorem State.storePosts_unmapped_fault (f : ZoneField) :
    s.storePosts none (.zone f) scale wake 0xFFFF#16 = [.flagSetClaim .unmappedSrc] := if_pos rfl

theorem State.storePosts_unmapped_value (f : ZoneField) (h : raw ≠ 0xFFFF#16) :
    s.storePosts none (.zone f) scale wake raw =
      .flagSetClaim .unmappedSrc :: s.wakePosts wake f (s.stored (.zone f) scale raw).1 := if_neg h

theorem State.storePosts_plant_fault (zone : Option Nat) {t : StoreTarget} (ht : ∀ f, t ≠ .zone f) :
    s.storePosts zone t scale wake 0xFFFF#16 = plantPosts t none := by
  cases t with
  | zone f => exact absurd rfl (ht f)
  | _ => rfl

theorem State.storePosts_plant_value (zone : Option Nat) {t : StoreTarget} (ht : ∀ f, t ≠ .zone f) (h : raw ≠ 0xFFFF#16) :
    s.storePosts zone t scale wake raw = plantPosts t (some (s.stored t scale raw)) := by
  cases t with
  | zone f => exact absurd rfl (ht f)
  | _ => exact if_neg h

end posts

/-- R30: the wake event of a field that has a threshold. -/
theorem State.wakePosts_of_limit {f : ZoneField} {limit : Int} (h : s.wakeThreshold f = some limit) (wake : Bool) (v : Int) :
    s.wakePosts wake f v = if s.rc.level = .watch ∧ wake = true ∧ limit ≤ v then [.wakeEvent f v] else [] := by
  simp only [State.wakePosts, h, Bool.and_eq_true, beq_iff_eq, decide_eq_true_eq]
  congr 1
  rw [and_assoc, and_left_comm]

theorem State.wakePosts_of_none {f : ZoneField} (h : s.wakeThreshold f = none) (wake : Bool) (v : Int) :
    s.wakePosts wake f v = [] := by
  simp [State.wakePosts, h]

theorem State.wakePosts_awake {f : ZoneField} (h : s.rc.level ≠ .watch) (wake : Bool) (v : Int) :
    s.wakePosts wake f v = [] := by
  unfold State.wakePosts
  split
  · rfl
  · simp [h]

/-- Settles O21: the posts of each target, for a fault report and for a value. -/
theorem storePairs : Obligations.StorePairs := by
  intro src e p q ch raw w u t r hch hu hq hw hbit hkind ht hr
  have hw : w = p.entry src e ch := hw
  rw [Pairs.take_entry src e p ch raw hch, ← hw, entryAction_store hbit hkind ht] at hq
  have hs : q.s = u.post (u.storePosts e.sourceZone t (bits w 0 6) (bit w 11) raw) := by
    rw [hq, hu]
    rfl
  have hr : r = u.stored t (bits w 0 6) raw := hr
  have hplantFault (hn : ∀ f, t ≠ .zone f) (h : raw = 0xFFFF#16) : q.s = u.post (plantPosts t none) := by
    rw [hs, h, u.storePosts_plant_fault _ _ _ hn]
  have hplant (hn : ∀ f, t ≠ .zone f) (h : raw ≠ 0xFFFF#16) : q.s = u.post (plantPosts t (some r)) := by
    rw [hs, u.storePosts_plant_value _ _ _ hn h, hr]
  have hnat {v : Nat} (hv : (v : Int) = r.1) : r.1.toNat = v := by rw [← hv, Int.toNat_natCast]
  refine ⟨by rw [hq]; rfl, ?_, fun f z hf hc hz => ?_, fun f hf hn hl => ?_, fun hc => ⟨fun h => ?_, fun h => ?_⟩,
    fun h => ⟨fun hc => ?_, fun hc => ?_, fun hc => ?_, fun st hc => ?_⟩,
    fun h v hv => ⟨fun hc => ?_, fun hc => ?_, fun hc => ?_, fun st hc => ?_⟩⟩
  · rw [hq, Pairs.act_absorbed]
    simp [Pairs.consumed, entryAbsorbs_eq, hbit]
  · subst hf
    rw [NodeEntry.sourceZone_head hc hz] at hs
    refine ⟨fun h => ?_, fun h limit hl => ?_, fun h hf => ?_⟩
    · rw [hs, h, State.storePosts_zone_fault]
      rfl
    · have hlimit : u.wakeThreshold f = some limit := by
        obtain ⟨rfl, rfl⟩ | ⟨rfl, rfl⟩ | ⟨rfl, rfl⟩ := hl <;> rfl
      rw [hs, u.storePosts_zone_value _ _ z f h, ← hr, u.wakePosts_of_limit hlimit]
      rfl
    · have hnone : u.wakeThreshold f = none := by
        obtain rfl | rfl | rfl := hf <;> rfl
      rw [hs, u.storePosts_zone_value _ _ z f h, ← hr, u.wakePosts_of_none hnone]
      rfl
  · subst hf
    rw [NodeEntry.sourceZone_none hn] at hs
    by_cases h : raw = 0xFFFF#16
    · rw [hs, h, State.storePosts_unmapped_fault]
    · rw [hs, u.storePosts_unmapped_value _ _ f h, u.wakePosts_awake hl]
  all_goals subst hc
  · exact hplantFault nofun h
  · exact hplant nofun h
  · exact hplantFault nofun h
  · exact hplantFault nofun h
  · exact hplantFault nofun h
  · exact hplantFault nofun h
  · rw [hplant nofun h, ← hnat hv]
    rfl
  · have hbound : r.1 ≤ 15 := by
      rw [hr]
      exact clampTo_le (lo := 0) (hi := 15) (by decide)
    have hfin : Fin.ofNat 16 r.1.toNat = ⟨v, by omega⟩ := Fin.ext (by rw [hnat hv]; exact Nat.mod_eq_of_lt (by omega))
    refine ⟨⟨v, by omega⟩, rfl, ?_⟩
    rw [hplant nofun h, ← hfin]
    rfl
  · rw [hplant nofun h, ← hnat hv]
    rfl
  · rw [hplant nofun h, ← hnat hv]
    rfl

end Sys2Proof.Machine
end

section
/-! SOFT RESET, block by block (R19, R41, R57, R75, R91, R108, R123, R141, R156, R170, R178, R179, R186). -/

namespace Sys2Proof.Machine
open State

/-! ### The Table Banks (R170) -/

namespace Banks
variable (b : Banks) (index : Nat) (between : Bool)

theorem generation_cutPage (op : StoreOp) (new : List Word) : (b.cutPage op index between new).generation = b.generation := by
  unfold Banks.cutPage
  split
  · rfl
  · exact b.generation_putShadow _ _ _

theorem generation_softReset : (b.softReset index between).generation = b.generation := by
  show (b.cutOff index between).generation = b.generation
  unfold Banks.cutOff
  split
  · rfl
  · rfl
  · exact b.generation_putShadow _ _ _
  · exact b.generation_cutPage _ _ _ _
  · exact b.generation_cutPage _ _ _ _

/-- R157, R170: the live bank is not written. -/
theorem softReset_live_bank {id : BankId} (h : b.live = some id) : (b.softReset index between).bank id = b.bank id := by
  obtain ⟨hbank | ⟨p, ws, -, hbank⟩, -, -, -⟩ := b.cutTo_softReset index between
  · exact hbank id
  · rw [hbank, Banks.bank_putShadow, if_neg (b.shadowId_ne_of_live id h)]

theorem softReset_of_cutOff {c : Banks} (h : b.cutOff index between = c) :
    (b.softReset index between).shadow = c.shadow ∧ (b.softReset index between).record = c.record := by
  subst h
  exact ⟨rfl, rfl⟩

theorem cutOff_idle (h : b.engine = .idle) : b.cutOff index between = b := by
  simp only [Banks.cutOff, h]

theorem cutOff_validating {p : Nat} (h : b.engine = .committing p false) :
    b.cutOff index between = b.ends .commit (some p) .torn := by
  simp only [Banks.cutOff, h]

theorem cutOff_writing {p : Nat} (h : b.engine = .committing p true) :
    b.cutOff index between = (b.tear index p (b.builtPage p)).ends .commit (some p) .torn := by
  simp only [Banks.cutOff, h]

theorem shadow_ends (op : StoreOp) (p : Option Nat) (o : StoreOutcome) : (b.ends op p o).shadow = b.shadow := rfl

/-- R170: a torn page of the shadow, and the record of the operation that wrote it. -/
theorem torn_page (op : StoreOp) (p : Nat) (new : List Word) {c : Banks}
    (h : c = (b.tear index p new).ends op (some p) .torn) :
    c.shadow.status = b.shadow.status.set p .torn ∧ c.shadow.stamp = b.shadow.stamp ∧
      c.record = some { op := op, page := some p, outcome := .torn } := by
  have hshadow : c.shadow = b.shadow.putPage p (tornWords index (b.shadow.page p) new) .torn := by
    rw [h, Banks.shadow_ends, Banks.tear, Banks.shadow_putShadow]
  rw [hshadow]
  exact ⟨by rw [Bank.putPage], by rw [Bank.putPage], by rw [h, Banks.ends]⟩

/-- R163, R164: the operation an engine of the pages carries out, and the words of the page it is at. -/
theorem cutOff_paging {op : StoreOp}
    (h : op = .copy ∧ b.engine = .copying ∨ op = .erase ∧ ∃ keep, b.engine = .erasing keep) :
    ∃ new, b.cutOff index between = b.cutPage op index between new := by
  obtain ⟨rfl, h⟩ | ⟨rfl, keep, h⟩ := h
  · exact ⟨_, by simp only [Banks.cutOff, h]; rfl⟩
  · exact ⟨_, by simp only [Banks.cutOff, h]; rfl⟩

theorem cutPage_torn (op : StoreOp) (new : List Word) (h : between = false ∨ b.progress = 0) :
    b.cutPage op index between new = (b.tear index b.progress new).ends op (some b.progress) .torn := by
  refine if_neg ?_
  obtain h | h := h <;> simp [h]

theorem cutPage_between (op : StoreOp) (new : List Word) (h : between = true) (hp : b.progress ≠ 0) :
    b.cutPage op index between new = b.ends op none .torn := by
  refine if_pos ?_
  simp [h, hp]

end Banks

/-! ### The Cycle Engine (R141) -/

/-- Instances that end as the engine is reset, with their records. -/
def closeAll (last : Option Nat) (o : CycleOutcome) (cs : List Cycle) (e : CycleEngine) : CycleEngine :=
  cs.foldl (fun e c => e.setRecord c.kind { outcome := o, endSweep := last, completed := c.completed }) e

theorem closeAll_record_other {last : Option Nat} {o : CycleOutcome} {k : CycleKind} (cs : List Cycle) (e : CycleEngine)
    (h : ∀ c ∈ cs, c.kind ≠ k) : (closeAll last o cs e).record k = e.record k := by
  induction cs generalizing e with
  | nil => rfl
  | cons c cs ih =>
    exact (ih _ fun x hx => h x (List.mem_cons_of_mem _ hx)).trans
      (e.setRecord_record_other _ (h c List.mem_cons_self).symm)

theorem closeAll_record_mem {last : Option Nat} {o : CycleOutcome} {c : Cycle} (cs : List Cycle) (e : CycleEngine)
    (hnodup : (cs.map (·.kind)).Nodup) (h : c ∈ cs) :
    (closeAll last o cs e).record c.kind = { outcome := o, endSweep := last, completed := c.completed } := by
  induction cs generalizing e with
  | nil => cases h
  | cons x cs ih =>
    rw [List.map_cons, List.nodup_cons] at hnodup
    obtain ⟨hx, hcs⟩ := hnodup
    obtain rfl | h := List.mem_cons.1 h
    · exact (closeAll_record_other cs _ fun y hy he => hx (List.mem_map.2 ⟨y, hy, he⟩)).trans
        (e.setRecord_record_same _ _)
    · exact ih _ hcs h

variable (s : State)

/-- R141: running, then suspended, then queued instances end. -/
theorem State.softCycles_record (level : RunLevel) (k : CycleKind) : (s.softCycles level).record k =
    (closeAll s.ring.lastBegin .cancelled s.cycles.queue (closeAll s.ring.lastBegin (.aborted .reset)
      s.cycles.suspended.toList (closeAll s.ring.lastBegin (.aborted .reset) s.cycles.running.toList s.cycles))).record k := by
  cases k <;> rfl

theorem State.softCycles_running {c : Cycle} (level : RunLevel) (h : s.cycles.Lawful) (hc : s.cycles.running = some c) :
    (s.softCycles level).record c.kind = s.endRecord c (.aborted .reset) := by
  rw [State.softCycles_record, closeAll_record_other _ _ fun d hd => h.queue_ne_running hd hc,
    closeAll_record_other _ _ fun d hd => (h.running_ne_suspended hc (Option.mem_toList.1 hd)).symm, hc]
  exact closeAll_record_mem _ _ (List.nodup_singleton _) (List.mem_singleton_self c)

theorem State.softCycles_suspended {c : Cycle} (level : RunLevel) (h : s.cycles.Lawful) (hc : s.cycles.suspended = some c) :
    (s.softCycles level).record c.kind = s.endRecord c (.aborted .reset) := by
  rw [State.softCycles_record, closeAll_record_other _ _ fun d hd => h.queue_ne_suspended hd hc, hc]
  exact closeAll_record_mem _ _ (List.nodup_singleton _) (List.mem_singleton_self c)

theorem State.softCycles_queued {c : Cycle} (level : RunLevel) (h : s.cycles.Lawful) (hc : c ∈ s.cycles.queue) :
    (s.softCycles level).record c.kind = s.endRecord c .cancelled := by
  rw [State.softCycles_record]
  exact closeAll_record_mem _ _ h.queue_nodup hc

theorem State.softCycles_absent {k : CycleKind} (level : RunLevel) (hk : k ∉ s.cycles.kinds) :
    (s.softCycles level).record k = s.cycles.record k := by
  rw [CycleEngine.mem_kinds, not_or, not_or] at hk
  obtain ⟨hq, hr, hs⟩ := hk
  rw [State.softCycles_record, closeAll_record_other _ _ fun d hd e => hq ⟨d, hd, e⟩,
    closeAll_record_other _ _ fun d hd e => hs ⟨d, Option.mem_toList.1 hd, e⟩,
    closeAll_record_other _ _ fun d hd e => hr ⟨d, Option.mem_toList.1 hd, e⟩]

/-! ### The zones, the rows and the queue (R19, R57, R91) -/

theorem State.softZones_get {z : Nat} (h : z < 8) : s.softZones.getD z .absentZone =
    Zone.fresh (if (s.banks.headOf z).isSome then .waiting else .absent) (s.banks.headOf z) := by
  rw [List.getD_eq_getElem?_getD, State.softZones, List.getElem?_map, List.getElem?_range h]
  cases hz : s.banks.headOf z <;> simp [hz]

/-- R76: every row called for is newly created. -/
theorem State.calledRows_created {r : Row} (h : r ∈ s.calledRows) : ∃ k d p, r = Row.created k d p := by
  have hnode {k : RowKind} {a : Option Nat} (hr : r ∈ rowOfNode k a) : ∃ k d p, r = Row.created k d p := by
    cases a with
    | none => cases hr
    | some a => exact ⟨k, a, 0, List.mem_singleton.1 hr⟩
  unfold State.calledRows at h
  split at h
  · cases h
  · simp only [List.mem_append] at h
    obtain (((h | h) | h) | h) | h := h
    · exact hnode h
    · obtain ⟨x, -, rfl⟩ := List.mem_map.1 h
      exact ⟨_, _, _, rfl⟩
    · exact hnode h
    · exact hnode h
    · split at h
      · exact hnode h
      · cases h

/-- R76: a blower row is called for when the live Node Map names a blower. -/
theorem State.calledRows_blower : (s.calledRows.any fun r => r.kind == .blower) = true ↔
    (s.banks.nodeOfClass 3).isSome ∧ s.isLive = true := by
  have hnode {k : RowKind} {a : Option Nat} {r : Row} (hk : k ≠ .blower) (hr : r ∈ rowOfNode k a) : r.kind ≠ .blower :=
    kind_of_mem_rowOfNode hr ▸ hk
  cases hlive : s.isLive with
  | false => simp [State.calledRows, hlive]
  | true =>
    rw [List.any_eq_true]
    constructor
    · rintro ⟨r, hr, hk⟩
      have hk : r.kind = .blower := by simpa using hk
      simp only [State.calledRows, hlive, Bool.not_true, Bool.false_eq_true, if_false, List.mem_append] at hr
      obtain (((hr | hr) | hr) | hr) | hr := hr
      · refine ⟨?_, rfl⟩
        cases hn : s.banks.nodeOfClass 3 with
        | none =>
          rw [hn] at hr
          cases hr
        | some a => rfl
      · obtain ⟨x, -, rfl⟩ := List.mem_map.1 hr
        cases hk
      · exact absurd hk (hnode (k := .compressor) nofun hr)
      · exact absurd hk (hnode (k := .heater) nofun hr)
      · split at hr
        · exact absurd hk (hnode (k := .pump) nofun hr)
        · cases hr
    · rintro ⟨hn, -⟩
      obtain ⟨a, ha⟩ := Option.isSome_iff_exists.1 hn
      refine ⟨Row.created .blower a 0, ?_, rfl⟩
      simp [State.calledRows, hlive, ha, rowOfNode]

theorem OriginFrame.actKey_withValue (v : Nat) (f : OriginFrame) : (f.withValue v).actKey = f.actKey := by
  cases f <;> rfl

/-- R87: offers add ACTs only. -/
theorem Ring.offerAct_acts {g g' : Ring} {dst src fn port v : Nat} (h : g.offerAct dst src fn port v = some g')
    (hg : ∀ f ∈ g.origin, f.actKey.isSome = true) : ∀ f ∈ g'.origin, f.actKey.isSome = true := by
  unfold Ring.offerAct at h
  split at h
  · cases h
    intro f hf
    obtain ⟨x, hx, rfl⟩ := List.mem_map.1 hf
    split
    · rw [OriginFrame.actKey_withValue]
      exact hg x hx
    · exact hg x hx
  · split at h
    · cases h
      intro f hf
      obtain hf | hf := List.mem_append.1 hf
      · exact hg f hf
      · rw [List.mem_singleton.1 hf]
        rfl
    · cases h

theorem Ring.offerRow_acts {g : Ring} (src : Nat) (r : Row) (hg : ∀ f ∈ g.origin, f.actKey.isSome = true) :
    ∀ f ∈ (g.offerRow src r).1.origin, f.actKey.isSome = true := by
  cases hd : r.dirty with
  | false =>
    rw [Ring.offerRow_clean hd]
    exact hg
  | true =>
    obtain ⟨g', ho, heq⟩ | ⟨heq, -⟩ := g.offerRow_dirty (src := src) hd
    · rw [heq]
      exact Ring.offerAct_acts ho hg
    · rw [heq]
      exact hg

theorem offerRows_acts {g : Ring} (src : Nat) (rs : List Row) (hg : ∀ f ∈ g.origin, f.actKey.isSome = true) :
    ∀ f ∈ (offerRows src g rs).1.origin, f.actKey.isSome = true := by
  induction rs generalizing g with
  | nil => exact hg
  | cons r rs ih => exact ih (Ring.offerRow_acts src r hg)

end Sys2Proof.Machine
end

section
/-! SOFT RESET as a whole (R178). -/

namespace Sys2Proof.Machine
open State

variable (s : State)

/-! ### The Water Monitor (R123) -/

theorem State.softWater_kind : s.softWater.kind = s.pageKind := by
  unfold State.softWater
  extract_lets w
  split
  · rfl
  · rfl

theorem State.pageKind_eq : s.pageKind = if s.isLive then if s.param 75 0 = 1 then some .drain else some .tank else none := by
  unfold State.pageKind
  cases s.isLive
  · rfl
  · simp

theorem State.softWater_drain (h : s.pageKind = some .drain) :
    s.softWater.certain = true ∧ s.softWater.state = if s.lines.float then .full else .drain := by
  unfold State.softWater
  extract_lets w
  rw [if_pos h]
  exact ⟨rfl, rfl⟩

theorem State.softWater_other (h : s.pageKind ≠ some .drain) :
    s.softWater.certain = false ∧ s.softWater.state = if s.lines.float then .full else .unknown := by
  unfold State.softWater
  extract_lets w
  rw [if_neg h]
  exact ⟨rfl, rfl⟩

theorem State.softWater_kept : s.softWater.pumpFault = s.water.pumpFault ∧ s.softWater.float = s.lines.float ∧
    s.softWater.known = false ∧ s.softWater.removed = false ∧ s.softWater.probe = none ∧ s.softWater.estimate = 0 := by
  unfold State.softWater
  extract_lets w
  split <;> exact ⟨rfl, rfl, rfl, rfl, rfl, rfl⟩

/-! ### The posts (R91, R123, R156, R186) -/

section posts
variable {e : Instr} (fault : Bool)

theorem State.softWaterPosts_subset : s.softWaterPosts ⊆ s.softPosts fault := fun e h => by
  simp only [State.softPosts, List.mem_append]
  exact .inl (.inl (.inr h))

theorem State.softFilterPosts_subset : s.filters.softPosts ⊆ s.softPosts fault := fun e h => by
  simp only [State.softPosts, List.mem_append]
  exact .inl (.inr h)

theorem State.softLevelPosts_subset : softLevelPosts s.rc.level ⊆ s.softPosts fault := fun e h => by
  simp only [State.softPosts, List.mem_append]
  exact .inr h

theorem State.softPosts_fault : .conditionPost .blowerFault false ∈ s.softPosts true := by
  simp [State.softPosts]

theorem State.softPosts_door : .conditionPost .doorOpen s.lines.door ∈ s.softPosts fault := by
  simp [State.softPosts]

end posts

theorem State.softWaterPosts_tank : if claimsTank s.water.state then .inhibitClaim .tank ∈ s.softWaterPosts
    else .inhibitRelease .tank ∈ s.softWaterPosts := by
  split
  · next h => simp [State.softWaterPosts, h]
  · next h => simp [State.softWaterPosts, h]

theorem State.softWaterPosts_pump (h : s.water.pumpFault = true) :
    .inhibitClaim .pump ∈ s.softWaterPosts ∧ .conditionPost .pumpFault true ∈ s.softWaterPosts := by
  simp [State.softWaterPosts, h]

theorem State.softWaterPosts_full (h : s.water.state = .full) : .conditionPost .tankFull true ∈ s.softWaterPosts := by
  simp [State.softWaterPosts, h]

theorem State.softWaterPosts_report : ∃ r, .tankReport r ∈ s.softWaterPosts ∧ r.state = s.water.state ∧
    r.estimate = s.water.estimate ∧ r.known = s.water.known :=
  ⟨_, List.mem_append_right _ (List.mem_singleton.2 rfl), rfl, rfl, rfl⟩

theorem Filters.softPosts_worn {f : Filters} {st : Stage} (hf : (f.stage st).fitted = true)
    (h : (f.stage st).state = .worn) : .conditionPost .filterWorn true ∈ f.softPosts := by
  have hworn := (Filters.wornNow_iff f).2 ⟨st, hf, h⟩
  simp [Filters.softPosts, hworn]

theorem Filters.softPosts_spent {f : Filters} {st : Stage} (hf : (f.stage st).fitted = true)
    (h : (f.stage st).state = .spent) : .conditionPost .filterSpent true ∈ f.softPosts := by
  have hspent := (Filters.spentNow_iff f).2 ⟨st, hf, h⟩
  simp [Filters.softPosts, hspent]

theorem softLevelPosts_mem (l : RunLevel) :
    (if l = .watch then .inhibitClaim .run ∈ softLevelPosts l else .inhibitRelease .run ∈ softLevelPosts l) ∧
    (if l = .halt then .inhibitClaim .halt ∈ softLevelPosts l else .inhibitRelease .halt ∈ softLevelPosts l) ∧
    .cycleRunLevelChange l ∈ softLevelPosts l ∧ .ringRunLevelChange l ∈ softLevelPosts l ∧
    .muRunLevelChange l ∈ softLevelPosts l ∧ .conditionPost .unconfigured (decide (l = .unconfigured)) ∈ softLevelPosts l := by
  cases l <;> decide

/-! ### The whole -/

theorem exec_softResetTaken (a b : Bool) (hheld : s.held = false) : exec (.softResetTaken a b) s =
    .next (if s.sendingSoft then (s.took (.softResetTaken a b)).softReset a b else s.took (.softResetTaken a b)) := by
  show execSoftResetTaken s a b = _
  rw [execSoftResetTaken]
  exact taking_awake s _ _ hheld

theorem State.softReset_posts (a b : Bool) : (s.softReset a b).posts =
    s.posts.filter (· == .filterSwapTaken) ++ (s.softBlocks a b).softPosts s.inter.fault := rfl

theorem State.softReset_ring (a b : Bool) : ({ (s.softReset a b).ring with
    origin := [], headWait := none } : Ring) = s.ring.softReset a :=
  State.offerDirty_frame ((s.softBlocks a b).post ((s.softBlocks a b).softPosts s.inter.fault))

theorem State.softReset_origin (a b : Bool) : ∀ f ∈ (s.softReset a b).ring.origin, f.actKey.isSome = true :=
  offerRows_acts _ _ (offerRows_acts (g := s.ring.softReset a) _ _ fun _ h => nomatch h)

theorem State.softReset_rows (a b : Bool) :
    (s.softReset a b).inter.rows.map (fun r => { r with dirty := false, lastSent := none }) =
      s.calledRows.map fun r => { r with dirty := false, lastSent := none } :=
  offerRows_rows _ _ _

/-- R91: the rebuilt rows have no request and output 0. -/
theorem State.softReset_row {a b : Bool} {r : Row} (h : r ∈ (s.softReset a b).inter.rows) :
    r.commanded = 0 ∧ r.normal = none ∧ r.cycle = none := by
  have hmem : ({ r with dirty := false, lastSent := none } : Row) ∈
      s.calledRows.map fun r => { r with dirty := false, lastSent := none } := by
    rw [← s.softReset_rows a b]
    exact List.mem_map_of_mem h
  obtain ⟨x, hx, he⟩ := List.mem_map.1 hmem
  obtain ⟨k, d, p, rfl⟩ := s.calledRows_created hx
  exact ⟨(congrArg Row.commanded he).symm, (congrArg Row.normal he).symm, (congrArg Row.cycle he).symm⟩

/-- Settles O22: the state of each block after SOFT RESET, and the posts. -/
theorem softResetClearsAndKeeps : Obligations.SoftResetClearsAndKeeps := by
  refine ⟨fun a b s hheld hsoft => ?_, fun a b s hheld hsoft => ?_⟩
  · rw [exec_softResetTaken s a b hheld, hsoft]
    rfl
  have hexec : exec (.softResetTaken a b) s = .next ((s.took (.softResetTaken a b)).softReset a b) := by
    rw [exec_softResetTaken s a b hheld, hsoft]
    rfl
  obtain ⟨u, hu⟩ : ∃ u, u = s.took (.softResetTaken a b) := ⟨_, rfl⟩
  obtain ⟨t, ht⟩ : ∃ t, t = u.softReset a b := ⟨_, rfl⟩
  rw [← hu, ← ht] at hexec
  have hring : ({ t.ring with origin := [], headWait := none } : Ring) = s.ring.softReset a := by
    rw [ht, hu]
    exact State.softReset_ring _ a b
  have hposts {e : Instr} (h : e ∈ (s.softBlocks a b).softPosts s.inter.fault) : e ∈ t.posts := by
    rw [ht, hu]
    exact List.mem_append_right _ h
  have hwater : t.water = s.softWater := by rw [ht, hu]; rfl
  have hcycles : t.cycles = s.softCycles s.startLevel := by rw [ht, hu]; rfl
  have hbanks : t.banks = s.banks.softReset s.free b := by rw [ht, hu]; rfl
  have hleaving : t.inter.leaving = [] := by rw [ht]; rfl
  obtain ⟨hpumpFault, hfloat, hknown, hremoved, hprobe, hestimate⟩ := s.softWater_kept
  have hlevel {e : Instr} (h : e ∈ softLevelPosts s.startLevel) : e ∈ t.posts :=
    hposts ((s.softBlocks a b).softLevelPosts_subset _ h)
  obtain ⟨hrunPost, hhaltPost, hcyclePost, hringPost, hmuPost, hunconfiguredPost⟩ := softLevelPosts_mem s.startLevel
  have hsame (st : Stage) : s.filters.stage st = (s.softBlocks a b).filters.stage st := by cases st <;> rfl
  refine ⟨t, hexec, ?own, ?forward, ?slot, ?port, ?reserved, ?outstanding, ?late, ?nextNumber, ?timer, ?enabled, ?discard,
    ?origin, ?trans, ?alloc, fun z hz => ?zone, ?rows, fun r hr => ?row, hleaving, ?heldBlower, ?heldComp, ?heldHeater, ?settle,
    ?proof, ?fault, ?mismatch, ?clock, ?door, ?airflow, ?pump, ?tank, ?run, ?halt, ?dry, ?pumpFault, ?float, ?known, ?removed,
    ?probe, ?estimate, ?kind, ?certain, ?state, ?queue, ?running, ?suspended, ?cycleDoor, ?tankHold, ?level,
    fun hlaw => ⟨?ends, ?cancels, ?keeps⟩, fun st => ?stage, ?derate, ?filterDoor, ?baseline, ?live, fun id hid => ?bank,
    ?generation, ?engine, ?swapPending, ?marks, ?progress, fun h => ?idle, fun p h => ?validating, fun op p h => ?torn,
    fun op h hb hp => ?between, ?muQueue, ?muFlags, ?muConditions, ?maskFlags, ?maskConditions, ?owed, ?softWait, ?rc, ?lines,
    ?held, fun h => ?faultPost, ?doorPost, ?tankPost, fun h => ?pumpPost, fun h => ?fullPost, ?report, fun st hf => ?filterPost,
    ?runPost, ?haltPost, ?cyclePost, ?ringPost, ?muPost, ?unconfiguredPost, fun h => ?swapPost⟩
  case own => exact (congrArg Ring.own hring : _)
  case forward => exact (congrArg Ring.forward hring : _)
  case slot => exact (congrArg Ring.slot hring : _)
  case port => exact (congrArg Ring.port hring : _)
  case reserved => exact (congrArg Ring.reserved hring : _)
  case outstanding => exact (congrArg Ring.outstanding hring : _)
  case late => exact (congrArg Ring.late hring : _)
  case nextNumber => exact (congrArg Ring.nextNumber hring : _)
  case timer => exact (congrArg Ring.timer hring : _)
  case enabled => exact (congrArg Ring.enabled hring : _)
  case discard => exact (congrArg Ring.discard hring : _)
  case origin =>
    rw [ht]
    exact u.softReset_origin a b
  case zone =>
    have hzones : t.zones = s.softZones := by rw [ht, hu]; rfl
    rw [State.zone, hzones]
    exact s.softZones_get hz
  case rows =>
    rw [ht, hu]
    exact State.softReset_rows _ a b
  case row =>
    rw [ht] at hr
    exact u.softReset_row hr
  case settle =>
    have hsettle : t.inter.settle =
        if (s.calledRows.any fun r => r.kind == .blower) = true then some (s.param 74 3) else none := by
      rw [ht, hu]
      rfl
    rw [hsettle]
    exact if_congr s.calledRows_blower rfl rfl
  case trans | alloc | heldBlower | heldComp | heldHeater | proof | fault | mismatch | clock | door | airflow | pump | tank
      | run | halt | dry | queue | running | suspended | cycleDoor | tankHold | level | derate | filterDoor | baseline
      | muQueue | muFlags | muConditions | maskFlags | maskConditions | owed | softWait | rc | lines =>
    rw [ht, hu]
    rfl
  case held =>
    rw [ht, hu]
    exact hheld
  case pumpFault => rw [hwater, hpumpFault]
  case float => rw [hwater, hfloat]
  case known => rw [hwater, hknown]
  case removed => rw [hwater, hremoved]
  case probe => rw [hwater, hprobe]
  case estimate => rw [hwater, hestimate]
  case kind => rw [hwater, s.softWater_kind, s.pageKind_eq]
  case certain =>
    rw [hwater, s.softWater_kind]
    by_cases h : s.pageKind = some .drain
    · simp [h, (s.softWater_drain h).1]
    · simp [h, (s.softWater_other h).1]
  case state =>
    rw [hwater, s.softWater_kind]
    by_cases h : s.pageKind = some .drain
    · rw [(s.softWater_drain h).2, if_pos h]
    · rw [(s.softWater_other h).2, if_neg h]
  case ends =>
    rw [State.cycleLaw_iff] at hlaw
    rw [hcycles]
    rintro c (hc | hc)
    · exact s.softCycles_running _ hlaw hc
    · exact s.softCycles_suspended _ hlaw hc
  case cancels =>
    rw [State.cycleLaw_iff] at hlaw
    rw [hcycles]
    exact fun c hc => s.softCycles_queued _ hlaw hc
  case keeps =>
    rw [hcycles]
    exact fun k hk => s.softCycles_absent _ hk
  case stage =>
    rw [ht, hu]
    cases st <;> rfl
  case live => rw [hbanks, (s.banks.cutTo_softReset _ b).live]
  case bank =>
    rw [hbanks]
    exact s.banks.softReset_live_bank _ b hid
  case generation => rw [hbanks, s.banks.generation_softReset]
  case engine => rw [hbanks, (s.banks.cutTo_softReset _ b).engine]
  case swapPending => rw [hbanks, Banks.swapPending_softReset]
  case marks | progress =>
    rw [hbanks]
    rfl
  case idle =>
    rw [hbanks]
    exact s.banks.softReset_of_cutOff _ b (s.banks.cutOff_idle _ b h)
  case validating =>
    rw [hbanks]
    exact s.banks.softReset_of_cutOff _ b (s.banks.cutOff_validating _ b h)
  case torn =>
    rw [hbanks]
    obtain ⟨new, hcut⟩ : ∃ new, s.banks.cutOff s.free b = (s.banks.tear s.free p new).ends op (some p) .torn := by
      obtain ⟨rfl, h⟩ | ⟨h, rfl, hb⟩ := h
      · exact ⟨_, s.banks.cutOff_writing _ b h⟩
      · obtain ⟨new, hcut⟩ := s.banks.cutOff_paging s.free b h
        exact ⟨new, hcut.trans (s.banks.cutPage_torn _ b op new hb)⟩
    obtain ⟨hshadow, hrecord⟩ := s.banks.softReset_of_cutOff s.free b hcut
    rw [hshadow, hrecord]
    exact s.banks.torn_page s.free op p new rfl
  case between =>
    rw [hbanks]
    obtain ⟨new, hcut⟩ := s.banks.cutOff_paging s.free b h
    exact s.banks.softReset_of_cutOff _ b (hcut.trans (s.banks.cutPage_between _ b op new hb hp))
  case faultPost =>
    apply hposts
    rw [h]
    exact State.softPosts_fault _
  case doorPost => exact hposts ((s.softBlocks a b).softPosts_door _)
  case tankPost =>
    rw [hwater]
    have htank := (s.softBlocks a b).softWaterPosts_tank
    split at htank
    · next h => exact (if_pos h).mpr (hposts ((s.softBlocks a b).softWaterPosts_subset _ htank))
    · next h => exact (if_neg h).mpr (hposts ((s.softBlocks a b).softWaterPosts_subset _ htank))
  case pumpPost =>
    obtain ⟨h1, h2⟩ := (s.softBlocks a b).softWaterPosts_pump (hpumpFault.trans h)
    exact ⟨hposts ((s.softBlocks a b).softWaterPosts_subset _ h1), hposts ((s.softBlocks a b).softWaterPosts_subset _ h2)⟩
  case fullPost =>
    rw [hwater] at h
    exact hposts ((s.softBlocks a b).softWaterPosts_subset _ ((s.softBlocks a b).softWaterPosts_full h))
  case report =>
    obtain ⟨r, hr, h1, h2, h3⟩ := (s.softBlocks a b).softWaterPosts_report
    rw [hwater]
    exact ⟨r, hposts ((s.softBlocks a b).softWaterPosts_subset _ hr), h1, h2.trans hestimate, h3.trans hknown⟩
  case filterPost =>
    exact ⟨fun h => hposts ((s.softBlocks a b).softFilterPosts_subset _ (Filters.softPosts_worn (hsame st ▸ hf) (hsame st ▸ h))),
      fun h => hposts ((s.softBlocks a b).softFilterPosts_subset _ (Filters.softPosts_spent (hsame st ▸ hf) (hsame st ▸ h)))⟩
  case runPost =>
    split at hrunPost
    · next h => exact (if_pos h).mpr (hlevel hrunPost)
    · next h => exact (if_neg h).mpr (hlevel hrunPost)
  case haltPost =>
    split at hhaltPost
    · next h => exact (if_pos h).mpr (hlevel hhaltPost)
    · next h => exact (if_neg h).mpr (hlevel hhaltPost)
  case cyclePost => exact hlevel hcyclePost
  case ringPost => exact hlevel hringPost
  case muPost => exact hlevel hmuPost
  case unconfiguredPost => exact hlevel hunconfiguredPost
  case swapPost =>
    rw [ht, hu]
    refine List.mem_append_left _ (List.mem_filter.2 ⟨?_, rfl⟩)
    have hne : Instr.filterSwapTaken ≠ Instr.softResetTaken a b := nofun
    exact (List.mem_erase_of_ne hne).2 h

end Sys2Proof.Machine
end

section
/-! The zone records (R42–R55): stores, holds, demands, sweep closes and swaps. -/

namespace Sys2Proof.Machine
open State

/-! ### One zone of the table -/

theorem modifyAt_self {α : Type} {f : α → α} {l : List α} {i : Nat} {x : α} (h : l[i]? = some x) (hf : f x = x) :
    modifyAt f l i = l := by
  refine List.ext_getElem? fun j => ?_
  rw [getElem?_modifyAt]
  split
  · next hj =>
    subst hj
    rw [h, Option.map_some, hf]
  · rfl

theorem Readings.get_set (r : Readings) (f g : ZoneField) (x : Reading) :
    (r.set f x).get g = if g = f then x else r.get g := by
  cases f <;> cases g <;> rfl

variable {s : State} {i : Nat} {z : Zone}

theorem State.zone_eq (h : s.zones[i]? = some z) : s.zone i = z := by
  rw [State.zone, List.getD_eq_getElem?_getD, h]
  rfl

/-- R42: a zone that is heard of is LIVE. -/
theorem Zone.heard_state (f : ZoneField) (x : Reading) (h : z.state ≠ .absent) : (z.heard f x).state = .live := by
  unfold Zone.heard
  cases hz : z.state <;> simp_all

theorem State.updateZone_at (f : Zone → Zone) (h : s.zones[i]? = some z) (hz : z.state ≠ .absent) :
    (s.updateZone i f).zones[i]? = some (s.recomputed i (f z)) := by
  simp [State.updateZone, getElem?_modifyAt, h, hz]

theorem State.updateZone_other (f : Zone → Zone) {j : Nat} (hj : j ≠ i) :
    (s.updateZone i f).zones[j]? = s.zones[j]? := by
  simp [State.updateZone, getElem?_modifyAt, hj]

/-- §3.1: an ABSENT zone stays as it is. -/
theorem State.updateZone_absent (f : Zone → Zone) (h : s.zones[i]? = some z) (hz : z.state = .absent) :
    s.updateZone i f = s :=
  congrArg s.setZones (modifyAt_self h (if_pos hz))

theorem State.recomputed_live (h : z.state = .live) :
    s.recomputed i z = z.withDemands (s.setpoint i (s.zoneRegime z.boost.isSome)) := if_pos h

theorem State.recomputed_other (h : z.state ≠ .live) : s.recomputed i z = z := if_neg h

/-- R49: a recomputation changes the demands and the marks alone. -/
theorem State.recomputed_rest (s : State) (i : Nat) (z : Zone) :
    { s.recomputed i z with clean := z.clean, dry := z.dry, cleanMark := z.cleanMark, dryMark := z.dryMark } = z := by
  unfold State.recomputed
  split <;> rfl

/-! ### The events of one zone -/

/-- The command updates the zone's record z to x, and recomputes it. -/
def State.Updates (s : State) (i : Nat) (z : Zone) (c : Instr) (x : Zone) : Prop :=
  ∃ f, exec c s = .next ((s.took c).updateZone i f) ∧ f z = x

theorem State.Updates.result {c : Instr} {x : Zone} (h : s.Updates i z c x) (hz : s.zones[i]? = some z)
    (hstate : z.state ≠ .absent) : ∃ t, exec c s = .next t ∧ t.zones[i]? = some (s.recomputed i x) ∧
      (∀ j, j ≠ i → t.zones[j]? = s.zones[j]?) ∧ t.setZones s.zones = s.took c := by
  obtain ⟨f, hexec, rfl⟩ := h
  exact ⟨_, hexec, State.updateZone_at (s := s.took c) f hz hstate,
    fun j hj => State.updateZone_other (s := s.took c) f hj, rfl⟩

theorem State.Updates.absent {c : Instr} {x : Zone} (h : s.Updates i z c x) (hz : s.zones[i]? = some z)
    (hstate : z.state = .absent) : exec c s = .next (s.took c) := by
  obtain ⟨f, hexec, -⟩ := h
  rw [hexec, State.updateZone_absent (s := s.took c) f hz hstate]

section events
variable (n : Fin 8) (hheld : s.held = false)
include hheld

theorem State.updates_store (f : ZoneField) (v : Int) (q : Quality) :
    s.Updates n.val z (.zoneStore n f v q) (z.heard f { value := v, quality := q }) :=
  ⟨_, taking_awake s (.zoneStore n f v q) (State.updateZone n.val (Zone.heard f { value := v, quality := q })) hheld, rfl⟩

theorem State.updates_fault (f : ZoneField) :
    s.Updates n.val z (.zoneFaultReport n f) (z.heard f { value := (z.readings.get f).value, quality := .fault }) :=
  ⟨_, taking_awake s (.zoneFaultReport n f) (State.updateZone n.val fun r =>
    r.heard f { value := (r.readings.get f).value, quality := .fault }) hheld, rfl⟩

theorem State.updates_toggle : s.Updates n.val z (.boostToggle n)
    { z with boost := if z.boost.isSome then none else some (60 * s.param 78 5) } :=
  ⟨_, taking_awake s (.boostToggle n) (fun s => s.updateZone n.val (Zone.toggleBoost (60 * s.param 78 5))) hheld, rfl⟩

theorem State.updates_open : s.Updates n.val z (.windowOpen n) { z with window := some (60 * s.param 78 6) } :=
  ⟨_, taking_awake s (.windowOpen n) (fun s => s.updateZone n.val fun r => { r with window := some (60 * s.param 78 6) }) hheld,
    rfl⟩

theorem exec_windowShut : exec (.windowShut n) s = .next ((s.took (.windowShut n)).endWindow n.val) :=
  taking_awake s (.windowShut n) (State.endWindow n.val) hheld

theorem exec_windowTimerExpiry :
    exec (.windowTimerExpiry n) s = .next ((s.took (.windowTimerExpiry n)).endWindow n.val) :=
  taking_awake s (.windowTimerExpiry n) (State.endWindow n.val) hheld

theorem exec_boostTimerExpiry :
    exec (.boostTimerExpiry n) s = .next ((s.took (.boostTimerExpiry n)).endBoost n.val) :=
  taking_awake s (.boostTimerExpiry n) (State.endBoost n.val) hheld

end events

theorem State.endWindow_on (h : s.zones[i]? = some z) (hw : z.window ≠ none) :
    s.endWindow i = s.updateZone i fun r => { r with window := none } :=
  if_pos (by rw [State.zone_eq h]; exact Option.isSome_iff_ne_none.2 hw)

theorem State.endWindow_off (h : s.zones[i]? = some z) (hw : z.window = none) : s.endWindow i = s :=
  if_neg (by rw [State.zone_eq h, hw]; simp)

theorem State.endBoost_on (h : s.zones[i]? = some z) (hb : z.boost ≠ none) :
    s.endBoost i = s.updateZone i fun r => { r with boost := none } :=
  if_pos (by rw [State.zone_eq h]; exact Option.isSome_iff_ne_none.2 hb)

theorem State.endBoost_off (h : s.zones[i]? = some z) (hb : z.boost = none) : s.endBoost i = s :=
  if_neg (by rw [State.zone_eq h, hb]; simp)

section ends
variable (n : Fin 8) (hheld : s.held = false) (hz : s.zones[n.val]? = some z)
include hheld hz

theorem State.updates_shut (h : z.window ≠ none) : s.Updates n.val z (.windowShut n) { z with window := none } :=
  ⟨_, (exec_windowShut n hheld).trans (congrArg _ (State.endWindow_on (s := s.took _) hz h)), rfl⟩

theorem State.updates_windowExpiry (h : z.window ≠ none) :
    s.Updates n.val z (.windowTimerExpiry n) { z with window := none } :=
  ⟨_, (exec_windowTimerExpiry n hheld).trans (congrArg _ (State.endWindow_on (s := s.took _) hz h)), rfl⟩

theorem State.updates_boostExpiry (h : z.boost ≠ none) :
    s.Updates n.val z (.boostTimerExpiry n) { z with boost := none } :=
  ⟨_, (exec_boostTimerExpiry n hheld).trans (congrArg _ (State.endBoost_on (s := s.took _) hz h)), rfl⟩

end ends

/-- Settles O23: a store and a fault report, each one event of the zone. -/
theorem storesReachTheirReading : Obligations.StoresReachTheirReading := by
  intro z f v q s zo hheld hz c x hc
  have hupdate : s.Updates z.val zo c (zo.heard f x) := by
    obtain ⟨rfl, rfl⟩ | ⟨rfl, rfl⟩ := hc
    · exact State.updates_store z hheld f v q
    · exact State.updates_fault z hheld f
  refine ⟨fun habsent => ?_, hupdate.absent hz⟩
  obtain ⟨t, hexec, hat, hother, hframe⟩ := hupdate.result hz habsent
  have hrest := s.recomputed_rest z.val (zo.heard f x)
  have hreadings : (s.recomputed z.val (zo.heard f x)).readings = zo.readings.set f x := (congrArg Zone.readings hrest : _)
  refine ⟨t, _, hexec, hat, ?_, fun g hg => ?_, (congrArg Zone.stored hrest : _), (congrArg Zone.missed hrest : _), ?_,
    (congrArg Zone.head hrest : _), (congrArg Zone.lastSweep hrest : _), (congrArg Zone.boost hrest : _),
    (congrArg Zone.window hrest : _), hother, hframe⟩
  · rw [hreadings, Readings.get_set, if_pos rfl]
  · rw [hreadings, Readings.get_set, if_neg hg]
  · exact (congrArg Zone.state hrest : _).trans (Zone.heard_state f x habsent)

/-! ### Demands -/

theorem Reading.counts_iff (r : Reading) : r.counts = true ↔ r.quality = .good ∨ r.quality = .clamped := by
  simp [Reading.counts]

/-- R47: a reading is above its target. -/
theorem atOrBelow_iff (r : Reading) (target : Nat) :
    atOrBelow r target = false ↔ r.counts = true ∧ (target : Int) < r.value := by
  simp [atOrBelow]

theorem startTest_iff (r : Reading) (target span : Nat) :
    startTest r target span = true ↔ r.counts = true ∧ (span : Int) < 10 * (r.value - target) := by
  simp [startTest]

theorem hysteresis_of_set (start below : Bool) : hysteresis true start below = true ↔ below = false := by
  cases below <;> simp [hysteresis]

theorem hysteresis_of_clear (start below : Bool) : hysteresis false start below = true ↔ start = true := by
  simp [hysteresis]

section demands
variable (p : Setpoint) (x : Zone)

theorem Zone.withDemands_clean : (x.withDemands p).clean = if x.boost.isSome then 100
    else if (x.withDemands p).cleanMark then min (max (curveValue x.readings.pmFine p.pmTarget p.pmSpan)
      (curveValue x.readings.voc p.vocTarget p.vocSpan)) p.cleanCap
    else 0 := rfl

theorem Zone.withDemands_dry : (x.withDemands p).dry = if x.window.isSome then 0
    else if (x.withDemands p).dryMark then min (curveValue x.readings.rh p.rhTarget p.rhSpan) p.dryCap
    else 0 := rfl

theorem Zone.withDemands_dryMark : (x.withDemands p).dryMark =
    hysteresis x.dryMark (startTest x.readings.rh p.rhTarget p.rhSpan) (atOrBelow x.readings.rh p.rhTarget) := rfl

theorem Zone.withDemands_cleanMark : (x.withDemands p).cleanMark = hysteresis x.cleanMark
    (startTest x.readings.pmFine p.pmTarget p.pmSpan || startTest x.readings.voc p.vocTarget p.vocSpan)
    (atOrBelow x.readings.pmFine p.pmTarget && atOrBelow x.readings.voc p.vocTarget) := rfl

end demands

theorem exec_regimeChanged (hheld : s.held = false) : exec .regimeChanged s = .next ((s.took .regimeChanged).setZones
    (s.zones.zipIdx.map fun x => (s.took .regimeChanged).recomputed x.2 x.1)) :=
  taking_awake s .regimeChanged (fun s => s.setZones (s.zones.zipIdx.map fun x : Zone × Nat => s.recomputed x.2 x.1)) hheld

theorem zipIdx_map_at {α β : Type} {l : List α} {x : α} (g : Nat → α → β) (h : l[i]? = some x) :
    (l.zipIdx.map fun x => g x.2 x.1)[i]? = some (g i x) := by
  simp [h]

/-- R55: a zone that keeps its head is recomputed. -/
theorem State.swapZone_kept {a : Nat} (h : s.banks.headOf i = some a) (hz : z.head = some a) :
    s.swapZone i z = s.recomputed i z := by
  simp [State.swapZone, h, hz]

theorem State.swapZone_changed {a : Nat} (h : s.banks.headOf i = some a) (hz : z.head ≠ some a) :
    s.swapZone i z = Zone.fresh .waiting (some a) := by
  simp [State.swapZone, h, hz]

theorem State.swapZone_gone (h : s.banks.headOf i = none) : s.swapZone i z = Zone.fresh .absent none := by
  simp [State.swapZone, h]

/-- Settles O24: every event that recomputes a zone leaves it recomputed. -/
theorem demandsFollowTheSetpoints : Obligations.DemandsFollowTheSetpoints := by
  refine ⟨fun s hheld => ⟨_, exec_regimeChanged hheld, rfl, by simp, fun i z hz hstate => ?_⟩, ?_⟩
  · refine (zipIdx_map_at (fun i z => (s.took .regimeChanged).recomputed i z) hz).trans (congrArg some ?_)
    exact State.recomputed_other hstate
  · intro s i j c z x p hheld hz habsent hc hlive hj hp
    have hresult : ∃ t, exec c s = .next t ∧ t.zones[i.val]? = some (s.recomputed i.val x) := by
      have hone (h : s.Updates i.val z c x) : ∃ t, exec c s = .next t ∧ t.zones[i.val]? = some (s.recomputed i.val x) := by
        obtain ⟨t, hexec, hat, -⟩ := h.result hz habsent
        exact ⟨t, hexec, hat⟩
      obtain ⟨rfl, rfl⟩ | ⟨f, v, q, rfl, rfl⟩ | ⟨f, rfl, rfl⟩ | ⟨rfl, rfl⟩ | ⟨rfl, rfl⟩ | ⟨rfl | rfl, hw, rfl⟩ | ⟨rfl, hb, rfl⟩ |
        ⟨rfl, hhead, hkept, rfl⟩ := hc
      · exact ⟨_, exec_regimeChanged hheld, zipIdx_map_at (fun i z => (s.took .regimeChanged).recomputed i z) hz⟩
      · exact hone (State.updates_store i hheld f v q)
      · exact hone (State.updates_fault i hheld f)
      · exact hone (State.updates_toggle i hheld)
      · exact hone (State.updates_open i hheld)
      · exact hone (State.updates_shut i hheld hz hw)
      · exact hone (State.updates_windowExpiry i hheld hz hw)
      · exact hone (State.updates_boostExpiry i hheld hz hb)
      · obtain ⟨a, ha⟩ := Option.ne_none_iff_exists'.1 hhead
        exact ⟨_, exec_zoneSwapTaken s hheld,
          (zipIdx_map_at s.swapZone hz).trans (congrArg some (State.swapZone_kept (hkept.trans ha) ha))⟩
    obtain ⟨t, hexec, hat⟩ := hresult
    have hpage : s.setpoint i.val (s.zoneRegime x.boost.isSome) = p := by
      rw [hp, hj]
      rfl
    have hrest := s.recomputed_rest i.val x
    rw [State.recomputed_live hlive, hpage] at hat hrest
    refine ⟨t, _, hexec, hat, fun h => ?_, fun h => ?_, fun h hm => ?_, fun hm => ?_, fun h hm => ?_, fun h hm => ?_,
      fun Counts hcounts => ?_, hrest⟩
    · simp [x.withDemands_clean p, h]
    · simp [x.withDemands_dry p, h]
    · simp [x.withDemands_clean p, h, hm]
    · simp [x.withDemands_dry p, hm]
    · simp [x.withDemands_clean p, h, hm]
    · simp [x.withDemands_dry p, h, hm]
    have hcounts (r : Reading) : Counts r ↔ r.counts = true := (hcounts r).trans r.counts_iff.symm
    rw [x.withDemands_dryMark p, x.withDemands_cleanMark p]
    refine ⟨fun h => ?_, fun h => ?_, fun h => ?_, fun h => ?_⟩
    · rw [h, hysteresis_of_set, atOrBelow_iff, hcounts]
    · rw [h, hysteresis_of_clear, startTest_iff, hcounts]
    · rw [h, hysteresis_of_set, Bool.and_eq_false_iff, atOrBelow_iff, atOrBelow_iff, hcounts, hcounts]
    · rw [h, hysteresis_of_clear, Bool.or_eq_true, startTest_iff, startTest_iff, hcounts, hcounts]

/-! ### Holds, closes and swaps -/

theorem Zone.withDemands_hold (p : Setpoint) (x : Zone) :
    (x.boost.isSome = true → (x.withDemands p).clean = 100) ∧ (x.window.isSome = true → (x.withDemands p).dry = 0) :=
  ⟨fun h => by simp [x.withDemands_clean p, h], fun h => by simp [x.withDemands_dry p, h]⟩

/-- Settles O25: each event that turns a hold is one update of the zone. -/
theorem holdsTurnOnAndOff : Obligations.HoldsTurnOnAndOff := by
  intro n s z hheld hz
  refine ⟨fun c b w habsent hc => ?_, fun c hc habsent => ?_, fun h => ⟨?_, ?_⟩, fun h => ?_⟩
  · have hupdate : s.Updates n.val z c { z with boost := b, window := w } := by
      obtain ⟨rfl, rfl, rfl⟩ | ⟨rfl, rfl, rfl⟩ | ⟨rfl, hw, rfl, rfl⟩ | ⟨rfl, hw, rfl, rfl⟩ | ⟨rfl, hb, rfl, rfl⟩ := hc
      · exact State.updates_toggle n hheld
      · exact State.updates_open n hheld
      · exact State.updates_shut n hheld hz hw
      · exact State.updates_windowExpiry n hheld hz hw
      · exact State.updates_boostExpiry n hheld hz hb
    obtain ⟨t, hexec, hat, hother, hframe⟩ := hupdate.result hz habsent
    have hrest := s.recomputed_rest n.val { z with boost := b, window := w }
    refine ⟨t, _, hexec, hat, (congrArg Zone.boost hrest : _), (congrArg Zone.window hrest : _), fun hlive hb => ?_,
      fun hlive hw => ?_, fun hlive => State.recomputed_other hlive, (congrArg Zone.readings hrest : _),
      (congrArg Zone.state hrest : _), (congrArg Zone.head hrest : _), (congrArg Zone.stored hrest : _),
      (congrArg Zone.missed hrest : _), (congrArg Zone.lastSweep hrest : _), hother, hframe⟩
    · rw [State.recomputed_live (z := { z with boost := b, window := w }) hlive]
      exact (Zone.withDemands_hold _ _).1 hb
    · rw [State.recomputed_live (z := { z with boost := b, window := w }) hlive]
      exact (Zone.withDemands_hold _ _).2 hw
  · have hshut : (s.took c).endWindow n.val = s.took c := by
      unfold State.endWindow
      split
      · exact State.updateZone_absent (s := s.took c) _ hz habsent
      · rfl
    have hboost : (s.took c).endBoost n.val = s.took c := by
      unfold State.endBoost
      split
      · exact State.updateZone_absent (s := s.took c) _ hz habsent
      · rfl
    obtain rfl | rfl | rfl | rfl | rfl := hc
    · exact (State.updates_toggle n hheld).absent hz habsent
    · exact (State.updates_open n hheld).absent hz habsent
    · rw [exec_windowShut n hheld, hshut]
    · rw [exec_windowTimerExpiry n hheld, hshut]
    · rw [exec_boostTimerExpiry n hheld, hboost]
  · rw [exec_windowShut n hheld, State.endWindow_off (s := s.took _) hz h]
  · rw [exec_windowTimerExpiry n hheld, State.endWindow_off (s := s.took _) hz h]
  · rw [exec_boostTimerExpiry n hheld, State.endBoost_off (s := s.took _) hz h]

section close
variable (n limit : Nat)

theorem Zone.closeSweep_absent (h : z.state = .absent) : z.closeSweep n limit = z := if_pos h

theorem Zone.closeSweep_stored (h : z.state ≠ .absent) (hs : z.stored = true) :
    z.closeSweep n limit = { z with stored := false, lastSweep := some n } := by
  simp [Zone.closeSweep, h, hs]

theorem Zone.closeSweep_missed (h : z.state ≠ .absent) (hs : z.stored = false)
    (hm : z.state = .stale ∨ min 255 (z.missed + 1) < limit) :
    z.closeSweep n limit = { z with missed := min 255 (z.missed + 1) } := by
  have hkeep : ¬ (z.state ≠ .stale ∧ limit ≤ min 255 (z.missed + 1)) := fun hc => hm.elim hc.1 (Nat.not_lt.2 hc.2)
  simp only [Zone.closeSweep, h, hs, if_false, hkeep, Bool.false_eq_true]

theorem Zone.closeSweep_stale (h : z.state ≠ .absent) (hs : z.stored = false) (hm : z.state ≠ .stale)
    (hl : limit ≤ min 255 (z.missed + 1)) : z.closeSweep n limit =
      { z with missed := min 255 (z.missed + 1), state := .stale, clean := 0, dry := 0, cleanMark := false,
               dryMark := false } := by
  simp only [Zone.closeSweep, h, hs, if_false, Bool.false_eq_true]
  exact if_pos ⟨hm, hl⟩

end close

/-- Settles O26: a close and a swap take each zone by itself. -/
theorem sweepClosesAndSwapsTakeEveryZone : Obligations.SweepClosesAndSwapsTakeEveryZone := by
  intro s i z hheld hz
  refine ⟨fun n complete => ?_, ?_⟩
  · refine ⟨_, _, exec_sweepClose s n complete hheld, (List.getElem?_map.trans (congrArg _ hz)), rfl, rfl,
      fun h => Zone.closeSweep_absent n _ h, fun h hs => Zone.closeSweep_stored n _ h hs, fun h hs => ⟨fun hm => ?_, fun hm hl => ?_⟩⟩
    · exact Zone.closeSweep_missed n _ h hs hm
    · exact Zone.closeSweep_stale n _ h hs hm hl
  · refine ⟨_, _, exec_zoneSwapTaken s hheld, zipIdx_map_at s.swapZone hz, rfl, fun h => State.swapZone_gone h,
      fun a h hne => State.swapZone_changed h hne, fun a h hhead hlive => ?_, fun a h hhead => ?_⟩
    · rw [State.swapZone_kept h hhead, State.recomputed_other hlive]
    · rw [State.swapZone_kept h hhead]
      exact s.recomputed_rest i z

end Sys2Proof.Machine
end

section
/-! The zone review (R58–R73): the walk along the Service Order, the record, and the step. -/

namespace Sys2Proof.Machine
open State

/-! ### The walk (R65) -/

/-- R65: the airflow a zone is given out of a remainder. -/
def share (request minimum : Nat → Nat) (remainder z : Nat) : Nat :=
  if 0 < min (request z) remainder ∧ minimum z ≤ min (request z) remainder then min (request z) remainder else 0

section walk
variable {request minimum : Nat → Nat}

theorem share_le_remainder (rem z : Nat) : share request minimum rem z ≤ rem := by
  unfold share
  split
  · exact min_le_right _ _
  · exact Nat.zero_le _

theorem share_le_request (rem z : Nat) : share request minimum rem z ≤ request z := by
  unfold share
  split
  · exact min_le_left _ _
  · exact Nat.zero_le _

theorem minimum_le_share {rem z : Nat} (h : share request minimum rem z ≠ 0) : minimum z ≤ share request minimum rem z := by
  unfold share at h ⊢
  split
  · next hs => exact hs.2
  · next hs => exact absurd (if_neg hs) h

theorem assignWalk_cons (z rem : Nat) (zs : List Nat) : assignWalk request minimum (z :: zs) rem =
    (z, share request minimum rem z) :: assignWalk request minimum zs (rem - share request minimum rem z) := by
  simp only [assignWalk, share]
  split <;> rfl

theorem assignedTo_cons_self (z v : Nat) (w : List (Nat × Nat)) : assignedTo ((z, v) :: w) z = v := by
  simp [assignedTo]

theorem assignedTo_cons_ne {y z : Nat} (h : y ≠ z) (v : Nat) (w : List (Nat × Nat)) :
    assignedTo ((y, v) :: w) z = assignedTo w z := by
  simp [assignedTo, h]

/-- The airflow a walk gives a zone. -/
abbrev given (request minimum : Nat → Nat) (zs : List Nat) (rem : Nat) : Nat → Nat :=
  assignedTo (assignWalk request minimum zs rem)

theorem given_self (z rem : Nat) (zs : List Nat) :
    given request minimum (z :: zs) rem z = share request minimum rem z := by
  rw [given, assignWalk_cons, assignedTo_cons_self]

theorem given_ne {y z : Nat} (h : y ≠ z) (rem : Nat) (zs : List Nat) : given request minimum (y :: zs) rem z =
    given request minimum zs (rem - share request minimum rem y) z := by
  rw [given, assignWalk_cons, assignedTo_cons_ne h]

theorem given_map {y : Nat} {zs l : List Nat} (hy : y ∉ l) (rem : Nat) : l.map (given request minimum (y :: zs) rem) =
    l.map (given request minimum zs (rem - share request minimum rem y)) :=
  List.map_congr_left fun z hz => given_ne (fun e : y = z => hy (e ▸ hz)) rem zs

theorem given_outside {z : Nat} {zs : List Nat} (h : z ∉ zs) (rem : Nat) : given request minimum zs rem z = 0 := by
  induction zs generalizing rem with
  | nil => rfl
  | cons y ys ih =>
    obtain ⟨hy, hys⟩ := not_or.1 (mt List.mem_cons.2 h)
    rw [given_ne (Ne.symm hy), ih hys]

/-- R65: a zone is given its share of what those before it leave. -/
theorem given_at {pre post : List Nat} {z : Nat} (hnodup : (pre ++ z :: post).Nodup) (rem : Nat) :
    given request minimum (pre ++ z :: post) rem z =
      share request minimum (rem - (pre.map (given request minimum (pre ++ z :: post) rem)).sum) z := by
  induction pre generalizing rem with
  | nil => exact given_self z rem post
  | cons y ys ih =>
    obtain ⟨hy, hys⟩ := List.nodup_cons.1 hnodup
    have hz : y ≠ z := fun e => hy (e ▸ List.mem_append_right _ List.mem_cons_self)
    have hpre : y ∉ ys := fun e => hy (List.mem_append_left _ e)
    rw [List.cons_append, given_ne hz, ih hys, List.map_cons, List.sum_cons, given_self, given_map hpre, Nat.sub_sub]

theorem given_le_request (zs : List Nat) (rem z : Nat) : given request minimum zs rem z ≤ request z := by
  induction zs generalizing rem with
  | nil => exact Nat.zero_le _
  | cons y ys ih =>
    by_cases h : y = z
    · subst h
      rw [given_self]
      exact share_le_request rem y
    · rw [given_ne h]
      exact ih _

theorem minimum_le_given {zs : List Nat} {rem z : Nat} (h : given request minimum zs rem z ≠ 0) :
    minimum z ≤ given request minimum zs rem z := by
  induction zs generalizing rem with
  | nil => exact absurd rfl h
  | cons y ys ih =>
    by_cases hy : y = z
    · subst hy
      rw [given_self] at h ⊢
      exact minimum_le_share h
    · rw [given_ne hy] at h ⊢
      exact ih h

/-- R65: no more is given than there is. -/
theorem given_sum_le {zs : List Nat} (hnodup : zs.Nodup) (rem : Nat) :
    (zs.map (given request minimum zs rem)).sum ≤ rem := by
  induction zs generalizing rem with
  | nil => exact Nat.zero_le _
  | cons y ys ih =>
    obtain ⟨hy, hys⟩ := List.nodup_cons.1 hnodup
    rw [List.map_cons, List.sum_cons, given_self, given_map hy]
    have hrest := ih hys (rem - share request minimum rem y)
    have hshare := share_le_remainder (request := request) (minimum := minimum) rem y
    omega

end walk

/-! ### Sums over the zones -/

/-- Zones outside the order count nothing. -/
theorem zones_sum {order : List Nat} (hnodup : order.Nodup) (h8 : ∀ z ∈ order, z < 8) (f : Nat → Nat)
    (hf : ∀ z, z ∉ order → f z = 0) : ((List.range 8).map f).sum = (order.map f).sum := by
  rw [← List.sum_toFinset f List.nodup_range, ← List.sum_toFinset f hnodup]
  refine (Finset.sum_subset (fun z hz => ?_) fun z _ hz => hf z fun h => hz (List.mem_toFinset.2 h)).symm
  exact List.mem_toFinset.2 (List.mem_range.2 (h8 z (List.mem_toFinset.1 hz)))

theorem zones_getD {α : Type} (f : Nat → α) (d : α) (z : Nat) :
    ((List.range 8).map f).getD z d = if z < 8 then f z else d := by
  rw [List.getD_eq_getElem?_getD, List.getElem?_map]
  split
  · next h => rw [List.getElem?_range h]; rfl
  · next h => rw [List.getElem?_eq_none (by simpa using h)]; rfl

end Sys2Proof.Machine
end

section
/-! The record of a zone review (R58–R73). -/

namespace Sys2Proof.Machine
open State

variable (s : State)

/-! ### The record -/

/-- R60: the Service Order of a review. -/
def State.reviewOrder (s : State) : List Nat := serviceOrder s.effectiveDemand fun z => s.alloc.ages.getD z 0

/-- R61: the airflow a zone asks for. -/
def State.reviewRequest (s : State) (z : Nat) : Nat :=
  if s.reviewOrder.contains z then s.zoneRequest (s.effectiveDemand z) z else 0

/-- R72, R73: the review assigns nothing. -/
def State.reviewIdle (s : State) : Bool := s.alloc.door || s.rc.level == .watch

/-- R64: the step of a review. -/
def State.reviewStep (s : State) : Nat :=
  if s.reviewIdle then 0 else s.requestedStep (s.reviewOrder.map s.reviewRequest).sum

/-- R65: the airflow a review gives a zone. -/
def State.reviewGiven (s : State) : Nat → Nat :=
  assignedTo (if s.reviewIdle then []
    else assignWalk s.reviewRequest s.zoneMinimum s.reviewOrder (s.effectiveAirflow s.reviewStep))

/-- R68: the record of a review. -/
theorem State.allocation_eq (n : Nat) : s.allocation n =
    ({ sweep := n, idle := s.reviewIdle, step := s.reviewStep, airflow := s.effectiveAirflow s.reviewStep,
       applied := s.allocationApplied, effective := (List.range 8).map s.effectiveDemand,
       request := (List.range 8).map s.reviewRequest, assigned := (List.range 8).map s.reviewGiven,
       position := (List.range 8).map fun z => s.damperPosition z (s.reviewGiven z) }, s.reviewOrder) := rfl

theorem State.mem_reviewOrder {z : Nat} : z ∈ s.reviewOrder ↔ z < 8 ∧ 0 < s.effectiveDemand z := mem_serviceOrder

theorem State.nodup_reviewOrder : s.reviewOrder.Nodup := nodup_serviceOrder _ _

theorem State.reviewRequest_eq (z : Nat) : s.reviewRequest z =
    if z < 8 ∧ 0 < s.effectiveDemand z then s.zoneRequest (s.effectiveDemand z) z else 0 := by
  rw [State.reviewRequest]
  exact if_congr (List.contains_iff_mem.trans s.mem_reviewOrder) rfl rfl

theorem State.reviewGiven_idle (h : s.reviewIdle = true) (z : Nat) : s.reviewGiven z = 0 := by
  rw [State.reviewGiven, h]
  rfl

theorem State.reviewGiven_computed (h : s.reviewIdle = false) : s.reviewGiven =
    given s.reviewRequest s.zoneMinimum s.reviewOrder (s.effectiveAirflow s.reviewStep) := by
  rw [State.reviewGiven, h]
  rfl

theorem State.reviewGiven_outside {z : Nat} (h : z ∉ s.reviewOrder) : s.reviewGiven z = 0 := by
  cases hidle : s.reviewIdle with
  | true => exact s.reviewGiven_idle hidle z
  | false =>
    rw [s.reviewGiven_computed hidle]
    exact given_outside h _

theorem State.reviewGiven_le_request (z : Nat) : s.reviewGiven z ≤ s.reviewRequest z := by
  cases hidle : s.reviewIdle with
  | true =>
    rw [s.reviewGiven_idle hidle]
    exact Nat.zero_le _
  | false =>
    rw [s.reviewGiven_computed hidle]
    exact given_le_request _ _ _

theorem State.minimum_le_reviewGiven {z : Nat} (h : s.reviewGiven z ≠ 0) : s.zoneMinimum z ≤ s.reviewGiven z := by
  cases hidle : s.reviewIdle with
  | true => exact absurd (s.reviewGiven_idle hidle z) h
  | false =>
    rw [s.reviewGiven_computed hidle] at h ⊢
    exact minimum_le_given h

theorem State.reviewGiven_sum : ((List.range 8).map s.reviewGiven).sum ≤ s.effectiveAirflow s.reviewStep := by
  rw [zones_sum s.nodup_reviewOrder (fun z hz => (s.mem_reviewOrder.1 hz).1) _ fun z hz => s.reviewGiven_outside hz]
  cases hidle : s.reviewIdle with
  | true =>
    rw [List.map_congr_left fun z _ => s.reviewGiven_idle hidle z]
    simp
  | false =>
    rw [s.reviewGiven_computed hidle]
    exact given_sum_le s.nodup_reviewOrder _

/-- Zones that are no zones are given nothing. -/
theorem State.assigned_getD (z : Nat) : ((List.range 8).map s.reviewGiven).getD z 0 = s.reviewGiven z := by
  rw [zones_getD]
  split
  · rfl
  · next h => exact (s.reviewGiven_outside fun hz => h (s.mem_reviewOrder.1 hz).1).symm

theorem State.request_getD (z : Nat) : ((List.range 8).map s.reviewRequest).getD z 0 = s.reviewRequest z := by
  rw [zones_getD]
  split
  · rfl
  · next h => rw [s.reviewRequest_eq, if_neg fun hz => h hz.1]

/-- R61: a zone asks for no more than its airflow with the damper fully open. -/
theorem State.reviewRequest_le_zmax (h : s.param 73 15 ≤ 100) (hzones : ∀ z, (s.zone z).clean ≤ 100 ∧ (s.zone z).dry ≤ 100)
    (z : Nat) : s.reviewRequest z ≤ s.zmax z := by
  have hdemand : s.effectiveDemand z ≤ 100 := by
    obtain ⟨hclean, hdry⟩ := hzones z
    unfold State.effectiveDemand
    extract_lets r
    split
    · refine max_le hclean ?_
      split
      · exact hdry
      · exact Nat.zero_le _
    · exact Nat.zero_le _
  have hshare {k : Nat} (hk : k ≤ 100) : divUp (k * s.zmax z) 100 ≤ s.zmax z := by
    have := Nat.mul_le_mul_right (s.zmax z) hk
    unfold divUp
    omega
  rw [s.reviewRequest_eq]
  split
  · refine max_le (hshare hdemand) ?_
    rw [State.zoneMinimum, Nat.mul_comm]
    exact hshare h
  · exact Nat.zero_le _

/-- R66: a damper opens at most fully. -/
theorem State.position_le (h : s.param 73 15 ≤ 100) (hzones : ∀ z, (s.zone z).clean ≤ 100 ∧ (s.zone z).dry ≤ 100) (z : Nat) :
    s.reviewGiven z * 100 / s.zmax z ≤ 100 := by
  refine Nat.div_le_of_le_mul ?_
  have := (s.reviewGiven_le_request z).trans (s.reviewRequest_le_zmax h hzones z)
  exact Nat.mul_le_mul_right 100 this

/-! ### The review -/

theorem State.takesReview_iff : s.takesReview = true ↔
    s.banks.live ≠ none ∧ s.lines.setup = false ∧ (s.rc.level = .active ∨ s.rc.level = .watch) := by
  simp [State.takesReview, State.isLive, and_assoc, Option.isSome_iff_ne_none]

/-- R69: the cycles that claim the blower. -/
theorem State.allocationApplied_eq_false_iff : s.allocationApplied = false ↔ ∃ c, s.cycles.running = some c ∧
    (c.kind = .defrost ∨ c.kind = .profile ∨ c.kind = .regen ∧ c.held = false) := by
  unfold State.allocationApplied
  split
  · next h => simp [h]
  · next c h =>
    split
    all_goals
      next hk => simp [h, hk]

theorem State.review_takes (n : Nat) (h : s.takesReview = true) : s.review n =
    (s.setAlloc { s.alloc with
      record := some (s.allocation n).1
      order := s.reviewOrder
      ages := if !s.reviewIdle && s.allocationApplied then
          s.alloc.ages.zipIdx.map fun x =>
            nextAge (s.reviewOrder.contains x.2) (((List.range 8).map s.reviewGiven).getD x.2 0) x.1
        else s.alloc.ages }).post
      [.normalRequests (s.allocation n).1.step (s.damperRequests (s.allocation n).1),
        .filterAllocation (s.allocation n).1, .dryingAllocation (s.allocation n).1] := by
  refine (if_neg (by simp [h])).trans rfl

theorem State.review_ignored (n : Nat) (h : s.takesReview = false) : s.review n = s := if_pos (by simp [h])

/-- Settles O28: the record, field by field. -/
theorem reviewSharesTheAirflow : Obligations.ReviewSharesTheAirflow := by
  intro n s hheld
  refine ⟨s.takesReview_iff, s.allocationApplied_eq_false_iff, fun h => ?_, fun h => ?_⟩
  · rw [exec_zoneReview s n hheld]
    exact congrArg _ (State.review_ignored (s.took _) n h)
  · refine ⟨_, (s.allocation n).1, (exec_zoneReview s n hheld).trans (congrArg _ (State.review_takes (s.took _) n h)), rfl, rfl,
      rfl, rfl, rfl, rfl, rfl, rfl, rfl, rfl, ?effective, ?shares, fun z hz => ?outside, ?positions, s.reviewGiven_sum, fun z => ?asked,
      fun z hz h => ?minimum, fun h hzones z p hp => ?opening, ?dampers, ?absent, fun h => ?idle, ?aged, ?ages, rfl, rfl⟩
    case effective =>
      intro z hz
      refine ((zones_getD s.effectiveDemand 0 z).trans (if_pos hz)).trans ?_
      unfold State.effectiveDemand
      exact if_congr (and_congr_right' Option.isSome_iff_ne_none) rfl rfl
    case shares =>
      intro hidle pre z post g horder hg
      have horder : s.reviewOrder = pre ++ z :: post := horder
      have hgiven := s.reviewGiven_computed hidle
      have hnodup := s.nodup_reviewOrder
      have hpre : (pre.map fun y => ((List.range 8).map s.reviewGiven).getD y 0) = pre.map s.reviewGiven :=
        List.map_congr_left fun y _ => s.assigned_getD y
      have hz := given_at (request := s.reviewRequest) (minimum := s.zoneMinimum) (horder ▸ hnodup)
        (s.effectiveAirflow s.reviewStep)
      rw [← horder, ← hgiven] at hz
      have hg : g = min (s.reviewRequest z) (s.effectiveAirflow s.reviewStep - (pre.map s.reviewGiven).sum) := by
        rw [hg, ← hpre, ← s.request_getD z]
        rfl
      rw [State.allocation_eq, s.assigned_getD, hz, hg]
      rfl
    case outside => exact (s.assigned_getD z).trans (s.reviewGiven_outside hz)
    case positions =>
      intro z hz hport
      rw [State.allocation_eq, s.assigned_getD, zones_getD, if_pos hz]
      exact if_pos (Option.isSome_iff_ne_none.2 hport)
    case asked =>
      rw [State.allocation_eq, s.assigned_getD, s.request_getD]
      exact s.reviewGiven_le_request z
    case minimum =>
      rw [State.allocation_eq, s.assigned_getD] at h ⊢
      exact s.minimum_le_reviewGiven h
    case opening =>
      rw [State.allocation_eq, zones_getD] at hp
      split at hp
      · unfold State.damperPosition at hp
        split at hp
        · cases hp
          exact s.position_le h hzones z
        · cases hp
      · cases hp
    case dampers =>
      intro z hz
      rw [State.allocation_eq, zones_getD, if_pos hz, State.damperPosition]
      cases s.banks.damperPort z <;> simp
    case absent =>
      intro z hz hstate
      rw [State.allocation_eq, zones_getD, if_pos hz, State.effectiveDemand]
      exact if_neg fun h => hstate h.1
    case idle =>
      have hidle : s.reviewIdle = true := h
      have hstep : s.reviewStep = 0 := if_pos hidle
      refine ⟨hstep, ?_⟩
      have hsum := s.reviewGiven_sum
      rw [hstep] at hsum
      exact Nat.le_zero.1 hsum
    case aged =>
      intro h
      refine if_neg ?_
      have h : s.reviewIdle = true ∨ s.allocationApplied = false := h
      show ¬ (!s.reviewIdle && s.allocationApplied) = true
      obtain h | h := h <;> simp [h]
    case ages =>
      intro hidle happlied z a ha
      have haged : (!s.reviewIdle && s.allocationApplied) = true := by
        rw [show s.reviewIdle = false from hidle, show s.allocationApplied = true from happlied]
        rfl
      refine (congrArg (fun l : List Nat => l[z]?) (if_pos haged)).trans ?_
      refine (zipIdx_map_at (fun z a =>
        nextAge (s.reviewOrder.contains z) (((List.range 8).map s.reviewGiven).getD z 0) a) ha).trans (congrArg some ?_)
      rw [State.allocation_eq, s.assigned_getD, zones_getD]
      have horder : s.reviewOrder.contains z = true ↔ 0 < (if z < 8 then s.effectiveDemand z else 0) := by
        rw [List.contains_iff_mem, s.mem_reviewOrder]
        split
        · next h => simp [h]
        · next h => simp [h]
      unfold nextAge
      refine if_congr ?_ rfl rfl
      rw [Bool.and_eq_true, horder, beq_iff_eq]

/-! ### The step (R62–R64) -/

/-- R64: the step found is the first, up to the cap, that reaches the total. -/
theorem smallestStep_spec (airflow : Nat → Nat) {cap total : Nat} (hcap : 1 ≤ cap) :
    1 ≤ smallestStep airflow cap total ∧ smallestStep airflow cap total ≤ cap ∧
    (smallestStep airflow cap total < cap → total ≤ airflow (smallestStep airflow cap total)) ∧
    ∀ j, 1 ≤ j → j < smallestStep airflow cap total → airflow j < total := by
  have hbefore {n : Nat} (h : ∀ j < n, (decide (total ≤ airflow (j + 1))) = false) (j : Nat) (h1 : 1 ≤ j) (hj : j ≤ n) :
      airflow j < total := by
    have := h (j - 1) (by omega)
    rw [Nat.sub_add_cancel h1] at this
    simpa using this
  unfold smallestStep
  rw [List.find?_map]
  cases hfind : (List.range cap).find? ((fun k => decide (total ≤ airflow k)) ∘ fun x => x + 1) with
  | none =>
    refine ⟨hcap, le_rfl, fun h => absurd h (lt_irrefl _), fun j h1 hj => ?_⟩
    refine hbefore (n := cap) (fun j hj => ?_) j h1 hj.le
    simpa using List.find?_eq_none.1 hfind j (List.mem_range.2 hj)
  | some k =>
    obtain ⟨hk, hmem, hnone⟩ := List.find?_range_eq_some.1 hfind
    have hlt := List.mem_range.1 hmem
    refine ⟨Nat.succ_pos k, hlt, fun _ => by simpa using hk, fun j h1 hj => ?_⟩
    exact hbefore (n := k) (fun j hj => by simpa using hnone j hj) j h1 (Nat.lt_succ_iff.1 hj)

theorem State.effectiveAirflow_step {k : Nat} (h : 1 ≤ k) :
    s.effectiveAirflow k = s.param 73 (k - 1) * s.filters.derate / 100 := if_neg (by omega)

theorem State.requestedStep_none {total : Nat} (hwant : s.dry.want = false) (htotal : total = 0) :
    s.requestedStep total = 0 := by
  simp [State.requestedStep, hwant, htotal]

theorem State.requestedStep_dry {total : Nat} (hwant : s.dry.want = true) : s.requestedStep total =
    max (smallestStep s.effectiveAirflow s.stepCap total) (s.param 74 0) := by
  simp [State.requestedStep, hwant]

theorem State.requestedStep_air {total : Nat} (hwant : s.dry.want = false) (htotal : 0 < total) :
    s.requestedStep total = smallestStep s.effectiveAirflow s.stepCap total := by
  simp [State.requestedStep, hwant, Nat.pos_iff_ne_zero.1 htotal]

/-- R64: the smallest step by the live Airflow page. -/
theorem State.smallestStep_airflow (total : Nat) (hcap : 1 ≤ s.stepCap) :
    ∃ k, k = smallestStep s.effectiveAirflow s.stepCap total ∧ 1 ≤ k ∧ k ≤ s.stepCap ∧
      (k < s.stepCap → total ≤ s.param 73 (k - 1) * s.filters.derate / 100) ∧
      ∀ j, 1 ≤ j → j < k → s.param 73 (j - 1) * s.filters.derate / 100 < total := by
  obtain ⟨h1, h2, h3, h4⟩ := smallestStep_spec s.effectiveAirflow (total := total) hcap
  refine ⟨_, rfl, h1, h2, fun h => ?_, fun j hj hlt => ?_⟩
  · rw [← s.effectiveAirflow_step h1]
    exact h3 h
  · rw [← s.effectiveAirflow_step hj]
    exact h4 j hj hlt

/-- Settles O29: the step of the record is the requested step of the requests' total. -/
theorem stepIsTheSmallestThatReaches : Obligations.StepIsTheSmallestThatReaches := by
  intro n s cap total hheld htakes hdoor hlevel hcap h1
  have hidle : s.reviewIdle = false := by simp [State.reviewIdle, hdoor, hlevel]
  have hcap : s.stepCap = cap := hcap.symm
  refine ⟨_, (s.allocation n).1, (exec_zoneReview s n hheld).trans (congrArg _ (State.review_takes (s.took _) n htakes)), rfl,
    fun htotal => ?_, fun z hz => ?_⟩
  · have hstep : (s.allocation n).1.step = s.requestedStep total := by
      have hsum : total = (s.reviewOrder.map s.reviewRequest).sum := by
        rw [htotal, State.allocation_eq]
        exact zones_sum s.nodup_reviewOrder (fun z hz => (s.mem_reviewOrder.1 hz).1) _ fun z hz => by
          rw [s.reviewRequest_eq, if_neg fun h => hz (s.mem_reviewOrder.2 h)]
      rw [hsum, State.allocation_eq]
      exact if_neg (by simp [hidle])
    obtain ⟨k, hk, hspec⟩ := s.smallestStep_airflow total (hcap ▸ h1)
    rw [hcap] at hspec
    rw [hstep]
    refine ⟨fun h0 hwant => s.requestedStep_none hwant h0, fun hwant => ?_, fun hpos hwant => ?_⟩
    · obtain ⟨ha, hb, hc, hd⟩ := hspec
      exact ⟨k, ha, hb, hc, hd, by rw [s.requestedStep_dry hwant, hk]⟩
    · rw [s.requestedStep_air hwant hpos, ← hk]
      exact hspec
  · rw [State.allocation_eq, s.request_getD, zones_getD, if_pos hz, s.reviewRequest_eq]
    exact if_congr (and_iff_right hz) rfl rfl

end Sys2Proof.Machine
end

section
/-! What an event of the interlock changes, and what it asks of the rows (R77–R80, R87). -/

namespace Sys2Proof.Machine
open State

variable (s : State)

/-! ### An event and its resolution -/

/-- R77–R79: a resolution keeps what is asked of each row. -/
theorem Interlock.resolve_asked (p : PlantLimits) (i : Interlock) :
    (i.resolve p).rows.map Row.asked = i.rows.map Row.asked := by
  rw [Interlock.resolve_rows, List.map_map]
  rfl

/-- R77: a resolution keeps the requests held for outputs without a row. -/
theorem Interlock.resolve_held (p : PlantLimits) (i : Interlock) : (i.resolve p).heldBlower = i.heldBlower ∧
    (i.resolve p).heldComp = i.heldComp ∧ (i.resolve p).heldHeater = i.heldHeater := by
  unfold Interlock.resolve
  extract_lets d blown
  split <;> exact ⟨rfl, rfl, rfl⟩

theorem offered_map {β : Type} {f : Row → β} (hf : ∀ r : Row, f { r with dirty := false, lastSent := none } = f r)
    {rs rs' : List Row} (h : rs'.map (fun r => { r with dirty := false, lastSent := none }) =
      rs.map fun r => { r with dirty := false, lastSent := none }) : rs'.map f = rs.map f := by
  have := congrArg (List.map f) h
  simpa only [List.map_map, Function.comp_def, hf] using this

section event
variable (f : Interlock → Interlock)

/-- R79: the interlock an event's resolution gives, before the offers. -/
def State.resolved (s : State) (f : Interlock → Interlock) : Interlock := (f s.inter).resolve s.plant

theorem State.resolving_rows : (s.resolving f).inter.rows.map (fun r => { r with dirty := false, lastSent := none }) =
    (s.resolved f).rows.map fun r => { r with dirty := false, lastSent := none } := offerRows_rows _ _ _

/-- R87: the offers leave the rest of the interlock. -/
theorem State.resolving_rest : { (s.resolving f).inter with
    rows := (s.resolved f).rows, leaving := (s.resolved f).leaving } = s.resolved f := rfl

theorem State.resolving_asked : (s.resolving f).inter.rows.map Row.asked = (f s.inter).rows.map Row.asked :=
  (offered_map (fun _ => rfl) (s.resolving_rows f)).trans (Interlock.resolve_asked _ _)

theorem State.resolving_inhibits : (s.resolving f).inter.inhibits = (f s.inter).inhibits := Interlock.resolve_inhibits _ _

theorem State.resolving_held : (s.resolving f).inter.heldBlower = (f s.inter).heldBlower ∧
    (s.resolving f).inter.heldComp = (f s.inter).heldComp ∧ (s.resolving f).inter.heldHeater = (f s.inter).heldHeater :=
  Interlock.resolve_held _ _

theorem State.resolving_posts : (s.resolving f).posts =
    s.posts ++ (outputPosts s.inter (f s.inter) ++ outputPosts (f s.inter) (s.resolved f)) := rfl

theorem State.onlyInterlock_refl : s.OnlyInterlock s := ⟨rfl, rfl⟩

/-- The device with an event's resolution made and posted, before the offers. -/
def State.unoffered (s : State) (f : Interlock → Interlock) : State :=
  (s.setInter (s.resolved f)).post (outputPosts s.inter (f s.inter) ++ outputPosts (f s.inter) (s.resolved f))

theorem State.resolving_eq_offerDirty : s.resolving f = (s.unoffered f).offerDirty := rfl

/-- A change of the interlock, the ring and the posts only. -/
theorem State.Within.restore_inter {s t : State} (h : s.Within [.inter, .ring] t) :
    ((t.setInter s.inter).setRing s.ring).setPosts s.posts = s := by
  apply State.ext
  case inter => rfl
  case ring => rfl
  case posts => rfl
  case lines => exact h.same .lines (by simp)
  case cycles => exact h.same .cycles (by simp)
  case held => exact h.same .held (by simp)
  case trans => exact h.same .trans (by simp)
  case zones => exact h.same .zones (by simp)
  case alloc => exact h.same .alloc (by simp)
  case dry => exact h.same .dry (by simp)
  case water => exact h.same .water (by simp)
  case filters => exact h.same .filters (by simp)
  case banks => exact h.same .banks (by simp)
  case mu => exact h.same .mu (by simp)
  case rc => exact h.same .rc (by simp)
  case free => exact h.same .free (by simp)
  case subTick => exact h.same .subTick (by simp)
  case pending => exact h.same .pending (by simp)

/-- R87, R88: an event changes the interlock, the Origin Queue and the posts alone. -/
theorem State.resolving_onlyInterlock : s.OnlyInterlock (s.resolving f) :=
  ⟨(s.resolving_within f).restore_inter, State.offerDirty_frame (s.unoffered f)⟩

theorem State.onlyInterlock_took {c : Instr} {t : State} (h : (s.took c).OnlyInterlock t) : s.OnlyInterlock t :=
  ⟨(congrArg (State.setPosts · s.posts) h.1 : _), h.2⟩

theorem State.onlyInterlock_post {s t : State} (h : s.OnlyInterlock t) (es : List Instr) : s.OnlyInterlock (t.post es) :=
  ⟨h.1, h.2⟩

end event

/-! ### Requests (R77, R78) -/

theorem Interlock.row_eq_none {i : Interlock} {k : RowKind} : i.row k = none ↔ ∀ r ∈ i.rows, r.kind ≠ k := by
  simp [Interlock.row]

theorem Interlock.request_inhibits (k : RowKind) (v : Nat) (i : Interlock) : (i.request k v).inhibits = i.inhibits := by
  unfold Interlock.request
  split
  · rfl
  · cases k <;> rfl

theorem Interlock.request_row {k : RowKind} (v : Nat) {i : Interlock} (h : i.row k ≠ none) :
    i.request k v = i.setNormal k v := if_pos (Option.isSome_iff_ne_none.2 h)

theorem Interlock.request_held {k : RowKind} (v : Nat) {i : Interlock} (h : i.row k = none) :
    ((i.request k v).heldBlower = if k = .blower then some v else i.heldBlower) ∧
    ((i.request k v).heldComp = if k = .compressor then some v else i.heldComp) ∧
    (i.request k v).heldHeater = if k = .heater then some v else i.heldHeater := by
  have hn : ¬ (i.row k).isSome = true := by simp [h]
  cases k <;> simp [Interlock.request, hn]

/-- R77: a request rewrites the normal requests of the rows of its kind alone. -/
theorem Interlock.request_rows (k : RowKind) (v : Nat) (i : Interlock) : (i.request k v).rows =
    i.rows.map fun r => if r.kind = k then { r with normal := some v } else r := by
  by_cases h : i.row k = none
  · have hnone : ∀ r ∈ i.rows, r.kind ≠ k := Interlock.row_eq_none.1 h
    have hsame : (i.rows.map fun r => if r.kind = k then { r with normal := some v } else r) = i.rows :=
      (List.map_congr_left fun r hr => if_neg (hnone r hr)).trans (List.map_id' _)
    have hrows : (i.request k v).rows = i.rows := by
      have hn : ¬ (i.row k).isSome = true := by simp [h]
      cases k <;> simp [Interlock.request, hn]
    rw [hrows, hsame]
  · rw [Interlock.request_row v h]
    rfl

/-- R77: a request is of the rows of its kind alone. -/
theorem Interlock.request_asked (k : RowKind) (v : Nat) (i : Interlock) : (i.request k v).rows.map Row.asked =
    i.rows.map fun r => (r.kind, r.dst, r.port, if r.kind = k then some v else r.normal, r.cycle) := by
  rw [Interlock.request_rows, List.map_map]
  refine List.map_congr_left fun r _ => ?_
  rw [Function.comp_apply]
  split <;> rfl

theorem DamperRequest.names_damper {d : DamperRequest} {r : Row} {z : Nat} (h : r.kind = .damper z) :
    DamperRequest.names d r = (d.node == r.dst && d.port == r.port) := by
  rw [DamperRequest.names, h, Bool.beq_comm (a := r.dst), Bool.beq_comm (a := r.port)]

/-- R77: what a row without a damper hears of damper requests. -/
theorem find_names_other (ds : List DamperRequest) {r : Row} (h : ∀ z, r.kind ≠ .damper z) :
    (ds.find? fun d => DamperRequest.names d r) = none := by
  refine List.find?_eq_none.2 fun d _ => ?_
  unfold DamperRequest.names
  cases hk : r.kind with
  | damper z => exact absurd hk (h z)
  | _ => simp

theorem Interlock.dampers_asked (ds : List DamperRequest) (i : Interlock) : (i.dampers ds).rows.map Row.asked =
    i.rows.map fun r => (r.kind, r.dst, r.port,
      (match ds.find? fun d => DamperRequest.names d r with
        | some d => some d.position
        | none => r.normal), r.cycle) := by
  rw [Interlock.dampers, List.map_map]
  refine List.map_congr_left fun r _ => ?_
  rw [Function.comp_apply]
  cases ds.find? fun d => DamperRequest.names d r <;> rfl

/-- R77: the blower's row takes the step, and each damper's row the position asked of it. -/
theorem Row.requested (step : Nat) (ds : List DamperRequest) (r : Row) :
    (match ds.find? fun d => DamperRequest.names d r with
      | some d => some d.position
      | none => if r.kind = RowKind.blower then some step else r.normal) =
    match r.kind with
      | .blower => some step
      | .damper _ => match ds.find? fun d : DamperRequest => d.node == r.dst && d.port == r.port with
        | some d => some d.position
        | none => r.normal
      | _ => r.normal := by
  cases hk : r.kind with
  | damper z =>
    have hnames : (fun d => DamperRequest.names d r) = fun d : DamperRequest => d.node == r.dst && d.port == r.port :=
      funext fun d => DamperRequest.names_damper hk
    rw [hnames]
    simp only [reduceCtorEq, if_false]
  | blower => rw [find_names_other ds fun z => by rw [hk]; nofun]; rfl
  | compressor => rw [find_names_other ds fun z => by rw [hk]; nofun]; rfl
  | heater => rw [find_names_other ds fun z => by rw [hk]; nofun]; rfl
  | pump => rw [find_names_other ds fun z => by rw [hk]; nofun]; rfl

/-- R77: what NORMAL_REQUESTS asks of each row. -/
theorem Interlock.request_dampers_asked (step : Nat) (ds : List DamperRequest) (i : Interlock) :
    ((i.request .blower step).dampers ds).rows.map Row.asked = i.rows.map fun r => (r.kind, r.dst, r.port,
      (match r.kind with
        | .blower => some step
        | .damper _ => match ds.find? fun d : DamperRequest => d.node == r.dst && d.port == r.port with
          | some d => some d.position
          | none => r.normal
        | _ => r.normal), r.cycle) := by
  rw [Interlock.dampers_asked, Interlock.request_rows, List.map_map]
  refine List.map_congr_left fun r _ => ?_
  rw [← Row.requested step ds r, Function.comp_apply]
  split <;> rfl

/-- R78: a plan replaces the cycle request of every row. -/
theorem Interlock.plan_asked (cs : List Claim) (i : Interlock) : (i.plan cs).rows.map Row.asked =
    i.rows.map fun r => (r.kind, r.dst, r.port, r.normal, (cs.find? fun c => Claim.names c r).map (·.value)) := by
  rw [Interlock.plan, List.map_map]
  rfl

/-! ### The commands -/

section commands
variable (hheld : s.held = false)
include hheld

theorem exec_runRequest (o : Output) (v : Nat) (h : o ≠ .pump) :
    exec (.runRequest o v) s = .next ((s.took (.runRequest o v)).resolving fun i => i.request (Output.row o) v) := by
  have hf : (fun i : Interlock => if o = .pump then i else i.request (Output.row o) v) = fun i => i.request (Output.row o) v :=
    funext fun _ => if_neg h
  rw [← hf]
  exact taking_awake s (.runRequest o v)
    (State.resolving fun i => if o = .pump then i else i.request (Output.row o) v) hheld

theorem exec_stopRequest (o : Output) (h : o ≠ .pump) :
    exec (.stopRequest o) s = .next ((s.took (.stopRequest o)).resolving fun i => i.request (Output.row o) 0) := by
  have hf : (fun i : Interlock => if o = .pump then i else i.request (Output.row o) 0) = fun i => i.request (Output.row o) 0 :=
    funext fun _ => if_neg h
  rw [← hf]
  exact taking_awake s (.stopRequest o)
    (State.resolving fun i => if o = .pump then i else i.request (Output.row o) 0) hheld

theorem exec_normalRequests (step : Nat) (ds : List DamperRequest) : exec (.normalRequests step ds) s =
    .next ((s.took (.normalRequests step ds)).resolving fun i => (i.request .blower step).dampers ds) :=
  taking_awake s (.normalRequests step ds) (State.resolving fun i => (i.request .blower step).dampers ds) hheld

theorem exec_cyclePlan (k : CycleKind) (cs : List Claim) :
    exec (.cyclePlan k cs) s = .next ((s.took (.cyclePlan k cs)).resolving (Interlock.plan cs)) :=
  taking_awake s (.cyclePlan k cs) (State.resolving (Interlock.plan cs)) hheld

theorem exec_planRelease : exec .planRelease s = .next ((s.took .planRelease).resolving (Interlock.plan [])) :=
  taking_awake s .planRelease (State.resolving (Interlock.plan [])) hheld

theorem exec_inhibitChange (m : Inhibit) (b : Bool) {c : Instr} (h : c = if b then .inhibitClaim m else .inhibitRelease m) :
    exec c s = .next ((s.took c).setInhibit m b) := by
  cases b with
  | true =>
    rw [if_pos rfl] at h
    rw [h]
    exact taking_awake s (.inhibitClaim m) (State.setInhibit m true) hheld
  | false =>
    rw [if_neg Bool.false_ne_true] at h
    rw [h]
    exact taking_awake s (.inhibitRelease m) (State.setInhibit m false) hheld

end commands

theorem State.setInhibit_same {m : Inhibit} {b : Bool} (h : s.inter.inhibits.get m = b) : s.setInhibit m b = s := if_pos h

theorem State.setInhibit_changed {m : Inhibit} {b : Bool} (h : s.inter.inhibits.get m ≠ b) :
    s.setInhibit m b = s.resolving fun i => { i with inhibits := i.inhibits.set m b } := if_neg h

theorem Inhibits.get_set (i : Inhibits) (m n : Inhibit) (b : Bool) :
    (i.set m b).get n = if n = m then b else i.get n := by
  cases m <;> cases n <;> rfl

/-- Settles O30: what each event asks is what its change of the rows asks, which the resolution keeps. -/
theorem requestsAndClaimsReachTheRows : Obligations.RequestsAndClaimsReachTheRows := by
  intro s hheld
  refine ⟨fun o k v c ho hk hc => ?_, fun step ds => ?_, fun k cs => ?_, ?_, fun m b c hc => ⟨fun h => ?_, fun h => ?_⟩⟩
  · have hk : k = Output.row o := by
      rw [hk]
      cases o with
      | compressor => rfl
      | heater => rfl
      | pump => exact absurd rfl ho
    have hexec : exec c s = .next ((s.took c).resolving fun i => i.request k v) := by
      obtain rfl | ⟨rfl, rfl⟩ := hc
      · rw [hk]
        exact exec_runRequest s hheld o v ho
      · rw [hk]
        exact exec_stopRequest s hheld o ho
    obtain ⟨u, hu⟩ : ∃ u, u = (s.took c).resolving fun i => i.request k v := ⟨_, rfl⟩
    have hkept : u.inter.heldBlower = (s.inter.request k v).heldBlower ∧ u.inter.heldComp = (s.inter.request k v).heldComp ∧
        u.inter.heldHeater = (s.inter.request k v).heldHeater := by
      rw [hu]
      exact State.resolving_held _ _
    obtain ⟨hblower, hcomp, hheater⟩ := hkept
    have honly := s.onlyInterlock_took (State.resolving_onlyInterlock (s.took c) fun i => i.request k v)
    have hinhibits := (s.took c).resolving_inhibits fun i => i.request k v
    have hasked := (s.took c).resolving_asked fun i => i.request k v
    rw [← hu] at hexec honly hinhibits hasked
    refine ⟨u, hexec, honly, hinhibits.trans (Interlock.request_inhibits k v _), hasked.trans (Interlock.request_asked k v _),
      fun hnone hout => ?_, fun hnone hout => ?_, fun hsome => ?_, ?_⟩
    · obtain ⟨-, h1, h2⟩ := Interlock.request_held v hnone
      rw [hcomp, hheater, h1, h2, hk, hout]
      exact ⟨rfl, rfl⟩
    · obtain ⟨-, h1, h2⟩ := Interlock.request_held v hnone
      rw [hcomp, hheater, h1, h2, hk, hout]
      exact ⟨rfl, rfl⟩
    · rw [hcomp, hheater, Interlock.request_row v hsome]
      exact ⟨rfl, rfl⟩
    · rw [hblower]
      by_cases hrow : s.inter.row k = none
      · rw [(Interlock.request_held v hrow).1, hk]
        cases o <;> rfl
      · rw [Interlock.request_row v hrow]
        rfl
  · refine ⟨_, exec_normalRequests s hheld step ds, s.onlyInterlock_took (State.resolving_onlyInterlock _ _), ?_, ?_, ?_⟩
    · exact (State.resolving_inhibits _ _).trans (Interlock.request_inhibits .blower step _)
    · refine (State.resolving_held _ _).1.trans ?_
      show (s.inter.request .blower step).heldBlower = _
      split
      · next h => exact (Interlock.request_held step h).1
      · next h => rw [Interlock.request_row step h]; rfl
    · exact (State.resolving_asked _ _).trans (s.inter.request_dampers_asked step ds)
  · refine ⟨_, exec_cyclePlan s hheld k cs, s.onlyInterlock_took (State.resolving_onlyInterlock _ _),
      State.resolving_inhibits _ _, (State.resolving_asked _ _).trans (Interlock.plan_asked cs _)⟩
  · exact ⟨_, exec_planRelease s hheld, s.onlyInterlock_took (State.resolving_onlyInterlock _ _),
      State.resolving_inhibits _ _, (State.resolving_asked _ _).trans (Interlock.plan_asked [] _)⟩
  · rw [exec_inhibitChange s hheld m b hc]
    exact congrArg _ (State.setInhibit_same (s.took c) h)
  · refine ⟨_, (exec_inhibitChange s hheld m b hc).trans (congrArg _ (State.setInhibit_changed (s.took c) h)),
      s.onlyInterlock_took (State.resolving_onlyInterlock _ _), fun n => ?_, State.resolving_asked _ _⟩
    rw [State.resolving_inhibits]
    exact Inhibits.get_set _ m n b

end Sys2Proof.Machine
end

section
/-! What one resolution makes of the outputs, the clock and the settle timer (R79–R84), from what stands as it begins. -/

namespace Sys2Proof.Machine
open State

/-! ### The outcome, by its branches -/

section outcome
variable {p : PlantLimits} {i : Interlock}

/-- R83 step 2: a blower at or above the dry min step waits for the compressor. -/
theorem Interlock.outcome_waits (hC : i.compAfter p ≠ 0)
    (hF : i.floorValue p (i.compAfter p) i.heaterAfter ≠ i.output .blower) (hmin : p.dryMin ≤ i.output .blower) :
    i.outcome p = ⟨i.compAfter p, i.heaterAfter, i.output .blower, false⟩ :=
  (if_pos ⟨hC, hF⟩).trans (if_pos hmin)

/-- R83 step 2: from below the dry min step the compressor is stopped for re-proof (log 20). -/
theorem Interlock.outcome_reproof (hC : i.compAfter p ≠ 0)
    (hF : i.floorValue p (i.compAfter p) i.heaterAfter ≠ i.output .blower) (hmin : i.output .blower < p.dryMin) :
    i.outcome p = ⟨0, 0, i.floorValue p (i.compAfter p) i.heaterAfter, true⟩ :=
  (if_pos ⟨hC, hF⟩).trans (if_neg (Nat.not_le.2 hmin))

/-- R83 step 3: a heater alone is stopped for re-proof. -/
theorem Interlock.outcome_heaterStops (hC : i.compAfter p = 0) (hH : i.heaterAfter ≠ 0)
    (hF : i.floorValue p (i.compAfter p) i.heaterAfter ≠ i.output .blower) :
    i.outcome p = ⟨0, 0, i.floorValue p (i.compAfter p) i.heaterAfter, false⟩ := by
  have h : i.outcome p = ⟨i.compAfter p, 0, i.floorValue p (i.compAfter p) i.heaterAfter, false⟩ :=
    (if_neg fun h => h.1 hC).trans (if_pos ⟨hH, hF⟩)
  rw [h, hC]

/-- R83 step 4: otherwise every output takes its own value. -/
theorem Interlock.outcome_free (h : i.compAfter p = 0 ∧ i.heaterAfter = 0 ∨
    i.floorValue p (i.compAfter p) i.heaterAfter = i.output .blower) :
    i.outcome p = ⟨i.compAfter p, i.heaterAfter, i.floorValue p (i.compAfter p) i.heaterAfter, false⟩ := by
  have hcomp : ¬ (i.compAfter p ≠ 0 ∧ i.floorValue p (i.compAfter p) i.heaterAfter ≠ i.output .blower) :=
    fun ⟨h1, h2⟩ => h.elim (fun h => h1 h.1) h2
  have hheater : ¬ (i.heaterAfter ≠ 0 ∧ i.floorValue p (i.compAfter p) i.heaterAfter ≠ i.output .blower) :=
    fun ⟨h1, h2⟩ => h.elim (fun h => h1 h.2) h2
  exact (if_neg hcomp).trans (if_neg hheater)

/-- R81, R83: the outcome leaves off a compressor that R81 leaves off, without re-proof. -/
theorem Interlock.outcome_off (hC : i.compAfter p = 0) : (i.outcome p).comp = 0 ∧ (i.outcome p).reproof = false := by
  by_cases h : i.heaterAfter = 0 ∨ i.floorValue p (i.compAfter p) i.heaterAfter = i.output .blower
  · rw [Interlock.outcome_free (h.imp_left fun h => ⟨hC, h⟩)]
    exact ⟨hC, rfl⟩
  · obtain ⟨hH, hF⟩ := not_or.1 h
    rw [Interlock.outcome_heaterStops hC hH hF]
    exact ⟨rfl, rfl⟩

theorem Interlock.outcome_heaterOff (hH : i.heaterAfter = 0) : (i.outcome p).heater = 0 := by
  unfold Interlock.outcome
  extract_lets comp heater floor present
  split
  · split
    · exact hH
    · rfl
  · split
    · rfl
    · exact hH

/-- R83: a re-proof leaves the compressor off. -/
theorem Interlock.outcome_reproof_off (h : (i.outcome p).reproof = true) : (i.outcome p).comp = 0 := by
  unfold Interlock.outcome at h ⊢
  extract_lets at h ⊢
  split at h
  · next hc =>
    split at h
    · cases h
    · next hd => rw [if_pos hc, if_neg hd]
  · split at h <;> cases h

end outcome

/-! ### A kind without a row -/

theorem Interlock.wanted_of_row_none {i : Interlock} {k : RowKind} (h : i.row k = none) : i.wanted k = 0 := by
  rw [Interlock.wanted, h]

theorem Interlock.compAfter_of_row_none (p : PlantLimits) {i : Interlock} (h : i.row .compressor = none) :
    i.compAfter p = 0 := by
  have hout : i.output .compressor = 0 := Interlock.output_of_row_none (by rw [h]; rfl)
  rw [Interlock.compAfter, if_pos hout, if_neg fun hc => hc.1 (Interlock.wanted_of_row_none h)]

theorem Interlock.heaterAfter_of_row_none {i : Interlock} (h : i.row .heater = none) : i.heaterAfter = 0 := by
  rw [Interlock.heaterAfter, Interlock.wanted_of_row_none h, ite_self]

/-! ### The interlock after a resolution and its offers -/

section resolved
variable (m : Interlock) (u : State)

/-- R79, R87: the interlock that stood as m, resolved and its dirty rows offered. -/
def State.settled (u : State) (m : Interlock) : Interlock := (u.resolving fun _ => m).inter

theorem State.settled_rows : (u.settled m).rows.map (fun r => { r with dirty := false, lastSent := none }) =
    (m.resolve u.plant).rows.map fun r => { r with dirty := false, lastSent := none } :=
  u.resolving_rows fun _ => m

theorem State.settled_inhibits : (u.settled m).inhibits = m.inhibits := Interlock.resolve_inhibits _ _

theorem State.settled_doorShut : (u.settled m).DoorShut :=
  (Interlock.keeps_offered (n := 0) _ _ _ _).door (m.resolve_doorShut u.plant)

theorem State.settled_proofSafe : (u.settled m).ProofSafe :=
  (Interlock.keeps_offered (n := 0) _ _ _ _).safe (m.resolve_proofSafe u.plant)

theorem State.settled_floorHeld : (u.settled m).FloorHeld (u.param 74 0) :=
  (Interlock.keeps_offered _ _ _ _).floor (m.resolve_floorHeld u.plant)

/-- R79, R83: each row stands as its resolution takes it. -/
theorem State.mem_settled {r : Row} (h : r ∈ (u.settled m).rows) : r.resolved = r.resolve m.inhibits ∧
    r.commanded = (m.outcome u.plant).valueFor m.inhibits r := by
  have hmem : ({ r with dirty := false, lastSent := none } : Row) ∈
      (m.resolve u.plant).rows.map fun r => { r with dirty := false, lastSent := none } := by
    rw [← State.settled_rows]
    exact List.mem_map_of_mem h
  obtain ⟨x, hx, he⟩ := List.mem_map.1 hmem
  obtain ⟨y, -, rfl⟩ := Interlock.mem_resolve_rows hx
  have hkind : y.kind = r.kind := (congrArg Row.kind he :)
  have hcycle : y.cycle = r.cycle := (congrArg Row.cycle he :)
  have hnormal : y.normal = r.normal := (congrArg Row.normal he :)
  have hresolve : y.resolve m.inhibits = r.resolve m.inhibits := by rw [Row.resolve, Row.resolve, hkind, hcycle, hnormal]
  have hvalue : (m.outcome u.plant).valueFor m.inhibits y = (m.outcome u.plant).valueFor m.inhibits r := by
    rw [Decided.valueFor, Decided.valueFor, hkind, hresolve]
  exact ⟨(congrArg Row.resolved he).symm.trans hresolve, (congrArg Row.commanded he).symm.trans hvalue⟩

theorem rows_find_offered {rs rs' : List Row}
    (h : rs'.map (fun r => { r with dirty := false, lastSent := none }) =
      rs.map fun r => { r with dirty := false, lastSent := none }) (k : RowKind) {β : Type} (f : Row → β)
    (hf : ∀ r : Row, f { r with dirty := false, lastSent := none } = f r) :
    (rs'.find? fun r => r.kind == k).map f = (rs.find? fun r => r.kind == k).map f := by
  have hfind (l : List Row) : (l.find? fun r => r.kind == k).map (fun r => { r with dirty := false, lastSent := none }) =
      (l.map fun r => { r with dirty := false, lastSent := none }).find? fun r => r.kind == k := by
    rw [List.find?_map]
    rfl
  have hsame := congrArg (Option.map f) ((hfind rs').trans ((congrArg _ h).trans (hfind rs).symm))
  simpa only [Option.map_map, Function.comp_def, hf] using hsame

/-- A kind's row after a resolution, by what offers leave of it. -/
theorem State.settled_row (k : RowKind) {β : Type} (f : Row → β)
    (hf : ∀ r : Row, f { r with dirty := false, lastSent := none } = f r) :
    ((u.settled m).row k).map f = (m.row k).map fun r => f (r.take (m.outcome u.plant) m.inhibits) := by
  have h := rows_find_offered (u.settled_rows m) k f hf
  refine h.trans ?_
  show ((m.resolve u.plant).row k).map f = _
  rw [Interlock.resolve_row, Option.map_map]
  rfl

theorem State.settled_row_isSome (k : RowKind) : ((u.settled m).row k).isSome = (m.row k).isSome := by
  simpa using congrArg Option.isSome (u.settled_row m k (fun _ => ()) fun _ => rfl)

/-- The resolved value of a kind's row is the value wanted of it. -/
theorem State.settled_wanted (k : RowKind) : (match (u.settled m).row k with
    | none => 0
    | some r => r.resolved) = m.wanted k := by
  have h := u.settled_row m k Row.resolved fun _ => rfl
  rw [Interlock.wanted]
  cases hr : (u.settled m).row k <;> cases hm : m.row k <;> simp [hr, hm] at h ⊢
  exact h

/-- R79, R83: the output of a kind with a row. -/
theorem State.settled_output {k : RowKind} {r : Row} (h : m.row k = some r) :
    (u.settled m).output k = (m.outcome u.plant).valueFor m.inhibits r := by
  have hrow := u.settled_row m k Row.commanded fun _ => rfl
  rw [h] at hrow
  obtain ⟨x, hx, he⟩ := Option.map_eq_some_iff.1 hrow
  rw [Interlock.output, hx]
  exact he

theorem State.settled_output_none {k : RowKind} (h : m.row k = none) : (u.settled m).output k = 0 :=
  Interlock.output_of_row_none (by rw [u.settled_row_isSome m k, h]; rfl)

/-- R81, R83: the compressor's output is the outcome's, also while it has no row. -/
theorem State.settled_comp : (u.settled m).output .compressor = (m.outcome u.plant).comp := by
  cases hrow : m.row .compressor with
  | none =>
    rw [u.settled_output_none m hrow]
    exact (Interlock.outcome_off (Interlock.compAfter_of_row_none _ hrow)).1.symm
  | some r =>
    rw [u.settled_output m hrow, Decided.valueFor, m.row_kind _ r hrow]

/-- R82, R83: the heater's output is the outcome's, also while it has no row. -/
theorem State.settled_heater : (u.settled m).output .heater = (m.outcome u.plant).heater := by
  cases hrow : m.row .heater with
  | none =>
    rw [u.settled_output_none m hrow]
    exact (Interlock.outcome_heaterOff (Interlock.heaterAfter_of_row_none hrow)).symm
  | some r =>
    rw [u.settled_output m hrow, Decided.valueFor, m.row_kind _ r hrow]

theorem State.settled_blower {r : Row} (h : (u.settled m).row .blower = some r) :
    r.commanded = (m.outcome u.plant).blower := by
  rw [(u.mem_settled m (List.mem_of_find?_eq_some h)).2, Decided.valueFor, (u.settled m).row_kind _ r h]

theorem State.settled_clock : (u.settled m).clock =
    clockAfter (m.output .compressor) (m.outcome u.plant).comp (m.outcome u.plant).reproof m.clock := by
  show (m.resolve u.plant).clock = _
  unfold Interlock.resolve
  extract_lets d blown
  split <;> rfl

/-- R82, R84: a blower left as it is keeps proof; a change of it clears proof and restarts the settle timer. -/
theorem State.settled_proof (h : (u.settled m).row .blower ≠ none) :
    ((u.settled m).output .blower = m.output .blower → (u.settled m).proof = m.proof ∧
      (u.settled m).mismatch = m.mismatch ∧ (u.settled m).settle = m.settle) ∧
    ((u.settled m).output .blower ≠ m.output .blower → (u.settled m).proof = false ∧
      (u.settled m).mismatch = 0 ∧ (u.settled m).settle = some (u.param 74 3)) := by
  have hrow : (m.row .blower).isSome = true := by
    rw [← u.settled_row_isSome m]
    exact Option.isSome_iff_ne_none.2 h
  obtain ⟨r, hr⟩ := Option.isSome_iff_exists.1 hrow
  have hout : (u.settled m).output .blower = (m.outcome u.plant).blower := by
    rw [u.settled_output m hr, Decided.valueFor, m.row_kind _ r hr]
  have hfield {β : Type} (f : Interlock → β) (hf : ∀ i : Interlock, ∀ l l', f { i with leaving := l, rows := l' } = f i) :
      f (u.settled m) = f (m.resolve u.plant) := hf _ _ _
  rw [hout, hfield (·.proof) fun _ _ _ => rfl, hfield (·.mismatch) fun _ _ _ => rfl, hfield (·.settle) fun _ _ _ => rfl]
  unfold Interlock.resolve
  extract_lets d blown
  constructor
  · intro hsame
    rw [if_neg fun hc => hc.2 hsame]
    exact ⟨rfl, rfl, rfl⟩
  · intro hne
    rw [if_pos ⟨hrow, hne⟩]
    exact ⟨rfl, rfl, rfl⟩

end resolved

/-! ### The outputs of a resolution (R81–R83) -/

section outputs
variable (m : Interlock) (u : State)

/-- What the outputs of the compressor, the heater and the blower are set to. -/
def State.SetTo (u : State) (m : Interlock) (comp heater blower : Nat) : Prop :=
  (u.settled m).output .compressor = comp ∧ (u.settled m).output .heater = heater ∧
    ∀ r, (u.settled m).row .blower = some r → r.commanded = blower

theorem State.setTo_outcome : u.SetTo m (m.outcome u.plant).comp (m.outcome u.plant).heater (m.outcome u.plant).blower :=
  ⟨u.settled_comp m, u.settled_heater m, fun _ => u.settled_blower m⟩

theorem State.setTo_of_outcome {c h b : Nat} {re : Bool} (ho : m.outcome u.plant = ⟨c, h, b, re⟩) : u.SetTo m c h b := by
  have := u.setTo_outcome m
  rwa [ho] at this

/-- R81: the compressor's output by the three cases of the rule. -/
theorem Interlock.compAfter_unique {p : PlantLimits} {C : Nat}
    (hoff : m.output .compressor = 0 → m.wanted .compressor = 0 → C = 0)
    (hstart : m.output .compressor = 0 → m.wanted .compressor ≠ 0 →
      C = if m.proof = true ∧ p.minOff ≤ m.clock.offTime then 1 else 0)
    (hunsafe : m.output .compressor ≠ 0 → m.proof = false ∨ m.inhibits.forces .compressor = true → C = 0)
    (hstop : m.output .compressor ≠ 0 → m.proof = true → m.inhibits.forces .compressor = false →
      C = if m.wanted .compressor ≠ 0 ∨ m.clock.onTime < p.minOn then 1 else 0) : C = m.compAfter p := by
  unfold Interlock.compAfter
  by_cases hout : m.output .compressor = 0
  · rw [if_pos hout]
    by_cases hw : m.wanted .compressor = 0
    · rw [hoff hout hw, if_neg fun h => h.1 hw]
    · rw [hstart hout hw]
      exact if_congr ⟨fun h => ⟨hw, h⟩, fun h => h.2⟩ rfl rfl
  · rw [if_neg hout]
    split
    · next hu =>
      refine hunsafe hout ?_
      simpa using hu
    · next hu =>
      simp only [Bool.or_eq_true, Bool.not_eq_true', not_or, Bool.not_eq_false, Bool.not_eq_true] at hu
      rw [hstop hout hu.1 hu.2]
      by_cases hw : m.wanted .compressor = 0
      · rw [if_neg (not_not_intro hw)]
        by_cases hmin : p.minOn ≤ m.clock.onTime
        · have hneg : ¬ (m.wanted .compressor ≠ 0 ∨ m.clock.onTime < p.minOn) :=
            not_or.2 ⟨fun h => h hw, Nat.not_lt.2 hmin⟩
          rw [if_pos hmin, if_neg hneg]
        · rw [if_neg hmin, if_pos (Or.inr (Nat.lt_of_not_le hmin))]
      · rw [if_pos hw, if_pos (Or.inl hw)]

/-- R79, R83: with neither the compressor nor the heater wanted or on, the blower takes its own resolved value. -/
theorem State.settled_blower_alone (hcomp : m.output .compressor = 0) (hwc : m.wanted .compressor = 0)
    (hwh : m.wanted .heater = 0) {r : Row} (h : (u.settled m).row .blower = some r) : r.commanded = r.resolved := by
  have hC : m.compAfter u.plant = 0 := by rw [Interlock.compAfter, if_pos hcomp, if_neg fun h => h.1 hwc]
  have hH : m.heaterAfter = 0 := by rw [Interlock.heaterAfter, hwh, ite_self]
  have hout : (m.outcome u.plant).blower = m.wanted .blower := by
    rw [Interlock.outcome_free (Or.inl ⟨hC, hH⟩)]
    simp [Interlock.floorValue, hC, hH, hwc, hwh]
  have hwanted := u.settled_wanted m .blower
  rw [h] at hwanted
  rw [u.settled_blower m h, hout]
  exact hwanted.symm

/-- R81: the compressor's times after a resolution. -/
theorem State.settled_times :
    (m.output .compressor = 0 → (u.settled m).output .compressor ≠ 0 → (u.settled m).clock = .on 0) ∧
    (m.output .compressor ≠ 0 → (u.settled m).output .compressor = 0 → (u.settled m).clock = .off 0) ∧
    (m.output .compressor = 0 → m.compAfter u.plant = 0 → (u.settled m).clock = m.clock) ∧
    (m.output .compressor ≠ 0 → (u.settled m).output .compressor ≠ 0 → (u.settled m).clock = m.clock) := by
  have hreproof : (m.outcome u.plant).comp ≠ 0 → (m.outcome u.plant).reproof = false := fun hon =>
    Bool.eq_false_iff.2 fun h => hon (Interlock.outcome_reproof_off h)
  rw [u.settled_comp m, u.settled_clock m]
  refine ⟨fun hout hon => ?_, fun hout hoff => ?_, fun hout hC => ?_, fun hout hon => ?_⟩
  · rw [clockAfter, hreproof hon, if_neg Bool.false_ne_true, if_pos ⟨hout, hon⟩]
  · unfold clockAfter
    split
    · rfl
    · rw [if_neg fun h => hout h.1, if_pos ⟨hout, hoff⟩]
  · obtain ⟨hoff, hre⟩ := Interlock.outcome_off hC
    rw [clockAfter, hre, if_neg Bool.false_ne_true, if_neg fun h => h.2 hoff, if_neg fun h => h.1 hout]
  · rw [clockAfter, hreproof hon, if_neg Bool.false_ne_true, if_neg fun h => hout h.1, if_neg fun h => hon h.2]

end outputs

end Sys2Proof.Machine
end

section
/-! The Cycle Engine posts no change of an output (R88, R128, R136). -/

namespace Sys2Proof.Machine
open State

/-- R88: the posts that tell of an output. -/
def tellsOutput : Instr → Bool
  | .translatorOutputChanged _ _ | .dryingOutputOn _ | .dryingOutputOff _ | .cycleOutputChanged _ _ => true
  | _ => false

/-- Posts are added behind those in flight, none of which tells of an output. -/
def State.AddsPlain (s t : State) : Prop := ∃ es, t.posts = s.posts ++ es ∧ ∀ e ∈ es, tellsOutput e = false

namespace State.AddsPlain
variable {s t u : State}

theorem of_posts (h : t.posts = s.posts) : s.AddsPlain t := ⟨[], by rw [h, List.append_nil], nofun⟩

theorem refl (s : State) : s.AddsPlain s := of_posts rfl

theorem trans (h : s.AddsPlain t) (k : t.AddsPlain u) : s.AddsPlain u := by
  obtain ⟨es, he, hes⟩ := h
  obtain ⟨fs, hf, hfs⟩ := k
  refine ⟨es ++ fs, by rw [hf, he, List.append_assoc], fun e h => ?_⟩
  exact (List.mem_append.1 h).elim (hes e) (hfs e)

theorem post (h : s.AddsPlain t) {es : List Instr} (hes : ∀ e ∈ es, tellsOutput e = false) : s.AddsPlain (t.post es) :=
  h.trans ⟨es, rfl, hes⟩

end State.AddsPlain

variable (s : State)

theorem State.ended_addsPlain (c : Cycle) (planned : Bool) (o : CycleOutcome) (result : List (Option Curve)) :
    s.AddsPlain (s.ended c planned o result) := by
  refine State.AddsPlain.post (.of_posts rfl) fun e he => ?_
  simp only [List.mem_append, List.mem_cons] at he
  obtain (((h | h) | h) | rfl | h) := he
  · split at h <;> simp_all [tellsOutput]
  · split at h <;> simp_all [tellsOutput]
  · split at h <;> simp_all [tellsOutput]
  · cases c.kind <;> rfl
  · cases o <;> simp [failPost] at h
    rw [h]
    rfl

theorem State.beginStep_addsPlain (c : Cycle) : s.AddsPlain (s.beginStep c) :=
  State.AddsPlain.post (.of_posts rfl) (by simp [tellsOutput])

theorem State.run_addsPlain (fresh : Bool) (c : Cycle) : s.AddsPlain (s.run fresh c) := by
  unfold State.run
  split
  · split
    · exact State.AddsPlain.post (.of_posts rfl) (by simp [tellsOutput])
    · exact (s.beginStep_addsPlain _).post (by simp [tellsOutput])
  · split
    · exact (s.beginStep_addsPlain _).post (by simp [tellsOutput])
    · exact s.beginStep_addsPlain _

theorem State.startPicked_addsPlain (fresh : Bool) (c : Cycle) : s.AddsPlain (s.startPicked fresh c).1 := by
  unfold State.startPicked
  split
  · exact s.ended_addsPlain _ _ _ _
  · exact s.run_addsPlain _ _

theorem State.takeHighest_posts {fresh : Bool} {c : Cycle} {t : State} (h : s.takeHighest = some (fresh, c, t)) :
    t.posts = s.posts := by
  unfold State.takeHighest at h
  split at h
  · cases h
  · cases h
    rfl
  · cases h
    rfl
  · split at h
    · cases h
      rfl
    · cases h
      rfl

theorem State.pickLoop_addsPlain (n : Nat) : s.AddsPlain (s.pickLoop n) := by
  induction n generalizing s with
  | zero => exact .refl s
  | succ n ih =>
    unfold State.pickLoop
    split
    · exact .refl s
    · next fresh c t ht =>
      have hstart : s.AddsPlain (t.startPicked fresh c).1 :=
        (State.AddsPlain.of_posts (s.takeHighest_posts ht)).trans (t.startPicked_addsPlain fresh c)
      extract_lets r
      split
      · exact hstart
      · exact hstart.trans (ih _)

theorem State.pick_addsPlain : s.AddsPlain s.pick := by
  unfold State.pick
  split
  · exact .refl s
  · exact s.pickLoop_addsPlain _

theorem State.endRunning_addsPlain (c : Cycle) (o : CycleOutcome) (result : List (Option Curve)) :
    s.AddsPlain (s.endRunning c o result) :=
  ((State.AddsPlain.of_posts rfl).trans (State.ended_addsPlain _ _ _ _ _)).trans (State.pick_addsPlain _)

theorem State.preempt_addsPlain (k : CycleKind) : s.AddsPlain (s.preempt k) := by
  unfold State.preempt
  split
  · exact .refl s
  · split
    · split
      · refine (State.AddsPlain.post (.of_posts rfl) fun e he => ?_).trans (State.pick_addsPlain _)
        obtain rfl | he := List.mem_cons.1 he
        · rfl
        · split at he <;> simp_all [tellsOutput]
      · exact s.endRunning_addsPlain _ _ _
    · exact .refl s

theorem State.preemptTest_addsPlain : s.AddsPlain s.preemptTest := by
  unfold State.preemptTest
  split
  · exact .refl s
  · exact s.preempt_addsPlain _

theorem State.abortRunning_addsPlain (hit : CycleKind → Bool) (r : AbortReason) : s.AddsPlain (s.abortRunning hit r) := by
  unfold State.abortRunning
  split
  · exact .refl s
  · split
    · exact (State.AddsPlain.of_posts rfl).trans (State.ended_addsPlain _ _ _ _ _)
    · exact .refl s

theorem State.abortSuspended_addsPlain (hit : CycleKind → Bool) (r : AbortReason) :
    s.AddsPlain (s.abortSuspended hit r) := by
  unfold State.abortSuspended
  split
  · exact .refl s
  · split
    · exact (State.AddsPlain.of_posts rfl).trans (State.ended_addsPlain _ _ _ _ _)
    · exact .refl s

theorem State.cancel_addsPlain (cs : List Cycle) : s.AddsPlain (s.cancel cs) := by
  induction cs generalizing s with
  | nil => exact .refl s
  | cons c cs ih => exact (s.ended_addsPlain _ _ _ _).trans (ih _)

theorem State.cancelQueued_addsPlain (hit : CycleKind → Bool) : s.AddsPlain (s.cancelQueued hit) :=
  (State.AddsPlain.of_posts rfl).trans (State.cancel_addsPlain _ _)

theorem State.afterAborts_addsPlain (before : Option Cycle) : s.AddsPlain (s.afterAborts before) := by
  unfold State.afterAborts
  split
  · exact s.pick_addsPlain
  · split
    · exact s.preemptTest_addsPlain
    · exact .refl s

theorem State.abortKinds_addsPlain (hit : CycleKind → Bool) (r : AbortReason) : s.AddsPlain (s.abortKinds hit r) :=
  (s.abortRunning_addsPlain hit r).trans <| (State.abortSuspended_addsPlain _ hit r).trans <|
    (State.cancelQueued_addsPlain _ hit).trans (State.afterAborts_addsPlain _ _)

theorem State.cycleDoor_addsPlain (b : Bool) : s.AddsPlain (s.cycleDoor b) := by
  unfold State.cycleDoor
  extract_lets _ t
  split
  · exact (State.AddsPlain.of_posts rfl).trans (t.abortKinds_addsPlain _ _)
  · exact .of_posts rfl

end Sys2Proof.Machine
end

section
/-! Every event that resolves the rows (R79–R85, R88, R89), and the outputs it leaves. -/

namespace Sys2Proof.Machine
open State

/-! ### What an event brings to its resolution -/

/-- The same outputs, proof and times. -/
structure Interlock.SameOutputs (i m : Interlock) : Prop where
  rows : m.rows.map Row.plain = i.rows.map Row.plain
  proof : m.proof = i.proof
  clock : m.clock = i.clock

theorem Interlock.SameOutputs.output {i m : Interlock} (h : i.SameOutputs m) : m.output = i.output :=
  funext (Interlock.output_congr h.rows)

theorem Interlock.SameOutputs.refl (i : Interlock) : i.SameOutputs i := ⟨rfl, rfl, rfl⟩

theorem Interlock.SameOutputs.trans {i j k : Interlock} (h : i.SameOutputs j) (h' : j.SameOutputs k) : i.SameOutputs k :=
  ⟨h'.rows.trans h.rows, h'.proof.trans h.proof, h'.clock.trans h.clock⟩

theorem Interlock.request_sameOutputs (k : RowKind) (v : Nat) (i : Interlock) : i.SameOutputs (i.request k v) := by
  unfold Interlock.request
  split
  · exact ⟨rows_plain_map (fun r => by split <;> rfl) i.rows, rfl, rfl⟩
  · cases k <;> exact ⟨rfl, rfl, rfl⟩

theorem Interlock.dampers_sameOutputs (ds : List DamperRequest) (i : Interlock) : i.SameOutputs (i.dampers ds) :=
  ⟨rows_plain_map (fun r => by split <;> rfl) i.rows, rfl, rfl⟩

theorem Interlock.plan_sameOutputs (cs : List Claim) (i : Interlock) : i.SameOutputs (i.plan cs) :=
  ⟨rows_plain_map (fun r => by rfl) i.rows, rfl, rfl⟩

theorem Interlock.output_sameOutputs (o : Output) (v : Nat) (i : Interlock) :
    i.SameOutputs (if o = .pump then i else i.request (Output.row o) v) := by
  split
  · exact .refl i
  · exact i.request_sameOutputs _ v

variable (s : State)

/-- The interlock m is what stands as the event c comes to its resolution. -/
structure State.Brings (s : State) (c : Instr) (m : Interlock) : Prop where
  stands : ∀ proof clock present, s.StandsAt c proof clock present →
    proof = m.proof ∧ clock = m.clock ∧ present = m.output
  off : (∀ r ∈ s.inter.rows, r.kind = .compressor → r.commanded = 0) → m.output .compressor = 0

theorem Interlock.output_zero {i : Interlock} {k : RowKind} (h : ∀ r ∈ i.rows, r.kind = k → r.commanded = 0) :
    i.output k = 0 := by
  unfold Interlock.output
  split
  · rfl
  · next r hr => exact h r (List.mem_of_find?_eq_some hr) (i.row_kind k r hr)

theorem State.Brings.of_same {s : State} {c : Instr} {m : Interlock} (h : s.inter.SameOutputs m)
    (hstands : ∀ proof clock present, s.StandsAt c proof clock present →
      proof = s.inter.proof ∧ clock = s.inter.clock ∧ ∀ k, present k = s.inter.output k) : s.Brings c m where
  stands proof clock present hat := by
    obtain ⟨hproof, hclock, hpresent⟩ := hstands proof clock present hat
    rw [h.proof, h.clock, h.output]
    exact ⟨hproof, hclock, funext hpresent⟩
  off hoff := by
    rw [h.output]
    exact Interlock.output_zero hoff

/-- R81: an expiry brings the clock to its time (log 5). -/
theorem State.brings_reach {c : Instr} {n : Nat}
    (hstands : ∀ proof clock present, s.StandsAt c proof clock present →
      proof = s.inter.proof ∧ clock = s.inter.clock.reach n ∧ ∀ k, present k = s.inter.output k) :
    s.Brings c { s.inter with clock := s.inter.clock.reach n } where
  stands proof clock present hat := by
    obtain ⟨hproof, hclock, hpresent⟩ := hstands proof clock present hat
    exact ⟨hproof, hclock, funext hpresent⟩
  off := Interlock.output_zero

/-! ### A sample (R82, R84) -/

theorem Interlock.prove_rest (agrees : Bool) (i : Interlock) :
    i.prove agrees = { i with proof := i.proof || agrees && decide (i.output .blower ≠ 0) && !i.fault } := by
  unfold Interlock.prove
  split
  · next h =>
    obtain ⟨h1, h2, h3⟩ := h
    rw [h1, h3, decide_eq_true h2]
    simp
  · next h =>
    have hnone : (agrees && decide (i.output .blower ≠ 0) && !i.fault) = false := by
      rw [Bool.eq_false_iff]
      intro hall
      simp only [Bool.and_eq_true, decide_eq_true_eq] at hall
      exact h ⟨hall.1.1, hall.1.2, hall.2⟩
    rw [hnone, Bool.or_false]

/-- R84: what a sample leaves of the latch, the count and proof once the settle timer has expired. -/
theorem Interlock.count_proof (agrees : Bool) (i : Interlock) : (i.count agrees).proof =
    (i.proof && (agrees || i.settling || i.fault || decide (i.mismatch < 2))) := by
  unfold Interlock.count
  split
  · next h => simp [h]
  · next h =>
    split
    · next ha => simp [ha]
    · next ha =>
      split
      · next hm =>
        have hm : 1 < i.mismatch := by omega
        unfold Interlock.latch
        split
        · next hf => simp [show i.fault = true from hf]
        · next hf => simp [show i.fault = false by simpa using hf, h, ha, hm]
      · next hm => simp [show i.mismatch < 2 by omega]

theorem Interlock.count_same (agrees : Bool) (i : Interlock) : (i.count agrees).rows = i.rows ∧
    (i.count agrees).clock = i.clock := by
  unfold Interlock.count
  split
  · exact ⟨rfl, rfl⟩
  · split
    · exact ⟨rfl, rfl⟩
    · split
      · unfold Interlock.latch
        split <;> exact ⟨rfl, rfl⟩
      · exact ⟨rfl, rfl⟩

theorem Interlock.feedback_same (x : Option Nat) (i : Interlock) : (i.feedback x).rows = i.rows ∧
    (i.feedback x).clock = i.clock := by
  rw [Interlock.feedback, Interlock.prove_rest]
  exact Interlock.count_same _ _

/-- R82, R84: what a sample leaves of proof. -/
theorem Interlock.feedback_proof (x : Option Nat) (i : Interlock) : (i.feedback x).proof =
    if x = some (i.output .blower) then i.proof || (decide (i.output .blower ≠ 0) && !i.fault)
    else i.proof && (i.fault || i.settling || decide (i.mismatch < 2)) := by
  rw [Interlock.feedback, Interlock.count_proof, Interlock.prove_rest]
  split
  · next h => simp [h]
  · next h =>
    have hno : (x == some (i.output .blower)) = false := by simpa using h
    rw [hno]
    show ((i.proof || _) && (false || i.settling || i.fault || _)) = _
    simp [Bool.or_comm]

theorem State.brings_feedback (y : Option (Nat × Quality)) :
    s.Brings (.blowerFbSample y) (s.inter.feedback (y.map Prod.fst)) := by
  obtain ⟨hrows, hclock⟩ := s.inter.feedback_same (y.map Prod.fst)
  have hout : (s.inter.feedback (y.map Prod.fst)).output = s.inter.output :=
    funext (Interlock.output_congr (congrArg (List.map Row.plain) hrows))
  refine ⟨fun proof clock present ⟨h1, h2, h3⟩ => ⟨?_, h2.trans hclock.symm, (funext h3).trans hout.symm⟩, fun hoff => ?_⟩
  · rw [h1, Interlock.feedback_proof]
  · rw [hout]
    exact Interlock.output_zero hoff

/-! ### A swap (R89) -/

theorem RowKind.eq_compressor_of_function {k : RowKind} (h : k.function = RowKind.compressor.function) :
    k = .compressor := by
  cases k <;> simp [RowKind.function] at h
  rfl

/-- R89: a row called for stands at the output of the row it keeps, or at 0. -/
theorem Interlock.createRow_commanded (i : Interlock) {r : Row} (hr : r.commanded = 0) :
    (i.createRow i.rows r).commanded = match i.rows.find? (Row.same r) with
      | none => 0
      | some o => o.commanded := by
  unfold Interlock.createRow
  cases h : i.rows.find? (Row.same r) with
  | none => exact hr
  | some o => simp only [keepRow, h]

theorem Interlock.compare_row (p : PlantLimits) (called : List Row) (i : Interlock) (k : RowKind) :
    (i.compare p called).row k = (called.find? fun r => r.kind == k).map (i.createRow i.rows) :=
  find_kind_map (i.createRow i.rows) (fun r => i.createRow_kind i.rows r) k called

theorem Interlock.compare_output (p : PlantLimits) {called : List Row} (hcalled : ∀ r ∈ called, r.commanded = 0)
    (i : Interlock) (k : RowKind) : (i.compare p called).output k =
      match called.find? fun r => r.kind == k with
      | none => 0
      | some r => match i.rows.find? (Row.same r) with
        | none => 0
        | some o => o.commanded := by
  rw [Interlock.output, Interlock.compare_row]
  cases h : called.find? fun r => r.kind == k with
  | none => rfl
  | some r => exact i.createRow_commanded (hcalled r (List.mem_of_find?_eq_some h))

theorem Interlock.isLeaving_eq (old called : List Row) (k : RowKind) :
    (!isLeaving old called k) = old.all fun r => r.kind != k || called.any (Row.same r) := by
  rw [isLeaving, List.not_any_eq_all_not]
  refine congrArg (old.all ·) (funext fun r => ?_)
  rw [Bool.not_and, Bool.not_not]
  rfl

theorem State.brings_compare : s.Brings .interlockSwapTaken (s.inter.compare s.plant s.calledRows) where
  stands proof clock present := by
    rintro ⟨h1, h2, h3⟩
    refine ⟨h1.trans ?_, h2.trans ?_, funext fun k => (h3 k).trans ?_⟩
    · show _ = (s.inter.proof && !isLeaving s.inter.rows s.calledRows .blower)
      rw [Interlock.isLeaving_eq]
    · show _ = if ((s.inter.rows.filter _).any _) = true then CompClock.off 0 else s.inter.clock
      rw [List.any_filter]
      refine if_congr (iff_of_eq (congrArg (· = true) (congrArg (s.inter.rows.any ·) (funext fun r => ?_)))) rfl rfl
      cases s.calledRows.any (Row.same r) <;> cases r.kind == RowKind.compressor <;>
        cases hc : (r.commanded != 0) <;> simp_all
    · exact (Interlock.compare_output _ s.calledRows_commanded _ _).symm
  off hoff := by
    rw [Interlock.compare_output _ s.calledRows_commanded]
    split
    · rfl
    · next r hr =>
      split
      · rfl
      · next o ho =>
        refine hoff o (List.mem_of_find?_eq_some ho) (RowKind.eq_compressor_of_function ?_)
        have hkind : r.kind = .compressor := by simpa using List.find?_some hr
        have hplace := (Row.same_iff _ _).1 (List.find?_some ho)
        rw [← hkind]
        exact (congrArg (·.2.1) hplace).symm

end Sys2Proof.Machine
end

section
/-! Every resolving event comes to a resolution of the interlock (R79–R85, R88, R89). -/

namespace Sys2Proof.Machine
open State

variable (s : State)

/-- The event c came to the resolution of an interlock that stood as m, and left t. -/
structure State.ComesTo (s : State) (c : Instr) (m : Interlock) (t : State) : Prop where
  inter : ∃ u : State, u.plant = s.plant ∧ t.inter = u.settled m
  banks : t.banks = s.banks
  posts : ∃ more, t.posts = s.posts.erase c ++ (outputPosts s.inter m ++ outputPosts m t.inter) ++ more ∧
    (more ≠ [] → (∃ x, c = .blowerFbSample x) ∨ (∃ b, c = .doorLineChange b) ∨ c = .clearFault) ∧
    ∀ e ∈ more, tellsOutput e = false

theorem State.settled_outputPosts (u : State) (m : Interlock) :
    outputPosts m (u.settled m) = outputPosts m (m.resolve u.plant) := by
  have h : (u.settled m).output = (m.resolve u.plant).output :=
    funext (Interlock.output_congr (rows_plain_of_offered (u.settled_rows m)))
  rw [outputPosts, outputPosts, h]

/-- R88: the posts of an event that resolves, its own posts behind. -/
theorem State.comesTo_of {c : Instr} {m : Interlock} {f : Interlock → Interlock} {t u : State} {more : List Instr}
    (hm : f u.inter = m) (hinter : u.inter = s.inter) (hbanks : u.banks = s.banks) (hposts : u.posts = s.posts.erase c)
    (htinter : t.inter = (u.resolving f).inter) (htbanks : t.banks = s.banks)
    (htposts : t.posts = (u.resolving f).posts ++ more)
    (hwho : more ≠ [] → (∃ x, c = .blowerFbSample x) ∨ (∃ b, c = .doorLineChange b) ∨ c = .clearFault)
    (hplain : ∀ e ∈ more, tellsOutput e = false) : s.ComesTo c m t := by
  have hsettled : t.inter = u.settled m := by
    rw [htinter, ← hm]
    rfl
  refine ⟨⟨u, ?_, hsettled⟩, htbanks, more, ?_, hwho, hplain⟩
  · simp only [State.plant, State.param, hbanks]
  · rw [htposts, State.resolving_posts, hsettled, State.settled_outputPosts, State.resolved, hm, hinter, hposts]

theorem State.comesTo_taken (c : Instr) (f : Interlock → Interlock) :
    s.ComesTo c (f s.inter) ((s.took c).resolving f) :=
  s.comesTo_of (u := s.took c) (f := f) (more := []) rfl rfl rfl rfl rfl rfl (List.append_nil _).symm (absurd rfl) nofun

/-- An event that resolves leaves a state of its resolution. -/
def State.ResolvesTo (s : State) (c : Instr) : Prop := ∃ t m, exec c s = .next t ∧ s.ComesTo c m t ∧ s.Brings c m

theorem State.resolvesTo_taking {c : Instr} {f : Interlock → Interlock}
    (hexec : exec c s = .next ((s.took c).resolving f)) (hbrings : s.Brings c (f s.inter)) : s.ResolvesTo c :=
  ⟨_, _, hexec, s.comesTo_taken c f, hbrings⟩

section events
variable (hheld : s.held = false)
include hheld

theorem State.resolvesTo_feedback (y : Option (Nat × Quality)) (hrow : (s.inter.row .blower).isSome = true) :
    s.ResolvesTo (.blowerFbSample y) := by
  have hexec : exec (.blowerFbSample y) s = .next ((s.took (.blowerFbSample y)).takeFeedback (y.map Prod.fst)) :=
    taking_awake s (.blowerFbSample y) (State.takeFeedback (y.map Prod.fst)) hheld
  have hnone : ¬ (s.inter.row .blower).isNone = true := by
    rw [Option.isNone_iff_eq_none]
    exact Option.isSome_iff_ne_none.1 hrow
  refine ⟨_, s.inter.feedback (y.map Prod.fst), hexec, ?_, s.brings_feedback y⟩
  have htake : (s.took (.blowerFbSample y)).takeFeedback (y.map Prod.fst) =
      if ((s.took (.blowerFbSample y)).resolving (Interlock.feedback (y.map Prod.fst))).inter.fault && !s.inter.fault then
        ((s.took (.blowerFbSample y)).resolving (Interlock.feedback (y.map Prod.fst))).post
          [.conditionPost .blowerFault true, .airflowLost]
      else (s.took (.blowerFbSample y)).resolving (Interlock.feedback (y.map Prod.fst)) := if_neg hnone
  rw [htake]
  split
  · exact s.comesTo_of (u := s.took (.blowerFbSample y)) (f := Interlock.feedback (y.map Prod.fst)) rfl rfl rfl rfl rfl rfl
      rfl (fun _ => .inl ⟨y, rfl⟩) (by simp [tellsOutput])
  · exact s.comesTo_taken _ _

theorem State.resolvesTo_door (b : Bool) (hline : s.lines.door = !b) (hdoor : s.inter.inhibits.door = !b) :
    s.ResolvesTo (.doorLineChange b) := by
  have hexec := exec_doorLineChange s b hheld hline
  have hne : (s.doorSet b).inter.inhibits.get .door ≠ b := by
    show s.inter.inhibits.door ≠ b
    rw [hdoor]
    cases b <;> decide
  have hset := State.setInhibit_changed (s.doorSet b) hne
  obtain ⟨es, hes, hplain⟩ := (s.doorGuarded b).cycleDoor_addsPlain b
  have hrest {k : Block} (h1 : k ≠ .cycles) (h2 : k ≠ .filters) :
      (s.doorGuarded b).agrees (((s.doorGuarded b).cycleDoor b).filterDoor b) k :=
    agrees_trans ((State.cycleDoor_within (s.doorGuarded b) b).same k (by simpa using h1))
      ((State.filterDoor_within _ b).same k (by simpa using h2))
  have hbanks : (s.doorGuarded b).banks = s.banks := ((s.doorSet b).setInhibit_within .door b).same .banks (by simp)
  refine ⟨_, { s.inter with inhibits := s.inter.inhibits.set .door b }, hexec, ?_, .of_same ⟨rfl, rfl, rfl⟩ fun _ _ _ => id⟩
  refine s.comesTo_of (u := s.doorSet b) (f := fun i => { i with inhibits := i.inhibits.set .door b })
    (more := .conditionPost .doorOpen b :: es) rfl rfl rfl rfl ?_ ?_ ?_ (fun _ => .inr (.inl ⟨b, rfl⟩)) ?_
  · rw [← hset]
    exact (hrest (k := .inter) nofun nofun : _ = _)
  · exact (hrest (k := .banks) nofun nofun : _ = _).trans hbanks
  · rw [State.filterDoor_posts, hes, ← hset]
    exact List.append_assoc _ [_] es
  · intro e he
    obtain rfl | he := List.mem_cons.1 he
    · rfl
    · exact hplain e he

/-- R85: what CLEAR FAULT (BLOWER) makes of the interlock before its resolution. -/
def State.clearedFault (s : State) (i : Interlock) : Interlock :=
  { i with
    fault := false
    inhibits := { i.inhibits with airflow := false }
    mismatch := 0
    settle := if (i.row .blower).isSome then some s.plant.settle else none }

omit hheld in
theorem State.resolvesTo_clearFault (hfault : s.inter.fault = true) {r : Request} {rest : List Request}
    (hserves : s.Serves 0x04 r rest) (hlen : r.args.length = 1) (harg : r.arg 0 = 0) : s.ResolvesTo .clearFault := by
  have hok : oneArg 1 r = true := by simp [oneArg, Request.hasArgs, hlen, harg]
  have hexec := requestRow_serves s .clearFault 0x04 (oneArg 1) runClearFault r rest hserves (by decide) hok
  obtain ⟨u, hu⟩ : ∃ u, u = (s.took .clearFault).reserve rest := ⟨_, rfl⟩
  have hinter : u.inter = s.inter := by rw [hu]; rfl
  have hbanks : u.banks = s.banks := by rw [hu]; rfl
  have hposts : u.posts = s.posts.erase .clearFault := by rw [hu]; rfl
  have hrun : (runClearFault r u).1 = (u.resolving u.clearedFault).post [.conditionPost .blowerFault false] :=
    (if_pos harg).trans (if_pos (hinter ▸ hfault))
  rw [← hu, hrun] at hexec
  obtain ⟨v, hv⟩ : ∃ v, v = u.resolving u.clearedFault := ⟨_, rfl⟩
  have hvbanks : v.banks = s.banks := by
    rw [hv]
    exact ((u.resolving_within _).same .banks (by simp)).trans hbanks
  refine ⟨_, u.clearedFault s.inter, hexec, ?_, .of_same ⟨rfl, rfl, rfl⟩ fun _ _ _ => id⟩
  rw [← hv]
  refine s.comesTo_of (u := u) (f := u.clearedFault) (more := [.conditionPost .blowerFault false])
    (congrArg _ hinter) hinter hbanks hposts ?_ hvbanks ?_ (fun _ => .inr (.inr rfl)) (by simp [tellsOutput])
  · rw [← hv]
    rfl
  · rw [← hv]
    rfl

theorem State.resolvesTo_inhibit (m : Inhibit) (b : Bool) {c : Instr} (hc : c = if b then .inhibitClaim m else .inhibitRelease m)
    (hget : s.inter.inhibits.get m ≠ b) : s.ResolvesTo c := by
  have hexec := (exec_inhibitChange s hheld m b hc).trans (congrArg _ (State.setInhibit_changed (s.took c) hget))
  refine s.resolvesTo_taking hexec (.of_same ⟨rfl, rfl, rfl⟩ ?_)
  cases b <;> subst hc <;> exact fun _ _ _ => id

/-- R79, R80, R85: every resolving event comes to a resolution. -/
theorem State.resolvesTo_of_resolves {c : Instr} (h : s.Resolves c) : s.ResolvesTo c := by
  obtain ⟨step, ds, rfl⟩ | ⟨o, v, rfl⟩ | ⟨o, rfl⟩ | ⟨k, cs, rfl⟩ | rfl | ⟨m, rfl, hm⟩ | ⟨m, rfl, hm⟩ | ⟨x, rfl, hrow⟩ |
    ⟨rfl, hstop⟩ | ⟨rfl, hstart⟩ | rfl | ⟨b, rfl, hline, hdoor⟩ | ⟨rfl, hfault, r, rest, hserves, hlen, harg⟩ := h
  case inl =>
    exact s.resolvesTo_taking (exec_normalRequests s hheld step ds)
      (.of_same ((Interlock.request_sameOutputs .blower step _).trans (Interlock.dampers_sameOutputs ds _)) fun _ _ _ => id)
  case inr.inl =>
    exact s.resolvesTo_taking (taking_awake s (.runRequest o v)
      (State.resolving fun i => if o = .pump then i else i.request (Output.row o) v) hheld)
      (.of_same (Interlock.output_sameOutputs o v _) fun _ _ _ => id)
  case inr.inr.inl =>
    exact s.resolvesTo_taking (taking_awake s (.stopRequest o)
      (State.resolving fun i => if o = .pump then i else i.request (Output.row o) 0) hheld)
      (.of_same (Interlock.output_sameOutputs o 0 _) fun _ _ _ => id)
  case inr.inr.inr.inl =>
    exact s.resolvesTo_taking (exec_cyclePlan s hheld k cs) (.of_same (Interlock.plan_sameOutputs cs _) fun _ _ _ => id)
  case inr.inr.inr.inr.inl =>
    exact s.resolvesTo_taking (exec_planRelease s hheld) (.of_same (Interlock.plan_sameOutputs [] _) fun _ _ _ => id)
  case inr.inr.inr.inr.inr.inl => exact s.resolvesTo_inhibit hheld m true rfl (by rw [hm]; decide)
  case inr.inr.inr.inr.inr.inr.inl => exact s.resolvesTo_inhibit hheld m false rfl (by rw [hm]; decide)
  case inr.inr.inr.inr.inr.inr.inr.inl => exact s.resolvesTo_feedback hheld x hrow
  case inr.inr.inr.inr.inr.inr.inr.inr.inl =>
    have hexec : exec .minOnExpiry s =
        .next ((s.took .minOnExpiry).resolving fun i => { i with clock := i.clock.reach s.plant.minOn }) :=
      (taking_awake s .minOnExpiry (fun s => if s.inter.stopHeld then
        s.resolving fun i => { i with clock := i.clock.reach s.plant.minOn } else s) hheld).trans (congrArg _ (if_pos hstop))
    refine s.resolvesTo_taking hexec (s.brings_reach fun _ _ _ ⟨h1, h2, h3⟩ => ⟨h1, h2.trans ?_, h3⟩)
    cases s.inter.clock <;> rfl
  case inr.inr.inr.inr.inr.inr.inr.inr.inr.inl =>
    have hexec : exec .minOffExpiry s =
        .next ((s.took .minOffExpiry).resolving fun i => { i with clock := i.clock.reach s.plant.minOff }) :=
      (taking_awake s .minOffExpiry (fun s => if s.inter.startPending then
        s.resolving fun i => { i with clock := i.clock.reach s.plant.minOff } else s) hheld).trans (congrArg _ (if_pos hstart))
    refine s.resolvesTo_taking hexec (s.brings_reach fun _ _ _ ⟨h1, h2, h3⟩ => ⟨h1, h2.trans ?_, h3⟩)
    cases s.inter.clock <;> rfl
  case inr.inr.inr.inr.inr.inr.inr.inr.inr.inr.inl =>
    exact s.resolvesTo_taking (taking_awake s .interlockSwapTaken
      (fun s => s.resolving (Interlock.compare s.plant s.calledRows)) hheld) s.brings_compare
  case inr.inr.inr.inr.inr.inr.inr.inr.inr.inr.inr.inl => exact s.resolvesTo_door hheld b hline hdoor
  case inr.inr.inr.inr.inr.inr.inr.inr.inr.inr.inr.inr =>
    exact s.resolvesTo_clearFault hfault hserves hlen harg

end events

end Sys2Proof.Machine
end

section
/-! What each resolving event leaves: safe outputs, their posts, and the times (R79–R83, R85, R88). -/

namespace Sys2Proof.Machine
open State

variable {s t : State} {c : Instr} {m : Interlock}

/-! ### The posts (R88) -/

theorem outputPosts_eq_news (old new : Interlock) : outputPosts old new = OutputNews old.output new.output := by
  rw [outputPosts]
  simp only [OutputNews, List.flatMap_cons, List.flatMap_nil, List.append_nil, List.append_assoc]
  rfl

theorem no_output_news {more : List Instr} (h : ∀ e ∈ more, tellsOutput e = false) (o : Output) (v : Nat) :
    .translatorOutputChanged o v ∉ more ∧ .dryingOutputOn o ∉ more ∧ .dryingOutputOff o ∉ more ∧
      .cycleOutputChanged o v ∉ more :=
  ⟨fun hm => (nomatch h _ hm), fun hm => (nomatch h _ hm), fun hm => (nomatch h _ hm), fun hm => (nomatch h _ hm)⟩

theorem mem_outputPosts {old new : Interlock} {o : Output} (h : old.output (Output.row o) ≠ new.output (Output.row o)) :
    .translatorOutputChanged o (new.output (Output.row o)) ∈ outputPosts old new := by
  have hpost : .translatorOutputChanged o (new.output (Output.row o)) ∈
      outputPost o (old.output (Output.row o)) (new.output (Output.row o)) := by
    rw [outputPost, if_neg h]
    exact List.mem_cons_self
  rw [outputPosts]
  cases o with
  | compressor => exact List.mem_append_left _ (List.mem_append_left _ hpost)
  | heater => exact List.mem_append_left _ (List.mem_append_right _ hpost)
  | pump => exact List.mem_append_right _ hpost

/-- R88: a change of an output over the whole event is posted with the value it comes to. -/
theorem State.ComesTo.posted (h : s.ComesTo c m t) (o : Output)
    (hne : s.inter.output (Output.row o) ≠ t.inter.output (Output.row o)) :
    .translatorOutputChanged o (t.inter.output (Output.row o)) ∈ t.posts := by
  obtain ⟨more, hposts, -, -⟩ := h.posts
  rw [hposts]
  refine List.mem_append_left _ (List.mem_append_right _ ?_)
  by_cases hmid : m.output (Output.row o) = t.inter.output (Output.row o)
  · rw [← hmid] at hne ⊢
    exact List.mem_append_left _ (mem_outputPosts hne)
  · exact List.mem_append_right _ (mem_outputPosts hmid)

/-! ### The laws -/

theorem State.ComesTo.laws (h : s.ComesTo c m t) : t.ProofLaw ∧ t.FloorLaw ∧ t.DoorLaw := by
  obtain ⟨u, hplant, hinter⟩ := h.inter
  have hparam : t.param 74 0 = u.param 74 0 :=
    (show t.param 74 0 = s.param 74 0 by rw [State.param, State.param, h.banks]).trans
      (congrArg PlantLimits.dryMin hplant).symm
  have hproof := u.settled_proofSafe m
  have hfloor := u.settled_floorHeld m
  have hdoor := u.settled_doorShut m
  rw [← hinter] at hproof hfloor hdoor
  rw [← hparam] at hfloor
  exact ⟨hproof, hfloor, hdoor⟩

theorem State.ComesTo.inhibits (h : s.ComesTo c m t) : t.inter.inhibits = m.inhibits := by
  obtain ⟨u, -, hinter⟩ := h.inter
  rw [hinter, u.settled_inhibits]

/-- R79: each row stands at its resolved value; dampers and the pump are driven to it. -/
theorem State.ComesTo.rows (h : s.ComesTo c m t) {r : Row} (hr : r ∈ t.inter.rows) :
    (r.resolved = if t.inter.inhibits.forces r.kind then 0 else r.cycle.getD (r.normal.getD 0)) ∧
    ∀ z, (r.kind = .damper z ∨ r.kind = .pump) → r.commanded = r.resolved := by
  obtain ⟨u, hplant, hinter⟩ := h.inter
  rw [h.inhibits]
  rw [hinter] at hr
  obtain ⟨hresolved, hcommanded⟩ := u.mem_settled m hr
  refine ⟨hresolved, fun z hz => ?_⟩
  rw [hcommanded, hresolved, Decided.valueFor]
  obtain hz | hz := hz <;> rw [hz]

theorem wanted_zero {i : Interlock} {k : RowKind} (h : ∀ r ∈ i.rows, r.kind = k → r.resolved = 0) :
    (match i.row k with
      | none => 0
      | some r => r.resolved) = 0 := by
  split
  · rfl
  · next r hr => exact h r (List.mem_of_find?_eq_some hr) (i.row_kind k r hr)

/-- R83: with neither wanted nor on, the blower is at its own resolved value. -/
theorem State.ComesTo.alone (h : s.ComesTo c m t) (hb : s.Brings c m)
    (hoff : ∀ r ∈ s.inter.rows, r.kind = .compressor → r.commanded = 0)
    (hwant : ∀ r ∈ t.inter.rows, r.kind = .compressor ∨ r.kind = .heater → r.resolved = 0) {r : Row}
    (hr : t.inter.row .blower = some r) : r.commanded = r.resolved := by
  obtain ⟨u, -, hinter⟩ := h.inter
  rw [hinter] at hwant hr
  refine u.settled_blower_alone m (hb.off hoff) ?_ ?_ hr
  · exact (u.settled_wanted m _).symm.trans (wanted_zero fun r hr hk => hwant r hr (.inl hk))
  · exact (u.settled_wanted m _).symm.trans (wanted_zero fun r hr hk => hwant r hr (.inr hk))

/-! ### The inhibit set (R80) -/

theorem Inhibits.forces_iff (i : Inhibits) (z : Nat) :
    (i.forces .blower = true ↔ i.door = true ∨ i.run = true ∨ i.halt = true) ∧
    (i.forces (.damper z) = true ↔ i.door = true ∨ i.run = true ∨ i.halt = true) ∧
    (i.forces .compressor = true ↔ i.door = true ∨ i.tank = true ∨ i.airflow = true ∨ i.run = true ∨ i.halt = true) ∧
    (i.forces .heater = true ↔ i.door = true ∨ i.tank = true ∨ i.airflow = true ∨ i.run = true ∨ i.halt = true) ∧
    (i.forces .pump = true ↔ i.halt = true ∨ i.pump = true) := by
  simp only [Inhibits.forces, Bool.or_eq_true, or_assoc, and_self]

/-- Settles O31: every resolving event comes to one resolution of an interlock that stands as `StandsAt` says, and each clause
is what a resolution makes of it. -/
theorem everyResolutionKeepsThePlantSafe : Obligations.EveryResolutionKeepsThePlantSafe := by
  refine ⟨fun c s hheld hres => ?_, Inhibits.forces_iff⟩
  obtain ⟨t, m, hexec, hcomes, hbrings⟩ := s.resolvesTo_of_resolves hheld hres
  obtain ⟨hproof, hfloor, hdoor⟩ := hcomes.laws
  refine ⟨t, hexec, fun r hr => (hcomes.rows hr).1, fun r hr => (hcomes.rows hr).2, hproof, hfloor, hdoor, hcomes.posted,
    fun hoff hwant r hr => hcomes.alone hbrings hoff hwant hr, ?_⟩
  intro proof clock present wanted C H F Set hat hwanted hset hoff hstart hunsafe hstop hH hF
  obtain ⟨rfl, rfl, rfl⟩ := hbrings.stands proof clock present hat
  obtain ⟨u, hplant, hinter⟩ := hcomes.inter
  obtain rfl : wanted = m.wanted := funext fun k => by
    rw [hwanted, hinter]
    exact u.settled_wanted m k
  have hC : C = m.compAfter u.plant := by
    rw [hplant]
    rw [hcomes.inhibits] at hunsafe hstop
    exact m.compAfter_unique hoff hstart hunsafe hstop
  have hH : H = m.heaterAfter := hH
  have hmin : s.param 74 0 = u.plant.dryMin := (congrArg PlantLimits.dryMin hplant).symm
  have hF : F = m.floorValue u.plant (m.compAfter u.plant) m.heaterAfter := by
    rw [hF, hC, hH, hmin]
    rfl
  have hset' (comp heater blower : Nat) : Set comp heater blower ↔ u.SetTo m comp heater blower := by
    rw [hset, hinter]
    exact Iff.rfl
  obtain ⟨honNews, hoffNews, hkeptOff, hkeptOn⟩ := u.settled_times m
  obtain ⟨more, hposts, hwho, hplain⟩ := hcomes.posts
  rw [hC, hH, hF, hmin, hinter]
  simp only [hset']
  refine ⟨fun h1 h2 h3 => u.setTo_of_outcome m (Interlock.outcome_waits h1 h2 h3), fun h1 h2 h3 => ?_,
    fun h1 h2 h3 => u.setTo_of_outcome m (Interlock.outcome_heaterStops h1 h2 h3),
    fun h => u.setTo_of_outcome m (Interlock.outcome_free h), honNews, hoffNews, hkeptOff, hkeptOn, fun hrow => ?_,
    more, ?_, hwho, fun o v => no_output_news hplain o v⟩
  · have hout := Interlock.outcome_reproof h1 h2 h3
    refine ⟨u.setTo_of_outcome m hout, ?_⟩
    rw [u.settled_clock, hout]
    rfl
  · obtain ⟨hsame, hmoved⟩ := u.settled_proof m hrow
    have hsettle : u.param 74 3 = s.param 74 3 := congrArg PlantLimits.settle hplant
    rw [← hsettle]
    exact ⟨fun h => (hsame h).1, hmoved⟩
  · rw [← outputPosts_eq_news, ← outputPosts_eq_news, hposts, hinter]
    simp only [List.append_assoc]

end Sys2Proof.Machine
end

section
/-! Feedback samples and the protection times (R81, R82, R84). -/

namespace Sys2Proof.Machine
open State

variable (s : State)

/-! ### What a sample makes of the interlock -/

section feedback
variable {i : Interlock} {x : Option Nat}

/-- R82, R84: a sample that agrees with the blower. -/
theorem Interlock.feedback_agrees (h : x = some (i.output .blower)) : i.feedback x =
    { i with
      proof := i.proof || (decide (i.output .blower ≠ 0) && !i.fault)
      mismatch := if i.settling then i.mismatch else 0 } := by
  have hyes : (x == some (i.output .blower)) = true := by rw [h, beq_self_eq_true]
  rw [Interlock.feedback, hyes, Interlock.prove_rest, Bool.true_and, Interlock.count]
  show (if i.settling = true then _ else _) = _
  split <;> rfl

/-- R84: a sample that does not agree, short of the third. -/
theorem Interlock.feedback_counts (h : x ≠ some (i.output .blower)) (hfew : i.settling = true ∨ i.mismatch < 2) :
    i.feedback x = { i with mismatch := if i.settling then i.mismatch else i.mismatch + 1 } := by
  have hno : (x == some (i.output .blower)) = false := by simpa using h
  rw [Interlock.feedback, hno, Interlock.prove_rest, Bool.false_and, Bool.false_and, Bool.or_false, Interlock.count]
  show (if i.settling = true then i else _) = _
  split
  · rfl
  · next hs =>
    have hm : ¬ 3 ≤ i.mismatch + 1 := by
      have := hfew.resolve_left hs
      omega
    exact (if_neg Bool.false_ne_true).trans (if_neg hm)

/-- R84: the third sample that does not agree sets the latch. -/
theorem Interlock.feedback_latches (h : x ≠ some (i.output .blower)) (hs : i.settling = false) (hm : 2 ≤ i.mismatch)
    (hf : i.fault = false) : i.feedback x =
      { i with mismatch := 0, fault := true, proof := false, inhibits := { i.inhibits with airflow := true } } := by
  have hno : (x == some (i.output .blower)) = false := by simpa using h
  have hns : ¬ i.settling = true := by simp [hs]
  have hnf : ¬ i.fault = true := by simp [hf]
  have hthird : 3 ≤ i.mismatch + 1 := by omega
  rw [Interlock.feedback, hno, Interlock.prove_rest, Bool.false_and, Bool.false_and, Bool.or_false, Interlock.count]
  exact (if_neg hns).trans ((if_neg Bool.false_ne_true).trans ((if_pos hthird).trans (if_neg hnf)))

theorem Interlock.feedback_settle : (i.feedback x).settle = i.settle := by
  rw [Interlock.feedback, Interlock.prove_rest, Interlock.count]
  split
  · rfl
  · split
    · rfl
    · split
      · rw [Interlock.latch]
        split <;> rfl
      · rfl

theorem Interlock.feedback_row (h : i.row .blower ≠ none) : (i.feedback x).row .blower ≠ none := by
  rw [Interlock.row, (i.feedback_same x).1]
  exact h

theorem Interlock.feedback_output : (i.feedback x).output .blower = i.output .blower :=
  Interlock.output_congr (congrArg (List.map Row.plain) (i.feedback_same x).1) _

end feedback

/-! ### The event of a sample -/

section sample
variable {x : Option Nat}

theorem State.takeFeedback_none (h : s.inter.row .blower = none) : s.takeFeedback x = s := by
  rw [State.takeFeedback, h]
  rfl

/-- R84: what the latch posts as it is set. -/
def State.latchPosts (s : State) (x : Option Nat) : List Instr :=
  if (s.inter.feedback x).fault && !s.inter.fault then [.conditionPost .blowerFault true, .airflowLost] else []

theorem State.takeFeedback_some (h : s.inter.row .blower ≠ none) :
    s.takeFeedback x = (s.resolving (Interlock.feedback x)).post (s.latchPosts x) := by
  have hsome : ¬ (s.inter.row .blower).isNone = true := by rwa [Option.isNone_iff_eq_none]
  have hfault : (s.resolving (Interlock.feedback x)).inter.fault = (s.inter.feedback x).fault :=
    Interlock.resolve_fault s.plant (s.inter.feedback x)
  have hnone : (s.resolving (Interlock.feedback x)).post [] = s.resolving (Interlock.feedback x) := by
    rw [State.post, List.append_nil]
    rfl
  refine (if_neg hsome).trans ?_
  show (if ((s.resolving (Interlock.feedback x)).inter.fault && !s.inter.fault) = true then _ else _) = _
  rw [hfault, State.latchPosts]
  split
  · rfl
  · exact hnone.symm

theorem State.settled_fault (m : Interlock) : (s.settled m).fault = m.fault := Interlock.resolve_fault _ _

end sample

section events
variable (hheld : s.held = false)
include hheld

theorem exec_blowerFbSample (y : Option (Nat × Quality)) : exec (.blowerFbSample y) s =
    .next ((s.took (.blowerFbSample y)).takeFeedback (y.map Prod.fst)) :=
  taking_awake s (.blowerFbSample y) (State.takeFeedback (y.map Prod.fst)) hheld

/-- R84: a sample with a blower row is a resolution of what it makes of the interlock. -/
theorem exec_blowerFbSample_settled (y : Option (Nat × Quality)) (hrow : s.inter.row .blower ≠ none) :
    ∃ t, exec (.blowerFbSample y) s = .next t ∧ s.OnlyInterlock t ∧
      (∃ u : State, u.param 74 3 = s.param 74 3 ∧ t.inter = u.settled (s.inter.feedback (y.map Prod.fst))) ∧
      ((s.inter.feedback (y.map Prod.fst)).fault = true → s.inter.fault = false →
        .conditionPost .blowerFault true ∈ t.posts ∧ .airflowLost ∈ t.posts) := by
  have hexec := exec_blowerFbSample s hheld y
  rw [State.takeFeedback_some (s.took (.blowerFbSample y)) hrow] at hexec
  have honly := (s.took (.blowerFbSample y)).resolving_onlyInterlock (Interlock.feedback (y.map Prod.fst))
  refine ⟨_, hexec, State.onlyInterlock_post (s.onlyInterlock_took honly) _, ⟨s.took (.blowerFbSample y), rfl, rfl⟩,
    fun hfault hclear => ?_⟩
  have hlatch : (s.took (.blowerFbSample y)).latchPosts (y.map Prod.fst) = [.conditionPost .blowerFault true, .airflowLost] := by
    refine if_pos ?_
    show ((s.inter.feedback (y.map Prod.fst)).fault && !s.inter.fault) = true
    rw [hfault, hclear]
    rfl
  rw [hlatch]
  exact ⟨List.mem_append_right _ List.mem_cons_self, List.mem_append_right _ (List.mem_cons_of_mem _ List.mem_cons_self)⟩

theorem exec_minOnExpiry : exec .minOnExpiry s = .next (if s.inter.stopHeld
    then (s.took .minOnExpiry).resolving fun i => { i with clock := i.clock.reach s.plant.minOn }
    else s.took .minOnExpiry) :=
  taking_awake s .minOnExpiry (fun s => if s.inter.stopHeld then
    s.resolving fun i => { i with clock := i.clock.reach s.plant.minOn } else s) hheld

theorem exec_minOffExpiry : exec .minOffExpiry s = .next (if s.inter.startPending
    then (s.took .minOffExpiry).resolving fun i => { i with clock := i.clock.reach s.plant.minOff }
    else s.took .minOffExpiry) :=
  taking_awake s .minOffExpiry (fun s => if s.inter.startPending then
    s.resolving fun i => { i with clock := i.clock.reach s.plant.minOff } else s) hheld

theorem exec_settleTimerExpiry : exec .settleTimerExpiry s = .next (if s.inter.settling
    then (s.took .settleTimerExpiry).setInter { s.inter with settle := some 0 } else s.took .settleTimerExpiry) :=
  taking_awake s .settleTimerExpiry (fun s => if s.inter.settling then
    s.setInter { s.inter with settle := some 0 } else s) hheld

end events

/-! ### The protection times (R81) -/

section times
variable {m : Interlock} {u : State}

/-- R81, R83: a compressor whose times allow it starts once the blower stands at its floor. -/
theorem State.settled_starts (hout : m.output .compressor = 0) (hwant : m.wanted .compressor ≠ 0) (hproof : m.proof = true)
    (hmin : u.plant.minOff ≤ m.clock.offTime) (hfloor : m.output .blower = max (m.wanted .blower) u.plant.dryMin) :
    (u.settled m).output .compressor = 1 ∧ (u.settled m).clock = .on 0 := by
  have hC : m.compAfter u.plant = 1 := by
    rw [Interlock.compAfter, if_pos hout, if_pos ⟨hwant, hproof, hmin⟩]
  have hF : m.floorValue u.plant (m.compAfter u.plant) m.heaterAfter = m.output .blower := by
    rw [hfloor, Interlock.floorValue, if_pos (.inl (by rw [hC]; decide))]
  have hon : (u.settled m).output .compressor = 1 := by
    rw [u.settled_comp, Interlock.outcome_free (.inr hF), hC]
  exact ⟨hon, (u.settled_times m).1 hout (by rw [hon]; decide)⟩

/-- R81: a held stop takes effect once the on-time has reached min-on. -/
theorem State.settled_stops (hout : m.output .compressor ≠ 0) (hwant : m.wanted .compressor = 0)
    (hmin : u.plant.minOn ≤ m.clock.onTime) :
    (u.settled m).output .compressor = 0 ∧ (u.settled m).clock = .off 0 := by
  have hC : m.compAfter u.plant = 0 := by
    refine (if_neg hout).trans ?_
    by_cases hsafe : (!m.proof || m.inhibits.forces .compressor) = true
    · exact if_pos hsafe
    · exact (if_neg hsafe).trans ((if_neg (not_not_intro hwant)).trans (if_pos hmin))
  have hoff : (u.settled m).output .compressor = 0 := by
    rw [u.settled_comp, (Interlock.outcome_off hC).1]
  exact ⟨hoff, (u.settled_times m).2.1 hout hoff⟩

end times

/-- Settles O32: a sample is one of three changes of the interlock before its resolution, and an expiry brings the clock to
its time. -/
theorem feedbackAndProtectionTimes : Obligations.FeedbackAndProtectionTimes := by
  refine ⟨fun y x s hheld hx => ⟨fun hrow => ?_, fun hrow => ?_⟩, fun s hheld => ⟨fun h => ?_, fun n h hclock hproof hfloor => ?_,
    fun h => ?_, fun n h hclock => ?_, fun h => ?_, fun h => ?_⟩⟩
  · exact (exec_blowerFbSample s hheld y).trans (congrArg _ (hx ▸ State.takeFeedback_none (s.took (.blowerFbSample y)) hrow))
  · subst hx
    obtain ⟨m, hm⟩ : ∃ m, m = s.inter.feedback (y.map Prod.fst) := ⟨_, rfl⟩
    obtain ⟨t, hexec, honly, hinter, hposts⟩ := exec_blowerFbSample_settled s hheld y hrow
    rw [← hm] at hinter hposts
    obtain ⟨hmrow, hout⟩ : m.row .blower ≠ none ∧ m.output .blower = s.inter.output .blower := by
      rw [hm]
      exact ⟨Interlock.feedback_row hrow, Interlock.feedback_output⟩
    obtain ⟨u, hparam, hinter⟩ := hinter
    have hrow' : (u.settled m).row .blower ≠ none := by
      rw [← Option.isSome_iff_ne_none, u.settled_row_isSome]
      exact Option.isSome_iff_ne_none.2 hmrow
    obtain ⟨hsame, hmoved⟩ := u.settled_proof m hrow'
    have hfault : t.inter.fault = m.fault := by rw [hinter, u.settled_fault]
    have hinhibits : t.inter.inhibits = m.inhibits := by rw [hinter, u.settled_inhibits]
    rw [hout, ← hinter] at hsame hmoved
    rw [hparam] at hmoved
    refine ⟨t, hexec, honly, hmoved, fun h => ?_, fun h hx hon hf => ?_, fun h hx => ?_, fun h hx hfew => ?_,
      fun hx hs hmany hf => ?_⟩
    · rw [(hsame h).2.2, hm, Interlock.feedback_settle]
    · have hon : s.inter.output .blower ≠ 0 := hon
      rw [(hsame h).1, hm, Interlock.feedback_agrees hx]
      simp [hon, hf]
    · rw [hfault, (hsame h).2.1, hm, Interlock.feedback_agrees hx]
      exact ⟨rfl, rfl⟩
    · rw [hfault, (hsame h).1, (hsame h).2.1, hm, Interlock.feedback_counts hx hfew]
      exact ⟨rfl, rfl, rfl⟩
    · have hlatch := Interlock.feedback_latches hx hs hmany hf
      rw [← hm] at hlatch
      have hnews := hposts (by rw [hlatch]) hf
      refine ⟨by rw [hfault, hlatch], ?_, ?_, by rw [hinhibits, hlatch], hnews⟩
      · by_cases h : t.inter.output .blower = s.inter.output .blower
        · rw [(hsame h).1, hlatch]
        · exact (hmoved h).1
      · by_cases h : t.inter.output .blower = s.inter.output .blower
        · rw [(hsame h).2.1, hlatch]
        · exact (hmoved h).2.1
  · rw [exec_minOffExpiry s hheld, if_neg (by simp [h])]
  · have hexec := exec_minOffExpiry s hheld
    rw [if_pos h] at hexec
    obtain ⟨hout, hwant⟩ : s.inter.output .compressor = 0 ∧ s.inter.wanted .compressor ≠ 0 := by
      simpa [Interlock.startPending] using h
    refine ⟨_, hexec, s.onlyInterlock_took (State.resolving_onlyInterlock _ _), ?_⟩
    refine State.settled_starts (u := s.took .minOffExpiry)
      (m := { s.inter with clock := s.inter.clock.reach s.plant.minOff }) hout hwant hproof ?_ hfloor
    rw [hclock]
    exact Nat.le_max_right _ _
  · rw [exec_minOnExpiry s hheld, if_neg (by simp [h])]
  · have hexec := exec_minOnExpiry s hheld
    rw [if_pos h] at hexec
    obtain ⟨hout, hwant⟩ : s.inter.output .compressor ≠ 0 ∧ s.inter.wanted .compressor = 0 := by
      simpa [Interlock.stopHeld] using h
    refine ⟨_, hexec, s.onlyInterlock_took (State.resolving_onlyInterlock _ _), ?_⟩
    refine State.settled_stops (u := s.took .minOnExpiry)
      (m := { s.inter with clock := s.inter.clock.reach s.plant.minOn }) hout hwant ?_
    rw [hclock]
    exact Nat.le_max_right _ _
  · rw [exec_settleTimerExpiry s hheld, if_pos h]
  · rw [exec_settleTimerExpiry s hheld, if_neg (by simp [h])]

end Sys2Proof.Machine
end

section
/-! The nodes, heads, dampers and rows that the live Node Map calls for (R76, §13.4). -/

namespace Sys2Proof.Machine
open State

variable {b : Banks}

/-! ### The entries of the live Node Map -/

/-- Page 64 maps the ring address a with a class. -/
def Banks.Maps (b : Banks) (a k : Nat) : Prop :=
  a < 32 ∧ bits (b.liveWord 64 (2 * a)) 15 1 = 1 ∧ bits (b.liveWord 64 (2 * a)) 8 4 = k

/-- Port p of the DAMPER mapped at a names the zone z. -/
def Banks.MapsPort (b : Banks) (z a p : Nat) : Prop :=
  b.Maps a 4 ∧ p < 4 ∧ bits (b.liveWord 64 (2 * a + 1)) (4 * p) 4 = z

theorem Banks.maps_iff (a k : Nat) :
    b.Maps a k ↔ a ∈ ringAddresses ∧ ((b.liveNode a).mapped && (b.liveNode a).cls == k) = true := by
  rw [Banks.Maps, ringAddresses, List.mem_range, Bool.and_eq_true, beq_iff_eq]
  exact and_congr_right fun _ => and_congr_left fun _ => (bit_eq_true_iff _ _).symm

theorem zoneField_eq_some {n z : Nat} (hz : z < 8) : zoneField n = some z ↔ n = z := by
  unfold zoneField
  split
  · exact Option.some_inj
  · next h =>
    constructor
    · nofun
    · rintro rfl
      omega

/-- §13.4: port p of an entry names a zone in its own four bits. -/
theorem Banks.port_eq_some (a : Nat) {p z : Nat} (hz : z < 8) : (b.liveNode a).ports.getD p none = some z ↔
    p < 4 ∧ bits (b.liveWord 64 (2 * a + 1)) (4 * p) 4 = z := by
  match p with
  | 0 | 1 | 2 | 3 => exact (zoneField_eq_some hz).trans (by simp)
  | p + 4 => simp [Banks.liveNode, nodeEntry]

/-! ### What is found there -/

theorem Banks.nodeOfClass_some {k a : Nat} (h : b.nodeOfClass k = some a) : b.Maps a k :=
  have hfound := List.find?_some (p := fun a => (b.liveNode a).mapped && (b.liveNode a).cls == k) h
  (b.maps_iff a k).2 ⟨List.mem_of_find?_eq_some h, hfound⟩

theorem Banks.nodeOfClass_none {k : Nat} (h : b.nodeOfClass k = none) (a : Nat) : ¬ b.Maps a k := fun hm => by
  obtain ⟨hmem, hkind⟩ := (b.maps_iff a k).1 hm
  exact List.find?_eq_none.1 h a hmem hkind

theorem Banks.headOf_cond (a z : Nat) (hz : z < 8) :
    ((b.liveNode a).mapped && (b.liveNode a).cls == classHead && (b.liveNode a).zone == some z) = true ↔
      ((b.liveNode a).mapped && (b.liveNode a).cls == 2) = true ∧ bits (b.liveWord 64 (2 * a)) 0 4 = z := by
  rw [Bool.and_eq_true, beq_iff_eq]
  exact and_congr_right fun _ => zoneField_eq_some hz

theorem Banks.headOf_some {z a : Nat} (hz : z < 8) (h : b.headOf z = some a) :
    b.Maps a 2 ∧ bits (b.liveWord 64 (2 * a)) 0 4 = z := by
  have hfound := List.find?_some (p := fun a => (b.liveNode a).mapped && (b.liveNode a).cls == classHead &&
    (b.liveNode a).zone == some z) h
  obtain ⟨hmap, hzone⟩ := (Banks.headOf_cond a z hz).1 hfound
  exact ⟨(b.maps_iff a 2).2 ⟨List.mem_of_find?_eq_some h, hmap⟩, hzone⟩

theorem Banks.headOf_none {z : Nat} (hz : z < 8) (h : b.headOf z = none) (a : Nat) (hm : b.Maps a 2) :
    bits (b.liveWord 64 (2 * a)) 0 4 ≠ z := fun hzone => by
  obtain ⟨hmem, hmap⟩ := (b.maps_iff a 2).1 hm
  exact List.find?_eq_none.1 h a hmem ((Banks.headOf_cond a z hz).2 ⟨hmap, hzone⟩)

theorem portOf_eq_none {ports : List (Option Nat)} {z p : Nat} (h : portOf ports z = none) (hp : p < 4) :
    ports.getD p none ≠ some z := by
  simpa using List.find?_eq_none.1 h p (List.mem_range.2 hp)

theorem Banks.damperPort_some {z a p : Nat} (hz : z < 8) (h : b.damperPort z = some (a, p)) : b.MapsPort z a p := by
  have hport := Banks.damperPort_eq_some h
  obtain ⟨x, hmem, hx⟩ := List.exists_of_findSome?_eq_some h
  extract_lets e at hx
  split at hx
  · next hmap =>
    obtain ⟨q, -, hq⟩ := Option.map_eq_some_iff.1 hx
    obtain ⟨rfl, -⟩ := Prod.mk.inj hq
    exact ⟨(b.maps_iff x 4).2 ⟨hmem, hmap⟩, (Banks.port_eq_some x hz).1 hport⟩
  · cases hx

theorem Banks.damperPort_none {z : Nat} (hz : z < 8) (h : b.damperPort z = none) (a p : Nat) : ¬ b.MapsPort z a p := by
  rintro ⟨hmaps, hp, hzone⟩
  obtain ⟨hmem, hmap⟩ := (b.maps_iff a 4).1 hmaps
  have hnone := List.findSome?_eq_none_iff.1 h a hmem
  have hport : portOf (b.liveNode a).ports z = none := Option.map_eq_none_iff.1 ((if_pos hmap).symm.trans hnone)
  exact portOf_eq_none hport hp ((Banks.port_eq_some a hz).2 ⟨hp, hzone⟩)

/-! ### The rows called for (§5.1) -/

/-- The place a row is called for at. -/
def Row.called (r : Row) : RowKind × Nat × Nat := (r.kind, r.dst, r.port)

theorem rowOfNode_called (kind : RowKind) (a : Option Nat) :
    (rowOfNode kind a).map Row.called = a.toList.map fun a => (kind, a, 0) := by
  cases a <;> rfl

theorem Banks.damperPorts_called (b : Banks) :
    (b.damperPorts.map fun x => Row.created (.damper x.1) x.2.1 x.2.2).map Row.called =
      (List.range 8).flatMap fun z => (b.damperPort z).toList.map fun x => (.damper z, x.1, x.2) := by
  rw [Banks.damperPorts, List.map_map, List.map_filterMap, List.filterMap_eq_flatMap_toList]
  refine congrArg (fun f => (List.range 8).flatMap f) (funext fun z => ?_)
  cases b.damperPort z <;> rfl

/-- R76: the rows called for, in the order of the table of section 5.1. -/
theorem State.calledRows_called (s : State) : s.calledRows.map Row.called =
    if s.banks.live = none then [] else
      ((s.banks.nodeOfClass 3).toList.map fun a => (.blower, a, 0)) ++
      ((List.range 8).flatMap fun z => (s.banks.damperPort z).toList.map fun x => (.damper z, x.1, x.2)) ++
      ((s.banks.nodeOfClass 5).toList.map fun a => (.compressor, a, 0)) ++
      ((s.banks.nodeOfClass 7).toList.map fun a => (.heater, a, 0)) ++
      (if s.param 75 7 = 1 then (s.banks.nodeOfClass 6).toList.map fun a => (.pump, a, 0) else []) := by
  unfold State.calledRows
  by_cases hlive : s.banks.live = none
  · have hno : s.isLive = false := by rw [State.isLive, hlive]; rfl
    rw [hno, if_pos hlive]
    rfl
  · have hyes : s.isLive = true := Option.isSome_iff_ne_none.2 hlive
    have hpump : s.pumpFitted = true ↔ s.param 75 7 = 1 := by
      rw [State.pumpFitted, hyes, Bool.true_and, beq_iff_eq]
    rw [hyes, if_neg hlive, Bool.not_true, if_neg Bool.false_ne_true]
    simp only [List.map_append, rowOfNode_called, Banks.damperPorts_called, hpump]
    congr 1
    split
    · exact rowOfNode_called _ _
    · rfl

end Sys2Proof.Machine
end

section
/-! Sweeps and swaps reach the rows (R76, R77, R84, R86, R87, R89). -/

namespace Sys2Proof.Machine
open State

variable (s : State)

/-! ### A sweep begin (R86) -/

/-- R86: a row at a sweep begin. -/
def Row.aged (n : Nat) (r : Row) : Row := { r with dirty := r.dirty || r.stale n }

/-- R86: the interlock at a sweep begin, before the offers. -/
def State.agedRows (n : Nat) (s : State) : State :=
  (s.took (.interlockSweepBegin n)).setInter { s.inter with rows := s.inter.rows.map (Row.aged n) }

theorem exec_interlockSweepBegin (n : Nat) (hheld : s.held = false) :
    exec (.interlockSweepBegin n) s = .next (s.agedRows n).offerDirty :=
  taking_awake s (.interlockSweepBegin n) (fun s =>
    (s.setInter { s.inter with rows := s.inter.rows.map fun r => { r with dirty := r.dirty || r.stale n } }).offerDirty) hheld

theorem Row.stale_iff (n : Nat) (r : Row) :
    r.stale n = true ↔ r.lastSent = none ∨ ∃ k, r.lastSent = some k ∧ 16 ≤ (n + 256 - k) % 256 := by
  unfold Row.stale
  cases r.lastSent <;> simp

theorem Row.aged_fresh {n : Nat} {r : Row}
    (hsent : ∃ k, r.lastSent = some k ∧ (n + 256 - k) % 256 < 16) : r.aged n = r := by
  have hfresh : r.stale n = false := by
    obtain ⟨k, hk, hlt⟩ := hsent
    rw [Row.stale, hk]
    exact decide_eq_false (by omega)
  rw [Row.aged, hfresh, Bool.or_false]

theorem State.agedRows_distinct {n : Nat} (h : s.RowsDistinct) : (s.agedRows n).inter.Distinct := by
  have hplaces : (s.inter.rows.map (Row.aged n)).map Row.place = s.inter.rows.map Row.place := by
    rw [List.map_map]
    rfl
  show ((s.inter.rows.map (Row.aged n) ++ s.inter.leaving).map Row.place).Nodup
  rw [List.map_append, hplaces, ← List.map_append]
  exact h

theorem State.agedRows_onlyInterlock (n : Nat) : s.OnlyInterlock (s.agedRows n).offerDirty := by
  have hwithin : (s.agedRows n).Within [.inter, .ring] (s.agedRows n).offerDirty := State.offerDirty_within _
  exact ⟨(congrArg (fun u : State => (u.setInter s.inter).setPosts s.posts) hwithin.restore_inter :),
    State.offerDirty_frame (s.agedRows n)⟩

/-! ### A row the swap keeps or creates (R77, R89) -/

section compare
variable (p : PlantLimits) {called : List Row} {i : Interlock}

theorem Interlock.createRow_called (old : List Row) (r : Row) : (i.createRow old r).called = r.called := by
  have hkind := i.createRow_kind old r
  have hplace := i.createRow_place old r
  simp only [Row.place, Row.called, Prod.mk.injEq] at hplace ⊢
  exact ⟨hkind, hplace.1, hplace.2.2⟩

theorem Interlock.createRow_kept {old : List Row} {r o : Row} (h : old.find? (Row.same r) = some o) :
    i.createRow old r = { o with kind := r.kind } := by
  rw [Interlock.createRow, h]
  simp only [keepRow, h]

theorem Interlock.createRow_new {old : List Row} {r : Row} (h : old.find? (Row.same r) = none) :
    i.createRow old r = { r with normal := i.heldFor r.kind } := by
  rw [Interlock.createRow, h]

theorem Row.same_congr {x y : Row} (h : x.place = y.place) : Row.same x = Row.same y :=
  funext fun z => Bool.eq_iff_iff.2 (by rw [Row.same_iff, Row.same_iff, h])

theorem any_same_eq_false {old : List Row} {r : Row} (h : old.find? (Row.same r) = none) : old.any (Row.same r) = false := by
  rw [List.find?_eq_none] at h
  simpa using h

theorem any_same_eq_true {old : List Row} {r o : Row} (h : old.find? (Row.same r) = some o) :
    old.any (Row.same r) = true :=
  List.any_eq_true.2 ⟨o, List.mem_of_find?_eq_some h, List.find?_some h⟩

theorem isCreated_of_new {old : List Row} {r : Row} {k : RowKind} (hr : r ∈ called) (hk : r.kind = k)
    (h : old.find? (Row.same r) = none) : isCreated old called k = true :=
  List.any_eq_true.2 ⟨r, hr, by simp [hk, any_same_eq_false h]⟩

theorem isCreated_of_kept {old : List Row} {r o : Row} {k : RowKind} (hone : ∀ x ∈ called, x.kind = k → x = r)
    (h : old.find? (Row.same r) = some o) : isCreated old called k = false := by
  refine Bool.eq_false_iff.2 fun hany => ?_
  obtain ⟨x, hx, hc⟩ := List.any_eq_true.1 hany
  simp only [Bool.and_eq_true, beq_iff_eq, Bool.not_eq_true'] at hc
  rw [hone x hx hc.1, any_same_eq_true h] at hc
  exact nomatch hc.2

/-- R84, R89: with a blower row called for, the settle timer starts with a new row and runs on with a kept one. -/
theorem Interlock.compare_settle_new (h : isCreated i.rows called .blower = true)
    (hb : (called.any fun r => r.kind == .blower) = true) :
    (i.compare p called).settle = some p.settle ∧ (i.compare p called).mismatch = 0 := by
  constructor
  · show (if _ then none else if isCreated i.rows called .blower = true then some p.settle else i.settle) = _
    rw [hb, if_neg (by decide), if_pos h]
  · exact if_pos h

theorem Interlock.compare_settle_kept (h : isCreated i.rows called .blower = false)
    (hb : (called.any fun r => r.kind == .blower) = true) :
    (i.compare p called).settle = i.settle ∧ (i.compare p called).mismatch = i.mismatch := by
  have hno : ¬ isCreated i.rows called .blower = true := by simp [h]
  constructor
  · show (if _ then none else if isCreated i.rows called .blower = true then some p.settle else i.settle) = _
    rw [hb, if_neg (by decide), if_neg hno]
  · exact if_neg hno

theorem Interlock.compare_settle_none (hb : (called.any fun r => r.kind == .blower) = false) :
    (i.compare p called).settle = none := by
  show (if (!called.any fun r => r.kind == .blower) = true then none else _) = _
  rw [hb]
  rfl

end compare

/-- R76: at most one blower row is called for. -/
theorem State.calledRows_blower_unique {x y : Row} (hx : x ∈ s.calledRows) (hy : y ∈ s.calledRows)
    (hkx : x.kind = .blower) (hky : y.kind = .blower) : x = y := by
  have hmem {r : Row} (hr : r ∈ s.calledRows) (hk : r.kind = .blower) : r ∈ rowOfNode .blower (s.banks.nodeOfClass classBlower) := by
    have hother {k : RowKind} {a : Option Nat} (hne : k ≠ .blower) (hr : r ∈ rowOfNode k a) : False :=
      hne (kind_of_mem_rowOfNode hr ▸ hk)
    unfold State.calledRows at hr
    split at hr
    · cases hr
    · simp only [List.mem_append] at hr
      obtain (((hr | hr) | hr) | hr) | hr := hr
      · exact hr
      · obtain ⟨x, -, rfl⟩ := List.mem_map.1 hr
        cases hk
      · exact (hother (k := .compressor) nofun hr).elim
      · exact (hother (k := .heater) nofun hr).elim
      · split at hr
        · exact (hother (k := .pump) nofun hr).elim
        · cases hr
  have hx := hmem hx hkx
  have hy := hmem hy hky
  cases hn : s.banks.nodeOfClass classBlower with
  | none => rw [hn] at hx; cases hx
  | some a =>
    rw [hn] at hx hy
    exact (List.mem_singleton.1 hx).trans (List.mem_singleton.1 hy).symm

/-! ### The swap (R89) -/

/-- R89: the interlock as a swap's comparison leaves it. -/
def State.compared (s : State) : Interlock := s.inter.compare s.plant s.calledRows

theorem exec_interlockSwapTaken (hheld : s.held = false) : exec .interlockSwapTaken s =
    .next ((s.took .interlockSwapTaken).resolving (Interlock.compare s.plant s.calledRows)) :=
  taking_awake s .interlockSwapTaken (fun s => s.resolving (Interlock.compare s.plant s.calledRows)) hheld

/-- R89: each row of the new table is one called for, kept or created, at its resolved output. -/
theorem State.mem_swapped {u : State} {r : Row} (h : r ∈ (u.settled s.compared).rows) :
    ∃ x ∈ s.calledRows, r.called = x.called ∧ r.normal = (s.inter.createRow s.inter.rows x).normal ∧
      r.cycle = (s.inter.createRow s.inter.rows x).cycle ∧
      ({ r with dirty := false, lastSent := none } : Row) = { (s.inter.createRow s.inter.rows x).take
        (s.compared.outcome u.plant) s.compared.inhibits with dirty := false, lastSent := none } := by
  have hmem : ({ r with dirty := false, lastSent := none } : Row) ∈
      (s.compared.resolve u.plant).rows.map fun r => { r with dirty := false, lastSent := none } := by
    rw [← State.settled_rows]
    exact List.mem_map_of_mem h
  obtain ⟨y, hy, he⟩ := List.mem_map.1 hmem
  obtain ⟨z, hz, rfl⟩ := Interlock.mem_resolve_rows hy
  obtain ⟨x, hx, rfl⟩ := List.mem_map.1 (show z ∈ s.calledRows.map (s.inter.createRow s.inter.rows) from hz)
  refine ⟨x, hx, ?_, (congrArg Row.normal he :).symm, (congrArg Row.cycle he :).symm, he.symm⟩
  exact (congrArg Row.called he :).symm.trans (Interlock.createRow_called _ _)

section swapped
variable {s} {u : State} {r : Row}

theorem Row.same_of_called {x : Row} (h : r.called = x.called) : Row.same r = Row.same x :=
  Row.same_congr (congrArg (fun y : RowKind × Nat × Nat => (y.2.1, y.1.function, y.2.2)) h :)

/-- R77, R89: a row that stays keeps its requests. -/
theorem State.swapped_kept {o : Row} (h : r ∈ (u.settled s.compared).rows)
    (ho : s.inter.rows.find? (Row.same r) = some o) : r.normal = o.normal ∧ r.cycle = o.cycle := by
  obtain ⟨x, -, hcalled, hnormal, hcycle, -⟩ := s.mem_swapped h
  rw [Row.same_of_called hcalled] at ho
  rw [hnormal, hcycle, Interlock.createRow_kept ho]
  exact ⟨rfl, rfl⟩

/-- R76, R77: a new row has the request held for its output. -/
theorem State.swapped_new (h : r ∈ (u.settled s.compared).rows) (hnone : s.inter.rows.find? (Row.same r) = none) :
    r.cycle = none ∧ r.normal = s.inter.heldFor r.kind := by
  obtain ⟨x, hx, hcalled, hnormal, hcycle, -⟩ := s.mem_swapped h
  obtain ⟨k, d, p, rfl⟩ := s.calledRows_created hx
  rw [Row.same_of_called hcalled] at hnone
  have hkind : r.kind = k := congrArg Prod.fst hcalled
  rw [hnormal, hcycle, Interlock.createRow_new hnone, hkind]
  exact ⟨rfl, rfl⟩

theorem State.swapped_called : (u.settled s.compared).rows.map Row.called = s.calledRows.map Row.called := by
  have hoffered := offered_map (f := Row.called) (fun _ => rfl) (u.settled_rows s.compared)
  rw [hoffered, Interlock.resolve_rows, List.map_map]
  show (s.calledRows.map (s.inter.createRow s.inter.rows)).map _ = _
  rw [List.map_map]
  exact List.map_congr_left fun x _ => Interlock.createRow_called _ x

theorem State.swapped_blower_called : (∃ r ∈ (u.settled s.compared).rows, r.kind = .blower) ↔
    (s.calledRows.any fun r => r.kind == .blower) = true := by
  have hany := congrArg (fun l : List (RowKind × Nat × Nat) => l.any fun y => y.1 == .blower) (s.swapped_called (u := u))
  simp only [List.any_map] at hany
  have h : ((u.settled s.compared).rows.any fun r => r.kind == .blower) = s.calledRows.any fun r => r.kind == .blower := hany
  rw [← h, List.any_eq_true]
  exact exists_congr fun r => and_congr_right fun _ => beq_iff_eq.symm

/-- R84: without a blower row no settle timer runs. -/
theorem State.swapped_settle_none (h : ∀ r ∈ (u.settled s.compared).rows, r.kind ≠ .blower) :
    (u.settled s.compared).settle = none := by
  have hcalled : (s.calledRows.any fun r => r.kind == .blower) = false :=
    Bool.eq_false_iff.2 fun hany => by
      obtain ⟨r, hr, hk⟩ := (State.swapped_blower_called (u := u)).2 hany
      exact h r hr hk
  have hrow : (s.compared.row .blower).isSome = false := by
    rw [← u.settled_row_isSome, Interlock.row, List.find?_eq_none.2 fun r hr => by simpa using h r hr]
    rfl
  have hmid : s.compared.settle = none := Interlock.compare_settle_none _ hcalled
  rw [← hmid]
  show (s.compared.resolve u.plant).settle = _
  unfold Interlock.resolve
  extract_lets d blown
  rw [if_neg fun hc => by rw [hrow] at hc; exact nomatch hc.1]

/-- R84: the settle timer and the count of a swap that leaves a blower row, by whether the resolution moves the blower. -/
theorem State.swapped_settle (h : r ∈ (u.settled s.compared).rows) (hk : r.kind = .blower) :
    (r.commanded = s.compared.output .blower → (u.settled s.compared).mismatch = s.compared.mismatch ∧
      (u.settled s.compared).settle = s.compared.settle) ∧
    (r.commanded ≠ s.compared.output .blower → (u.settled s.compared).mismatch = 0 ∧
      (u.settled s.compared).settle = some (u.param 74 3)) := by
  have hrow : (u.settled s.compared).row .blower ≠ none := by
    rw [ne_eq, Interlock.row_eq_none]
    exact fun hnone => hnone r h hk
  obtain ⟨x, hx⟩ := Option.ne_none_iff_exists'.1 hrow
  have hout : (u.settled s.compared).output .blower = r.commanded := by
    rw [Interlock.output, hx, (u.mem_settled _ h).2, Decided.valueFor, hk]
    exact u.settled_blower _ hx
  obtain ⟨hsame, hmoved⟩ := u.settled_proof s.compared hrow
  rw [hout] at hsame hmoved
  exact ⟨fun he => (hsame he).2, fun he => (hmoved he).2⟩

/-- R84, R89: a new blower row starts the settle timer. -/
theorem State.swapped_blower_new (hplant : u.plant = s.plant) (h : r ∈ (u.settled s.compared).rows) (hk : r.kind = .blower)
    (hnone : s.inter.rows.find? (Row.same r) = none) :
    (u.settled s.compared).settle = some (s.param 74 3) ∧ (u.settled s.compared).mismatch = 0 := by
  obtain ⟨x, hx, hcalled, -⟩ := s.mem_swapped h
  have hkx : x.kind = .blower := (congrArg Prod.fst hcalled :).symm.trans hk
  rw [Row.same_of_called hcalled] at hnone
  have hany : (s.calledRows.any fun r => r.kind == .blower) = true := List.any_eq_true.2 ⟨x, hx, by simp [hkx]⟩
  obtain ⟨hsettle, hmismatch⟩ := Interlock.compare_settle_new s.plant (isCreated_of_new hx hkx hnone) hany
  obtain ⟨hsame, hmoved⟩ := State.swapped_settle h hk
  have hparam : u.param 74 3 = s.param 74 3 := congrArg PlantLimits.settle hplant
  by_cases he : r.commanded = s.compared.output .blower
  · exact ⟨(hsame he).2.trans hsettle, (hsame he).1.trans hmismatch⟩
  · exact ⟨(hmoved he).2.trans (congrArg some hparam), (hmoved he).1⟩

/-- R84, R89: a blower row that stays as it was keeps the settle timer and the count. -/
theorem State.swapped_blower_kept {o : Row} (h : r ∈ (u.settled s.compared).rows) (hk : r.kind = .blower)
    (ho : s.inter.rows.find? (Row.same r) = some o) (hsame : r.commanded = o.commanded) :
    (u.settled s.compared).settle = s.inter.settle ∧ (u.settled s.compared).mismatch = s.inter.mismatch := by
  obtain ⟨x, hx, hcalled, -⟩ := s.mem_swapped h
  have hkx : x.kind = .blower := (congrArg Prod.fst hcalled :).symm.trans hk
  rw [Row.same_of_called hcalled] at ho
  have hany : (s.calledRows.any fun r => r.kind == .blower) = true := List.any_eq_true.2 ⟨x, hx, by simp [hkx]⟩
  have hone : ∀ y ∈ s.calledRows, y.kind = .blower → y = x := fun y hy hky => s.calledRows_blower_unique hy hx hky hkx
  have hout : s.compared.output .blower = o.commanded := by
    have hfind : s.calledRows.find? (fun r => r.kind == .blower) = some x := by
      cases hf : s.calledRows.find? fun r => r.kind == .blower with
      | none => exact absurd (List.find?_eq_none.1 hf x hx) (by simp [hkx])
      | some y => rw [hone y (List.mem_of_find?_eq_some hf) (by simpa using List.find?_some hf)]
    rw [State.compared, Interlock.compare_output _ s.calledRows_commanded, hfind]
    simp only [ho]
  obtain ⟨hsettle, hmismatch⟩ := Interlock.compare_settle_kept s.plant (isCreated_of_kept hone ho) hany
  obtain ⟨h1, h2⟩ := (State.swapped_settle h hk).1 (hsame.trans hout.symm)
  exact ⟨h2.trans hsettle, h1.trans hmismatch⟩

end swapped

end Sys2Proof.Machine
end

section
/-! What sweeps and swaps send (R86, R87, R89). -/

namespace Sys2Proof.Machine
open State

variable {s : State}

/-! ### The sends of a swap (R87, R89) -/

/-- R89: the device with a swap resolved and posted, before the offers. -/
def State.swapDue (s : State) : State := (s.took .interlockSwapTaken).unoffered (Interlock.compare s.plant s.calledRows)

theorem State.swapDue_offerDirty : s.swapDue.offerDirty.inter = (s.took .interlockSwapTaken).settled s.compared := rfl

theorem State.swapDue_distinct (h : s.RowsDistinct) : s.swapDue.inter.Distinct :=
  (Interlock.prepares_resolve (s.took .interlockSwapTaken).plant s.compared).distinct
    ((Interlock.prepares_compare s.plant s.inter s.calledRows_places_ne).distinct h)

/-- R76, R89: a new row, and a kept row whose output changes, are due to be sent. -/
theorem Row.take_dirty {x r : Row} {d : Decided} {i : Inhibits}
    (he : ({ r with dirty := false, lastSent := none } : Row) =
      { (s.inter.createRow s.inter.rows x).take d i with dirty := false, lastSent := none })
    (hx : x ∈ s.calledRows) (hnews : s.inter.rows.find? (Row.same x) = none ∨
      ∃ o, s.inter.rows.find? (Row.same x) = some o ∧ r.commanded ≠ o.commanded) :
    ((s.inter.createRow s.inter.rows x).take d i).dirty = true := by
  obtain hnone | ⟨o, ho, hne⟩ := hnews
  · obtain ⟨k, n, p, rfl⟩ := s.calledRows_created hx
    rw [Interlock.createRow_new hnone]
    rfl
  · have hvalue : r.commanded = d.valueFor i (s.inter.createRow s.inter.rows x) := (congrArg Row.commanded he :)
    have hold : (s.inter.createRow s.inter.rows x).commanded = o.commanded := by rw [Interlock.createRow_kept ho]
    have hchange : decide (d.valueFor i (s.inter.createRow s.inter.rows x) ≠
        (s.inter.createRow s.inter.rows x).commanded) = true := by
      rw [← hvalue, hold]
      exact decide_eq_true hne
    show ((s.inter.createRow s.inter.rows x).dirty || _) = true
    rw [hchange, Bool.or_true]

theorem Row.eq_of_place {rs : List Row} (h : (rs.map Row.place).Nodup) {x y : Row} (hx : x ∈ rs) (hy : y ∈ rs)
    (he : x.place = y.place) : x = y :=
  List.inj_on_of_nodup_map h hx hy he

/-- R87: a row that the swap makes due is sent, or waits before a full queue. -/
theorem State.swapped_sent (hdistinct : s.RowsDistinct) {r : Row} (hr : r ∈ s.swapDue.offerDirty.inter.rows)
    (hnews : s.inter.rows.find? (Row.same r) = none ∨
      ∃ o, s.inter.rows.find? (Row.same r) = some o ∧ r.commanded ≠ o.commanded) :
    s.swapDue.offerDirty.ring.Holds r ∨ r.dirty = true ∧ s.swapDue.offerDirty.ring.placeFree = false := by
  obtain ⟨x, hx, hcalled, -, -, he⟩ := s.mem_swapped hr
  rw [Row.same_of_called hcalled] at hnews
  obtain ⟨y, hy⟩ : ∃ y, y = (s.inter.createRow s.inter.rows x).take
    (s.compared.outcome (s.took .interlockSwapTaken).plant) s.compared.inhibits := ⟨_, rfl⟩
  have hdirty : y.dirty = true := hy ▸ Row.take_dirty he hx hnews
  have hmem : y ∈ s.swapDue.inter.rows := by
    show y ∈ (s.compared.resolve (s.took .interlockSwapTaken).plant).rows
    rw [Interlock.resolve_rows, hy]
    exact List.mem_map_of_mem (List.mem_map_of_mem hx)
  rw [← hy] at he
  obtain ⟨-, hholds⟩ | ⟨hleft, hfull⟩ := s.swapDue.offerDirty_rows (State.swapDue_distinct hdistinct) hmem hdirty
  · obtain ⟨a, ha⟩ := hholds
    refine .inl ⟨a, ?_⟩
    rwa [(congrArg Row.dst he :), (congrArg Row.kind he :), (congrArg Row.port he :), (congrArg Row.commanded he :)]
  · have hnodup : (s.swapDue.offerDirty.inter.rows.map Row.place).Nodup := by
      have hd := (Interlock.Keeps.toPrepares (s.swapDue.offerDirty_interTo)).distinct (State.swapDue_distinct hdistinct)
      rw [Interlock.Distinct, List.map_append] at hd
      exact (List.nodup_append.1 hd).1
    have hsame : r = y := Row.eq_of_place hnodup hr hleft (congrArg Row.place he :)
    exact .inr ⟨hsame ▸ hdirty, hfull⟩

/-- R89: a row that leaves, to be sent 0. -/
def Row.gone (r : Row) : Row := { r with normal := none, cycle := none, resolved := 0, commanded := 0, dirty := true }

/-- R89: a row that leaves is sent 0, or waits before a full queue to be sent 0. -/
theorem State.swapped_gone (hdistinct : s.RowsDistinct) {r : Row} (hr : r ∈ s.inter.rows)
    (hgone : s.calledRows.any (Row.same r) = false) :
    s.swapDue.offerDirty.ring.Holds r.gone ∨ r.gone ∈ s.swapDue.offerDirty.inter.leaving ∧
      s.swapDue.offerDirty.ring.placeFree = false := by
  refine s.swapDue.offerDirty_leaving (State.swapDue_distinct hdistinct) ?_ rfl
  show r.gone ∈ (s.compared.resolve (s.took .interlockSwapTaken).plant).leaving
  rw [Interlock.resolve_leaving]
  exact List.mem_append_right _ (List.mem_map_of_mem (List.mem_filter.2 ⟨hr, by rw [hgone]; rfl⟩))

/-! ### The sends of a sweep begin (R86) -/

theorem State.aged_sent {n : Nat} (hdistinct : s.RowsDistinct) {r : Row} (hr : r ∈ s.inter.rows)
    (hdue : r.dirty = true ∨ r.lastSent = none ∨ ∃ k, r.lastSent = some k ∧ 16 ≤ (n + 256 - k) % 256) :
    { r with dirty := false, lastSent := s.ring.lastBegin } ∈ (s.agedRows n).offerDirty.inter.rows ∧
        (s.agedRows n).offerDirty.ring.Holds r ∨
      { r with dirty := true } ∈ (s.agedRows n).offerDirty.inter.rows ∧ (s.agedRows n).offerDirty.ring.placeFree = false := by
  have hdirty : (r.aged n).dirty = true := by
    rw [Row.aged, Bool.or_eq_true, Row.stale_iff]
    exact hdue
  have haged : r.aged n = { r with dirty := true } := (congrArg (fun b => { r with dirty := b }) hdirty :)
  have hmem : r.aged n ∈ (s.agedRows n).inter.rows := List.mem_map_of_mem hr
  rw [haged] at hmem
  exact (s.agedRows n).offerDirty_rows (State.agedRows_distinct s hdistinct) hmem rfl

theorem State.aged_kept {n : Nat} {r : Row} (hr : r ∈ s.inter.rows) (hclean : r.dirty = false)
    (hsent : ∃ k, r.lastSent = some k ∧ (n + 256 - k) % 256 < 16) : r ∈ (s.agedRows n).offerDirty.inter.rows := by
  have hmem : r.aged n ∈ (s.agedRows n).inter.rows := List.mem_map_of_mem hr
  rw [Row.aged_fresh hsent] at hmem
  exact offerRows_clean hmem hclean

theorem State.aged_rows (n : Nat) : (s.agedRows n).offerDirty.inter.rows.map (fun r => { r with dirty := false, lastSent := none }) =
    s.inter.rows.map fun r => { r with dirty := false, lastSent := none } := by
  have hoffered := offerRows_rows (s.agedRows n).answering (s.agedRows n).inter.rows (s.agedRows n).leavingOffered.1
  refine Eq.trans hoffered ?_
  show (s.inter.rows.map (Row.aged n)).map _ = _
  rw [List.map_map]
  rfl

/-- Settles O33: a sweep begin offers the rows it ages, and a swap's comparison decides what each row of the new table keeps
and sends. -/
theorem rowsFollowSweepsAndSwaps : Obligations.RowsFollowSweepsAndSwaps := by
  intro s hheld
  refine ⟨fun n => ⟨_, exec_interlockSweepBegin s n hheld, s.agedRows_onlyInterlock n, rfl, State.aged_rows n,
    fun hd r hr hdue => State.aged_sent hd hr hdue, fun r hr => State.aged_kept hr⟩, fun Mapped Port hMapped hPort => ?_,
    fun one hone => ?_, ?_⟩
  · have hmaps (a k : Nat) : Mapped a k ↔ s.banks.Maps a k := hMapped a k
    have hports (z a p : Nat) : Port z a p ↔ s.banks.MapsPort z a p := by
      rw [hPort, Banks.MapsPort, hmaps]
    simp only [hmaps, hports]
    exact ⟨fun k a => Banks.nodeOfClass_some, fun k => Banks.nodeOfClass_none,
      fun z hz => ⟨fun a => Banks.headOf_some hz, Banks.headOf_none hz⟩,
      fun z hz => ⟨fun a p => Banks.damperPort_some hz, Banks.damperPort_none hz⟩⟩
  · simp only [hone]
    exact s.calledRows_called
  · obtain ⟨t, ht⟩ : ∃ t, t = s.swapDue.offerDirty := ⟨_, rfl⟩
    have hexec : exec .interlockSwapTaken s = .next t := ht ▸ exec_interlockSwapTaken s hheld
    have honly : s.OnlyInterlock t := ht ▸ s.onlyInterlock_took (State.resolving_onlyInterlock _ _)
    have hinter : t.inter = (s.took .interlockSwapTaken).settled s.compared := by rw [ht]; rfl
    refine ⟨t, hexec, honly, ?inhibits, ?rows, ?kept, ?new, ?none, ?blower, fun hd => ⟨?sent, ?gone⟩⟩
    case inhibits =>
      rw [hinter, State.settled_inhibits]
      rfl
    case rows =>
      rw [hinter]
      exact State.swapped_called
    case kept =>
      rw [hinter]
      exact fun r hr o ho => State.swapped_kept hr ho
    case new =>
      rw [hinter]
      exact fun r hr hnone => State.swapped_new hr hnone
    case none =>
      rw [hinter]
      exact State.swapped_settle_none
    case blower =>
      rw [hinter]
      exact fun r hr hk => ⟨State.swapped_blower_new rfl hr hk, fun o ho hsame => State.swapped_blower_kept hr hk ho hsame⟩
    case sent =>
      rw [ht]
      exact fun r hr hnews => State.swapped_sent hd hr hnews
    case gone =>
      rw [ht]
      intro r hr hgone
      obtain hsent | ⟨hleft, hfull⟩ := State.swapped_gone hd hr hgone
      · exact .inl hsent
      · exact .inr ⟨hfull, r.gone, hleft, rfl, rfl, rfl, rfl, rfl⟩

end Sys2Proof.Machine
end

section
/-! What the Drying Controller's actions keep, and where each leaves it (R92, R95–R98, R100, R101). -/

namespace Sys2Proof.Machine
open State

variable (s : State)

/-! ### An action keeps all but the state, the methods and the posts -/

/-- What the controller knows, apart from where it stands. -/
def Drying.known (d : Drying) : Bool × Bool × Bool × Nat × Nat := (d.want, d.compOn, d.heaterOn, d.frost, d.saturation)

/-- From s to t the controller moved, and knows what it knew. -/
structure State.Moves (s t : State) : Prop where
  within : s.Within [.dry] t
  known : t.dry.known = s.dry.known

namespace State.Moves
variable {s t u : State}

theorem refl (s : State) : s.Moves s := ⟨.refl s, rfl⟩

theorem trans (h : s.Moves t) (k : t.Moves u) : s.Moves u :=
  ⟨h.within.trans k.within (List.Subset.refl _), k.known.trans h.known⟩

theorem post (h : s.Moves t) (es : List Instr) : s.Moves (t.post es) := ⟨h.within.post, h.known⟩

/-- The controller put elsewhere, its knowledge kept. -/
theorem placed {d : Drying} (h : s.Moves t) (hd : d.known = t.dry.known) : s.Moves (t.setDry d) :=
  ⟨h.within.setDry (by simp), hd.trans h.known⟩

theorem want (h : s.Moves t) : t.dry.want = s.dry.want := congrArg (·.1) h.known
theorem frost (h : s.Moves t) : t.dry.frost = s.dry.frost := congrArg (·.2.2.2.1) h.known
theorem saturation (h : s.Moves t) : t.dry.saturation = s.dry.saturation := congrArg (·.2.2.2.2) h.known

theorem recorded (h : s.Moves t) (m : Method) : t.dry.recorded m = s.dry.recorded m := by
  cases m
  · exact congrArg (·.2.1) h.known
  · exact congrArg (·.2.2.1) h.known

theorem banks (h : s.Moves t) : t.banks = s.banks := h.within.same .banks (by simp)
theorem inter (h : s.Moves t) : t.inter = s.inter := h.within.same .inter (by simp)
theorem cycles (h : s.Moves t) : t.cycles = s.cycles := h.within.same .cycles (by simp)
theorem zones (h : s.Moves t) : t.zones = s.zones := h.within.same .zones (by simp)

theorem param (h : s.Moves t) (page offset : Nat) : t.param page offset = s.param page offset := by
  rw [State.param, State.param, h.banks]

theorem methodAvailable (h : s.Moves t) (m : Method) : t.methodAvailable m = s.methodAvailable m := by
  cases m <;> simp only [State.methodAvailable, h.inter, h.frost, h.saturation, h.cycles, h.param]

theorem roomsCold (h : s.Moves t) : t.roomsCold = s.roomsCold := by
  have htemps : t.roomTemps = s.roomTemps := by rw [State.roomTemps, State.roomTemps, State.liveZones, State.liveZones, h.zones]
  rw [State.roomsCold, State.roomsCold, htemps, State.paramInt, State.paramInt, h.banks]

theorem chooseMethod (h : s.Moves t) : t.chooseMethod = s.chooseMethod := by
  rw [State.chooseMethod, State.chooseMethod, h.methodAvailable, h.methodAvailable, h.roomsCold]

theorem forcedOff (h : s.Moves t) (m : Method) : t.forcedOff m = s.forcedOff m := by
  rw [State.forcedOff, State.forcedOff, h.inter]

theorem classOf (h : s.Moves t) (m : Method) : t.classOf m = s.classOf m := by
  rw [State.classOf, State.classOf, h.recorded, h.forcedOff]

theorem runFor (h : s.Moves t) (m : Method) : t.runFor m = s.runFor m := by
  cases m
  · rfl
  · exact congrArg (Instr.runRequest .heater) (h.param 74 7)

end State.Moves

/-- A change of the Drying Controller and the posts only. -/
theorem State.Within.restore_dry {s t : State} (h : s.Within [.dry] t) : (t.setDry s.dry).setPosts s.posts = s := by
  apply State.ext
  case dry => rfl
  case posts => rfl
  case lines => exact h.same .lines (by simp)
  case ring => exact h.same .ring (by simp)
  case held => exact h.same .held (by simp)
  case trans => exact h.same .trans (by simp)
  case zones => exact h.same .zones (by simp)
  case alloc => exact h.same .alloc (by simp)
  case inter => exact h.same .inter (by simp)
  case cycles => exact h.same .cycles (by simp)
  case water => exact h.same .water (by simp)
  case filters => exact h.same .filters (by simp)
  case banks => exact h.same .banks (by simp)
  case mu => exact h.same .mu (by simp)
  case rc => exact h.same .rc (by simp)
  case free => exact h.same .free (by simp)
  case subTick => exact h.same .subTick (by simp)
  case pending => exact h.same .pending (by simp)

theorem State.classifyDry_moves : s.Moves s.classifyDry := by
  unfold State.classifyDry
  split
  · exact .refl s
  · exact (State.Moves.refl s).placed rfl

theorem State.startMethod_eq (m : Method) : s.startMethod m =
    (s.post [s.runFor m]).setDry { s.dry with state := s.classOf m, method := some m, next := none } := rfl

theorem State.startMethod_moves (m : Method) : s.Moves (s.startMethod m) := by
  rw [State.startMethod_eq]
  exact ((State.Moves.refl s).post _).placed rfl

theorem State.startChosen_moves : s.Moves s.startChosen := by
  unfold State.startChosen
  split
  · exact s.startMethod_moves _
  · exact (State.Moves.refl s).placed rfl

theorem State.switchMethod_moves : s.Moves s.switchMethod := by
  unfold State.switchMethod
  split
  · exact .refl s
  · extract_lets t
    have ht : s.Moves t := (State.Moves.refl s).post _
    split
    · exact ht.placed rfl
    · exact ht.trans t.startChosen_moves

theorem State.stopToOff_moves : s.Moves s.stopToOff := by
  unfold State.stopToOff
  split
  · exact .refl s
  · exact ((State.Moves.refl s).post _).placed rfl

/-! ### Where a start leaves the controller (R95, R96, R101) -/

theorem Method.runFor_eq (m : Method) :
    s.runFor m = .runRequest (Method.output m) (if m = .compressor then 1 else s.param 74 7) := by
  cases m <;> rfl

theorem State.classifyDry_some {m : Method} (h : s.dry.method = some m) :
    s.classifyDry = s.setDry { s.dry with state := s.classOf m } := by
  rw [State.classifyDry, h]

theorem State.startMethod_started (m : Method) : (s.startMethod m).StartedMethod m := by
  have hmoves := s.startMethod_moves m
  have hstate : (s.startMethod m).dry.state = s.classOf m := rfl
  refine ⟨rfl, rfl, ?_, ?_⟩
  · rw [hmoves.param, ← Method.runFor_eq]
    exact List.mem_append_right _ (List.mem_singleton_self _)
  · rw [hstate, ← hmoves.classOf]
    rfl

theorem State.startChosen_some {n : Method} (h : s.chooseMethod = some n) : s.startChosen = s.startMethod n := by
  rw [State.startChosen, h]

theorem State.startChosen_none (h : s.chooseMethod = none) : s.startChosen = s.holdNoMethod := by
  rw [State.startChosen, h]

theorem State.startChosen_started : s.startChosen.StartedChosen := by
  have hchoose := s.startChosen_moves.chooseMethod
  refine ⟨fun h => ?_, fun n h => ?_⟩
  · rw [hchoose] at h
    rw [s.startChosen_none h]
    exact ⟨rfl, rfl, rfl⟩
  · rw [hchoose] at h
    rw [s.startChosen_some h]
    exact s.startMethod_started n

theorem State.switchMethod_on {m : Method} (h : s.dry.method = some m) (hon : s.dry.recorded m = true) :
    s.switchMethod = (s.post [stopFor m]).setDry { s.dry with state := .stopping, next := s.chooseMethod } := by
  rw [State.switchMethod, h]
  exact if_pos hon

theorem State.switchMethod_off {m : Method} (h : s.dry.method = some m) (hoff : s.dry.recorded m = false) :
    s.switchMethod = (s.post [stopFor m]).startChosen := by
  rw [State.switchMethod, h]
  exact if_neg (by simp [hoff])

/-- R101: a switch stops the method, and starts the choice at once or as the stop completes. -/
theorem State.switchMethod_switched {m : Method} (h : s.dry.method = some m) :
    s.switchMethod.SwitchedFrom m (s.dry.recorded m) := by
  have hchoose := s.switchMethod_moves.chooseMethod
  refine ⟨?_, fun hon => ?_, fun hoff => ?_⟩
  · cases hrec : s.dry.recorded m with
    | true =>
      rw [s.switchMethod_on h hrec]
      exact List.mem_append_right _ (List.mem_singleton_self _)
    | false =>
      rw [s.switchMethod_off h hrec]
      exact (s.post [stopFor m]).startChosen_within.posts (List.mem_append_right _ (List.mem_singleton_self _))
  · rw [hchoose, s.switchMethod_on h hon]
    exact ⟨rfl, h, rfl⟩
  · rw [s.switchMethod_off h hoff]
    exact State.startChosen_started _

/-! ### The posts of an event (R92) -/

theorem State.StartedMethod.post {t : State} {m : Method} (h : t.StartedMethod m) (es : List Instr) :
    (t.post es).StartedMethod m := by
  obtain ⟨hmethod, hnext, hrun, hstate⟩ := h
  exact ⟨hmethod, hnext, List.mem_append_left _ hrun, hstate⟩

theorem State.StartedChosen.post {t : State} (h : t.StartedChosen) (es : List Instr) : (t.post es).StartedChosen :=
  ⟨h.1, fun n hn => (h.2 n hn).post es⟩

theorem State.SwitchedFrom.post {t : State} {m : Method} {on : Bool} (h : t.SwitchedFrom m on) (es : List Instr) :
    (t.post es).SwitchedFrom m on := by
  obtain ⟨hstop, hon, hoff⟩ := h
  exact ⟨List.mem_append_left _ hstop, hon, fun h => (hoff h).post es⟩

/-- R92: an event posts DRY-HELD as it enters or leaves HELD, and nothing else. -/
theorem State.dryEvent_eq (f : State → State) : ∃ es, s.dryEvent f = (f s).post es ∧
    ((f s).dry.state.isHeld ≠ s.dry.state.isHeld → .conditionPost .dryHeld (f s).dry.state.isHeld ∈ es) := by
  unfold State.dryEvent
  extract_lets t
  split
  · next h =>
    refine ⟨[], ?_, absurd h⟩
    rw [State.post, List.append_nil]
    rfl
  · exact ⟨_, rfl, fun _ => List.mem_singleton_self _⟩

end Sys2Proof.Machine
end

section
/-! The drying want and the estimates of frost and saturation (R93, R102–R105). -/

namespace Sys2Proof.Machine
open State

variable (s : State)

/-! ### The actions of an allocation (R96) -/

theorem State.actUnwanted_moves : s.Moves s.actUnwanted := by
  unfold State.actUnwanted
  split
  · exact .refl s
  · exact s.stopToOff_moves
  · split
    · exact .refl s
    · exact ((State.Moves.refl s).post _).placed rfl
  · exact (State.Moves.refl s).placed rfl
  · exact s.stopToOff_moves
  · exact (State.Moves.refl s).placed rfl

theorem State.switchOr_moves {f : State → State} (hf : s.Moves (f s)) : s.Moves (s.switchOr f) := by
  unfold State.switchOr
  split
  · exact .refl s
  · split
    · exact hf
    · exact s.switchMethod_moves

theorem State.actWanted_moves : s.Moves s.actWanted := by
  unfold State.actWanted
  split
  · exact s.startChosen_moves
  · exact s.switchOr_moves s.classifyDry_moves
  · exact s.switchOr_moves (.refl s)
  · split
    · split
      · exact .refl s
      · exact ((State.Moves.refl s).post _).placed rfl
    · exact (State.Moves.refl s).placed rfl
  · exact s.switchOr_moves s.classifyDry_moves
  · exact s.startChosen_moves

/-- R96, R103, R104: the device with the want and the saturation estimate of an allocation taken, before step 4. -/
def State.allocTaken (s : State) : State :=
  (s.setDry { s.dry with want := s.wantAfter, saturation := s.dry.accrued }).post
    ((s.setDry { s.dry with want := s.wantAfter, saturation := s.dry.accrued }).defrostPost ++
      (s.setDry { s.dry with want := s.wantAfter, saturation := s.dry.accrued }).regenPost s.dry.saturation)

theorem State.takeAllocation_eq : s.takeAllocation =
    if s.allocTaken.dry.want then s.allocTaken.actWanted else s.allocTaken.actUnwanted := rfl

theorem State.takeAllocation_moves : s.allocTaken.Moves s.takeAllocation := by
  rw [State.takeAllocation_eq]
  split
  · exact State.actWanted_moves _
  · exact State.actUnwanted_moves _

theorem State.wantAfter_eq : s.wantAfter =
    if s.dry.want then decide (s.param 74 5 < s.largestDry) else decide (s.param 74 4 ≤ s.largestDry) := by
  unfold State.wantAfter
  split
  · rw [← decide_not]
    exact decide_eq_decide.2 Nat.not_le
  · rfl

theorem State.defrostPost_mem (h : s.param 74 8 ≤ s.dry.frost) (hq : s.cycles.queuedKind .defrost = false)
    (hr : s.cycles.runningKind .defrost = false) : .cycleRequest .defrost ∈ s.defrostPost := by
  have hcond : s.param 74 8 ≤ s.dry.frost ∧ (!s.cycles.queuedKind .defrost) = true ∧
      (!s.cycles.runningKind .defrost) = true := ⟨h, by rw [hq]; rfl, by rw [hr]; rfl⟩
  rw [State.defrostPost, if_pos hcond]
  exact List.mem_singleton_self _

theorem State.regenPost_mem {before : Nat} (h : s.param 74 9 ≤ s.dry.saturation)
    (hb : before < s.param 74 9 ∨ s.cycles.has .regen = false) : .cycleRequest .regen ∈ s.regenPost before := by
  have hcond : s.param 74 9 ≤ s.dry.saturation ∧ (before < s.param 74 9 ∨ (!s.cycles.has .regen) = true) :=
    ⟨h, hb.imp_right fun h => by rw [h]; rfl⟩
  rw [State.regenPost, if_pos hcond]
  exact List.mem_singleton_self _

/-! ### A coil sample and a cycle outcome (R102, R103, R105) -/

/-- R102: the device with a coil sample's frost taken. -/
def State.coilTaken (v : Int) (s : State) : State := s.setDry { s.dry with frost := s.dry.frostAfter v }

/-- R102, R103: a sample that brings the frost to its limit asks for a DEFROST. -/
theorem State.takeCoilTemp_limit {v : Int} (h : s.dry.frost < s.param 74 8) (h' : s.param 74 8 ≤ s.dry.frostAfter v) :
    s.takeCoilTemp v = if s.dry.method = some .compressor ∧ s.dry.state.runInForce
      then ((s.coilTaken v).post [.cycleRequest .defrost]).switchMethod
      else (s.coilTaken v).post [.cycleRequest .defrost] := by
  have hcond : s.dry.frost < s.param 74 8 ∧ s.param 74 8 ≤ s.dry.frostAfter v := ⟨h, h'⟩
  exact if_pos hcond

theorem State.takeCoilTemp_other {v : Int} (h : ¬ (s.dry.frost < s.param 74 8 ∧ s.param 74 8 ≤ s.dry.frostAfter v)) :
    s.takeCoilTemp v = s.coilTaken v := if_neg h

theorem State.takeCoilTemp_moves (v : Int) : (s.coilTaken v).Moves (s.takeCoilTemp v) := by
  by_cases h : s.dry.frost < s.param 74 8 ∧ s.param 74 8 ≤ s.dry.frostAfter v
  · rw [s.takeCoilTemp_limit h.1 h.2]
    split
    · exact ((State.Moves.refl _).post _).trans (State.switchMethod_moves _)
    · exact (State.Moves.refl _).post _
  · rw [s.takeCoilTemp_other h]
    exact .refl _

/-- R105: the device with an outcome's estimates taken. -/
def State.outcomeTaken (k : CycleKind) (o : CycleOutcome) (s : State) : State := s.setDry (s.dry.afterOutcome k o)

theorem State.actOnOutcome_moves : s.Moves s.actOnOutcome := by
  unfold State.actOnOutcome
  split
  · split
    · exact s.startChosen_moves
    · exact .refl s
  · exact s.classifyDry_moves
  all_goals exact .refl s

theorem Drying.afterOutcome_eq (k : CycleKind) (o : CycleOutcome) (d : Drying) : d.afterOutcome k o =
    { d with
      frost := if k = .defrost ∧ (o = .done ∨ o = .doneTimed) then 0 else d.frost
      saturation := if k = .regen ∧ o = .done then 0 else d.saturation } := by
  unfold Drying.afterOutcome
  by_cases hk : k = .defrost ∧ (o = .done ∨ o = .doneTimed)
  · have hno : ¬ (k = .regen ∧ o = .done) := fun h => nomatch hk.1.symm.trans h.1
    rw [if_pos hk, if_pos hk, if_neg hno]
  · rw [if_neg hk, if_neg hk]
    split <;> rfl

/-! ### The commands -/

section commands
variable (hheld : s.held = false)
include hheld

theorem exec_dryingAllocation (r : AllocRecord) : exec (.dryingAllocation r) s =
    .next ((s.took (.dryingAllocation r)).dryEvent State.takeAllocation) :=
  taking_awake s (.dryingAllocation r) (State.dryEvent State.takeAllocation) hheld

theorem exec_dryingCoilTemp (v : Int) (q : Quality) : exec (.dryingCoilTemp (some (v, q))) s =
    .next ((s.took (.dryingCoilTemp (some (v, q)))).dryEvent (State.takeCoilTemp v)) :=
  taking_awake s (.dryingCoilTemp (some (v, q))) (fun s => s.dryEvent (State.takeCoilTemp v)) hheld

theorem exec_dryingCoilTemp_none : exec (.dryingCoilTemp none) s = .next (s.took (.dryingCoilTemp none)) :=
  taking_awake s (.dryingCoilTemp none) (fun s => s) hheld

theorem exec_dryingCycleOutcome (k : CycleKind) (o : CycleOutcome) : exec (.dryingCycleOutcome k o) s =
    .next ((s.took (.dryingCycleOutcome k o)).dryEvent fun s => (s.outcomeTaken k o).actOnOutcome) :=
  taking_awake s (.dryingCycleOutcome k o) (State.dryEvent fun s => (s.setDry (s.dry.afterOutcome k o)).actOnOutcome) hheld

end commands

/-- An event of the controller changes it and the posts alone. -/
theorem State.dryEvent_frame {c : Instr} {f : State → State} (h : (s.took c).Within [.dry] (f (s.took c))) :
    ((((s.took c).dryEvent f).setDry s.dry).setPosts s.posts) = s :=
  (congrArg (State.setPosts · s.posts) ((s.took c).dryEvent_within f h).restore_dry :)

/-- R102: the frost estimate by the output and the sample. -/
theorem Drying.frostAfter_cases (d : Drying) (v : Int) :
    (d.compOn = true → v < 0 → d.frostAfter v = min 1000 (d.frost + 1 + ((-v) / 10).toNat)) ∧
    (d.compOn = true → 0 ≤ v → d.frostAfter v = d.frost) ∧
    (d.compOn = false → 30 ≤ v → d.frostAfter v = d.frost - 1) ∧
    (d.compOn = false → v < 30 → d.frostAfter v = d.frost) := by
  unfold Drying.frostAfter
  refine ⟨fun hon hv => if_pos ⟨hon, hv⟩, fun hon hv => ?_, fun hoff hv => ?_, fun hoff hv => ?_⟩
  · rw [if_neg fun h => absurd h.2 (Int.not_lt.2 hv), if_neg fun h => by simp [hon] at h]
  · rw [if_neg fun h => by simp [hoff] at h, if_pos ⟨by rw [hoff]; rfl, hv⟩]
  · rw [if_neg fun h => by simp [hoff] at h, if_neg fun h => absurd h.2 (Int.not_le.2 hv)]

/-- Settles O34: the estimates are taken before the controller acts, and its actions keep them. -/
theorem dryingWantAndEstimates : Obligations.DryingWantAndEstimates := by
  intro s D hheld hD
  obtain rfl : D = s.largestDry := hD
  refine ⟨fun r => ?_, exec_dryingCoilTemp_none s hheld, fun v q => ?_, fun k o => ?_⟩
  · obtain ⟨u, hu⟩ : ∃ u, u = s.took (.dryingAllocation r) := ⟨_, rfl⟩
    have hframe := s.dryEvent_frame (hu ▸ u.takeAllocation_within)
    obtain ⟨es, hes, -⟩ := u.dryEvent_eq State.takeAllocation
    rw [← hu, hes] at hframe
    have hexec := exec_dryingAllocation s hheld r
    rw [← hu, hes] at hexec
    have hmoves := u.takeAllocation_moves.post es
    have hdry : u.allocTaken.dry = { s.dry with want := s.wantAfter, saturation := s.dry.accrued } := by
      rw [hu]
      rfl
    have hsat : (u.takeAllocation.post es).dry.saturation = s.dry.accrued := by rw [hmoves.saturation, hdry]
    refine ⟨_, hexec, ?_, hsat, ?_, ?_, ?_, fun h hq hr => ?_, fun h hb => ?_, hframe⟩
    · rw [hmoves.want, hdry, ← s.wantAfter_eq]
    · rw [hmoves.frost, hdry]
    · exact (hmoves.recorded .compressor).trans (by rw [hdry]; rfl)
    · exact (hmoves.recorded .desiccant).trans (by rw [hdry]; rfl)
    · refine hmoves.within.posts (List.mem_append_right _ (List.mem_append_left _ ?_))
      subst hu
      exact State.defrostPost_mem _ h hq hr
    · rw [hsat] at h
      refine hmoves.within.posts (List.mem_append_right _ (List.mem_append_right _ ?_))
      subst hu
      exact State.regenPost_mem _ h hb
  · obtain ⟨u, hu⟩ : ∃ u, u = s.took (.dryingCoilTemp (some (v, q))) := ⟨_, rfl⟩
    have hframe := s.dryEvent_frame (hu ▸ u.takeCoilTemp_within v)
    obtain ⟨es, hes, -⟩ := u.dryEvent_eq (State.takeCoilTemp v)
    rw [← hu, hes] at hframe
    have hexec := exec_dryingCoilTemp s hheld v q
    rw [← hu, hes] at hexec
    have hmoves := (u.takeCoilTemp_moves v).post es
    have hdry : (u.coilTaken v).dry = { s.dry with frost := s.dry.frostAfter v } := by
      rw [hu]
      rfl
    have hfrost : ((u.takeCoilTemp v).post es).dry.frost = s.dry.frostAfter v := by rw [hmoves.frost, hdry]
    obtain ⟨h1, h2, h3, h4⟩ := s.dry.frostAfter_cases v
    rw [← hfrost] at h1 h2 h3 h4
    refine ⟨_, hexec, h1, h2, h3, h4, fun hbelow hlimit => ?_, ?_, ?_, ?_, ?_, hframe⟩
    · rw [hfrost] at hlimit
      rw [u.takeCoilTemp_limit (by rw [hu]; exact hbelow) (by rw [hu]; exact hlimit)]
      refine List.mem_append_left _ ?_
      split
      · exact (State.switchMethod_within _).posts (List.mem_append_right _ (List.mem_singleton_self _))
      · exact List.mem_append_right _ (List.mem_singleton_self _)
    · rw [hmoves.saturation, hdry]
    · rw [hmoves.want, hdry]
    · exact (hmoves.recorded .compressor).trans (by rw [hdry]; rfl)
    · exact (hmoves.recorded .desiccant).trans (by rw [hdry]; rfl)
  · obtain ⟨u, hu⟩ : ∃ u, u = s.took (.dryingCycleOutcome k o) := ⟨_, rfl⟩
    have htaken : u.Within [.dry] (u.outcomeTaken k o) := (State.Within.refl u).setDry (by simp)
    have hframe := s.dryEvent_frame (f := fun s => (s.outcomeTaken k o).actOnOutcome)
      (hu ▸ htaken.trans (State.actOnOutcome_within _) (List.Subset.refl _))
    obtain ⟨es, hes, -⟩ := u.dryEvent_eq fun s => (s.outcomeTaken k o).actOnOutcome
    rw [← hu, hes] at hframe
    have hexec := exec_dryingCycleOutcome s hheld k o
    rw [← hu, hes] at hexec
    have hmoves := (u.outcomeTaken k o).actOnOutcome_moves.post es
    have hdry : (u.outcomeTaken k o).dry = s.dry.afterOutcome k o := by
      rw [hu]
      rfl
    rw [Drying.afterOutcome_eq] at hdry
    refine ⟨_, hexec, ?_, ?_, ?_, ?_, ?_, hframe⟩
    · rw [hmoves.frost, hdry]
    · rw [hmoves.saturation, hdry]
    · rw [hmoves.want, hdry]
    · exact (hmoves.recorded .compressor).trans (by rw [hdry]; rfl)
    · exact (hmoves.recorded .desiccant).trans (by rw [hdry]; rfl)

end Sys2Proof.Machine
end

section
/-! The drying states (R92, R94–R101, R105). -/

namespace Sys2Proof.Machine
open State

variable {s : State} {m : Method}

/-! ### Availability and choice (R94, R95, R97) -/

theorem State.methodAvailable_compressor : s.methodAvailable .compressor = true ↔ s.inter.row .compressor ≠ none ∧
    s.dry.frost < s.param 74 8 ∧ s.cycles.queuedKind .defrost = false ∧ s.cycles.runningKind .defrost = false := by
  simp only [State.methodAvailable, Bool.and_eq_true, Option.isSome_iff_ne_none, decide_eq_true_eq, Bool.not_eq_true', and_assoc]

theorem State.methodAvailable_desiccant : s.methodAvailable .desiccant = true ↔ s.inter.row .heater ≠ none ∧
    s.dry.saturation < s.param 74 9 ∧ s.cycles.has .regen = false := by
  simp only [State.methodAvailable, Bool.and_eq_true, Option.isSome_iff_ne_none, decide_eq_true_eq, Bool.not_eq_true', and_assoc]

theorem State.roomTemps_eq : s.roomTemps = (s.zones.filter fun z => z.state == .live &&
    (z.readings.temp.quality == .good || z.readings.temp.quality == .clamped)).map (·.readings.temp.value) := by
  rw [State.roomTemps, State.liveZones, List.filter_filter]
  refine congrArg (List.map fun z : Zone => z.readings.temp.value) (List.filter_congr fun z _ => ?_)
  rw [Bool.and_comm]
  rfl

theorem State.roomsCold_iff : s.roomsCold = true ↔
    s.roomTemps ≠ [] ∧ s.roomTemps.sum < s.paramInt 74 6 * s.roomTemps.length := by
  simp only [State.roomsCold, Bool.and_eq_true, Bool.not_eq_true', List.isEmpty_eq_false_iff, decide_eq_true_eq]

/-- R97: a method's output is forced off by an inhibit or by a cycle request of 0. -/
theorem State.forcedOff_iff : s.forcedOff m = true ↔ s.inter.inhibits.door = true ∨ s.inter.inhibits.tank = true ∨
    s.inter.inhibits.airflow = true ∨ s.inter.inhibits.run = true ∨ s.inter.inhibits.halt = true ∨
    ∃ r, s.inter.row (if m = .compressor then .compressor else .heater) = some r ∧ r.cycle = some 0 := by
  have hrow : Output.row m.output = if m = .compressor then .compressor else .heater := by cases m <;> rfl
  have hforces : s.inter.inhibits.forces (Output.row m.output) = (s.inter.inhibits.door || s.inter.inhibits.tank ||
      s.inter.inhibits.airflow || s.inter.inhibits.run || s.inter.inhibits.halt) := by cases m <;> rfl
  rw [State.forcedOff, hforces, hrow]
  simp only [Bool.or_eq_true, or_assoc]
  cases s.inter.row (if m = .compressor then .compressor else .heater) <;> simp

theorem State.chooseMethod_desiccant : s.chooseMethod = some .desiccant ↔
    s.methodAvailable .desiccant = true ∧ s.roomsCold = true := by
  unfold State.chooseMethod
  split
  · next h => simpa using h
  · next h =>
    rw [Bool.and_eq_true] at h
    refine iff_of_false ?_ h
    split <;> nofun

theorem State.chooseMethod_compressor : s.chooseMethod = some .compressor ↔
    ¬ (s.methodAvailable .desiccant = true ∧ s.roomsCold = true) ∧ s.methodAvailable .compressor = true := by
  unfold State.chooseMethod
  split
  · next h =>
    rw [Bool.and_eq_true] at h
    exact iff_of_false nofun fun hn => hn.1 h
  · next h =>
    rw [Bool.and_eq_true] at h
    split
    · next hc => exact iff_of_true rfl ⟨h, hc⟩
    · next hc => exact iff_of_false nofun fun hn => hc hn.2

/-! ### What an allocation makes of each state (R96) -/

theorem State.stopToOff_some (hm : s.dry.method = some m) : s.stopToOff =
    (s.post [stopFor m]).setDry { s.dry with state := .off, method := none, next := none } := by
  rw [State.stopToOff, hm]

theorem State.actUnwanted_idle (h : s.dry.state = .off ∨ s.dry.state = .heldNoMethod) : s.actUnwanted.dry.state = .off := by
  unfold State.actUnwanted
  obtain h | h := h
  · rw [h]
    exact h
  · rw [h]
    rfl

theorem State.actUnwanted_requested (h : s.dry.state = .starting ∨ s.dry.state = .heldForced) :
    s.actUnwanted = s.stopToOff := by
  unfold State.actUnwanted
  obtain h | h := h <;> rw [h]

theorem State.actUnwanted_running (h : s.dry.state = .running) (hm : s.dry.method = some m) :
    s.actUnwanted = (s.post [stopFor m]).setDry { s.dry with state := .stopping, next := none } := by
  rw [State.actUnwanted, h]
  simp only [hm]

theorem State.actUnwanted_stopping (h : s.dry.state = .stopping) : s.actUnwanted = s.setDry { s.dry with next := none } := by
  rw [State.actUnwanted, h]

theorem State.actWanted_idle (h : s.dry.state = .off ∨ s.dry.state = .heldNoMethod) : s.actWanted = s.startChosen := by
  unfold State.actWanted
  obtain h | h := h <;> rw [h]

theorem State.switchOr_available {f : State → State} (hm : s.dry.method = some m) (ha : s.methodAvailable m = true) :
    s.switchOr f = f s := by
  rw [State.switchOr, hm]
  exact if_pos ha

theorem State.switchOr_unavailable {f : State → State} (hm : s.dry.method = some m) (ha : s.methodAvailable m = false) :
    s.switchOr f = s.switchMethod := by
  rw [State.switchOr, hm]
  exact if_neg (by simp [ha])

theorem State.actWanted_requested (h : s.dry.state = .starting ∨ s.dry.state = .heldForced) (hm : s.dry.method = some m)
    (ha : s.methodAvailable m = true) : s.actWanted = s.setDry { s.dry with state := s.classOf m } := by
  rw [← s.classifyDry_some hm, ← State.switchOr_available (f := State.classifyDry) hm ha]
  unfold State.actWanted
  obtain h | h := h <;> rw [h]

theorem State.actWanted_running (h : s.dry.state = .running) (hm : s.dry.method = some m)
    (ha : s.methodAvailable m = true) : s.actWanted = s := by
  rw [State.actWanted, h]
  exact State.switchOr_available hm ha

theorem State.actWanted_unavailable (h : s.dry.state = .starting ∨ s.dry.state = .running ∨ s.dry.state = .heldForced)
    (hm : s.dry.method = some m) (ha : s.methodAvailable m = false) : s.actWanted = s.switchMethod := by
  unfold State.actWanted
  obtain h | h | h := h <;> rw [h] <;> exact State.switchOr_unavailable hm ha

theorem State.actWanted_stopping_same (h : s.dry.state = .stopping) (hm : s.dry.method = some m)
    (hc : s.chooseMethod = some m) :
    s.actWanted = (s.post [s.runFor m]).setDry { s.dry with state := .running, next := none } := by
  rw [State.actWanted, h]
  simp only [hc, hm, Option.isSome_some, beq_self_eq_true, Bool.and_self, if_true]

theorem State.actWanted_stopping_other (h : s.dry.state = .stopping) (hm : s.dry.method = some m)
    (hc : s.chooseMethod ≠ some m) : s.actWanted = s.setDry { s.dry with next := s.chooseMethod } := by
  rw [State.actWanted, h]
  refine if_neg fun hsame => hc ?_
  rw [Bool.and_eq_true, beq_iff_eq, hm] at hsame
  exact hsame.2

/-- R96: where the controller stands is not changed by the want and the estimate of an allocation. -/
theorem State.allocTaken_dry : s.allocTaken.dry = { s.dry with want := s.wantAfter, saturation := s.dry.accrued } := rfl

theorem Drying.accrued_idle {d : Drying} (h : d.state ≠ .running) : d.accrued = d.saturation := if_neg fun hc => h hc.1

theorem State.allocTaken_choice (h : s.dry.state ≠ .running) : s.allocTaken.chooseMethod = s.chooseMethod := by
  have hsat : s.allocTaken.dry.saturation = s.dry.saturation := Drying.accrued_idle h
  have havail (n : Method) : s.allocTaken.methodAvailable n = s.methodAvailable n := by
    cases n with
    | compressor => rfl
    | desiccant =>
      rw [State.methodAvailable, State.methodAvailable, hsat]
      rfl
  rw [State.chooseMethod, State.chooseMethod, havail, havail]
  rfl

/-- R96: an allocation, as the actions on the controller that has taken its want and estimate. -/
theorem exec_dryingAllocation_acts (hheld : s.held = false) (r : AllocRecord) : ∃ (a v : State) (es : List Instr),
    exec (.dryingAllocation r) s = .next (v.post es) ∧ a.Moves v ∧ (v.dry.want = true → v = a.actWanted) ∧
      (v.dry.want = false → v = a.actUnwanted) ∧
      (v.dry.state.isHeld ≠ s.dry.state.isHeld → .conditionPost .dryHeld v.dry.state.isHeld ∈ es) ∧
      a.dry.state = s.dry.state ∧ a.dry.method = s.dry.method ∧ a.dry.next = s.dry.next ∧
      (∀ m, a.dry.recorded m = s.dry.recorded m) ∧ (∀ m, a.classOf m = s.classOf m) ∧ (∀ m, a.runFor m = s.runFor m) ∧
      (s.dry.state ≠ .running → a.chooseMethod = s.chooseMethod) := by
  obtain ⟨es, hes, hnews⟩ := (s.took (.dryingAllocation r)).dryEvent_eq State.takeAllocation
  have hmoves := (s.took (.dryingAllocation r)).takeAllocation_moves
  refine ⟨(s.took (.dryingAllocation r)).allocTaken, _, es, (exec_dryingAllocation s hheld r).trans (congrArg _ hes), hmoves,
    fun hw => ?_, fun hw => ?_, hnews, rfl, rfl, rfl, fun m => by cases m <;> rfl, fun m => by cases m <;> rfl,
    fun m => by cases m <;> rfl, State.allocTaken_choice⟩
  · rw [hmoves.want] at hw
    exact (State.takeAllocation_eq _).trans (if_pos hw)
  · rw [hmoves.want] at hw
    exact (State.takeAllocation_eq _).trans (if_neg (by simp [hw]))

/-! ### What the outputs make of each state (R99, R100) -/

section outputs
variable (hheld : s.held = false)
include hheld

theorem exec_dryingOutputOn (m : Method) : exec (.dryingOutputOn (Method.output m)) s =
    .next (if s.dry.recorded m then s.took (.dryingOutputOn (Method.output m))
      else (s.took (.dryingOutputOn (Method.output m))).dryEvent (State.dryOutputOn m)) := by
  refine (taking_awake s (.dryingOutputOn (Method.output m)) (fun s => match methodOf (Method.output m) with
    | none => s
    | some m => if s.dry.recorded m then s else s.dryEvent (State.dryOutputOn m)) hheld).trans ?_
  cases m <;> rfl

theorem exec_dryingOutputOff (m : Method) : exec (.dryingOutputOff (Method.output m)) s =
    .next (if s.dry.recorded m then (s.took (.dryingOutputOff (Method.output m))).dryEvent (State.dryOutputOff m)
      else s.took (.dryingOutputOff (Method.output m))) := by
  refine (taking_awake s (.dryingOutputOff (Method.output m)) (fun s => match methodOf (Method.output m) with
    | none => s
    | some m => if s.dry.recorded m then s.dryEvent (State.dryOutputOff m) else s) hheld).trans ?_
  cases m <;> rfl

theorem exec_dryingOutputOn_pump : exec (.dryingOutputOn .pump) s = .next (s.took (.dryingOutputOn .pump)) :=
  taking_awake s (.dryingOutputOn .pump) (fun s => s) hheld

theorem exec_dryingOutputOff_pump : exec (.dryingOutputOff .pump) s = .next (s.took (.dryingOutputOff .pump)) :=
  taking_awake s (.dryingOutputOff .pump) (fun s => s) hheld

end outputs

theorem Drying.record_place (m : Method) (on : Bool) (d : Drying) : (d.record m on).state = d.state ∧
    (d.record m on).method = d.method ∧ (d.record m on).next = d.next ∧ (d.record m on).want = d.want ∧
    (d.record m on).recorded m = on := by
  cases m <;> exact ⟨rfl, rfl, rfl, rfl, rfl⟩

theorem State.dryOutputOn_recorded (m : Method) : (s.dryOutputOn m).dry.recorded m = true := by
  unfold State.dryOutputOn
  extract_lets d
  have hd : d.recorded m = true := (s.dry.record_place m true).2.2.2.2
  have hplaced (x : Drying) (hx : x.known = d.known) : x.recorded m = true := by
    rw [← hd]
    cases m
    · exact (congrArg (·.2.1) hx :)
    · exact (congrArg (·.2.2.1) hx :)
  split
  · refine hplaced _ ?_
    split <;> rfl
  · refine hplaced _ ?_
    split <;> rfl
  · exact hplaced _ rfl
  · exact hplaced _ rfl
  · exact hd
  · exact hd

/-- R99: the output of the method started or forced off came on. -/
theorem State.dryOutputOn_awaited (h : s.dry.state = .starting ∨ s.dry.state = .heldForced)
    (hm : s.dry.method = some m) : (s.dryOutputOn m).dry.state = .running := by
  obtain ⟨hstate, hmethod, -⟩ := s.dry.record_place m true
  rw [hm] at hmethod
  obtain h | h := h
  all_goals
    rw [h] at hstate
    simp only [State.dryOutputOn, hstate, hmethod, if_true]
    rfl

/-- R99: an output that comes on unasked is stopped. -/
theorem State.dryOutputOn_unasked (h : s.dry.state = .off ∨ s.dry.state = .heldNoMethod) :
    (s.dryOutputOn m).dry.state = .stopping ∧ (s.dryOutputOn m).dry.method = some m := by
  obtain ⟨hstate, -⟩ := s.dry.record_place m true
  obtain h | h := h
  all_goals
    rw [h] at hstate
    simp only [State.dryOutputOn, hstate]
    exact ⟨rfl, rfl⟩

theorem State.dryOutputOn_other (h : s.dry.state = .running ∨ s.dry.state = .stopping ∨
    (s.dry.state = .starting ∨ s.dry.state = .heldForced) ∧ s.dry.method ≠ some m) :
    (s.dryOutputOn m).dry.state = s.dry.state := by
  obtain ⟨hstate, hmethod, -⟩ := s.dry.record_place m true
  obtain h | h | ⟨h | h, hm⟩ := h
  · rw [h] at hstate ⊢
    simp only [State.dryOutputOn, hstate]
    exact hstate
  · rw [h] at hstate ⊢
    simp only [State.dryOutputOn, hstate]
    exact hstate
  all_goals
    rw [← hmethod] at hm
    rw [h] at hstate ⊢
    simp only [State.dryOutputOn, hstate, if_neg hm]
    exact hstate

/-- R100: the device with an output recorded off. -/
def State.outputOff (m : Method) (s : State) : State := s.setDry (s.dry.record m false)

theorem State.outputOff_available (n : Method) : (s.outputOff m).methodAvailable n = s.methodAvailable n := by
  cases m <;> cases n <;> rfl

theorem State.outputOff_forced (n : Method) : (s.outputOff m).forcedOff n = s.forcedOff n := rfl

theorem State.dryOutputOff_other (h : s.dry.method ≠ some m ∨ s.dry.state ≠ .running ∧ s.dry.state ≠ .stopping) :
    s.dryOutputOff m = s.outputOff m := by
  obtain ⟨hstate, hmethod, -⟩ := s.dry.record_place m false
  rw [← hmethod, ← hstate] at h
  unfold State.dryOutputOff
  extract_lets t
  split
  · next hm =>
    obtain ⟨hr, hs⟩ := h.resolve_left (not_not_intro hm)
    split
    · next h => exact absurd h hr
    · next h => exact absurd h hs
    all_goals rfl
  · rfl

theorem State.dryOutputOff_running (h : s.dry.state = .running) (hm : s.dry.method = some m) :
    s.dryOutputOff m = (s.outputOff m).switchOr State.classifyDry := by
  obtain ⟨hstate, hmethod, -⟩ := s.dry.record_place m false
  rw [h] at hstate
  rw [hm] at hmethod
  simp only [State.dryOutputOff, State.setDry_dry, hstate, hmethod, if_true]
  rfl

theorem State.dryOutputOff_stopped (h : s.dry.state = .stopping) (hm : s.dry.method = some m) :
    s.dryOutputOff m = if s.dry.want then (s.outputOff m).afterStop
      else (s.outputOff m).setDry { (s.outputOff m).dry with state := .off, method := none, next := none } := by
  obtain ⟨hstate, hmethod, -, hwant, -⟩ := s.dry.record_place m false
  rw [h] at hstate
  rw [hm] at hmethod
  rw [← hwant]
  simp only [State.dryOutputOff, State.setDry_dry, hstate, hmethod, if_true]
  rfl

end Sys2Proof.Machine
end

section
/-! The drying states follow the want, the outputs, the samples and the outcomes (R92, R96–R101, R105). -/

namespace Sys2Proof.Machine
open State

variable {s : State} {m : Method}

/-! ### An output that goes off (R100) -/

theorem State.afterStop_moves : s.Moves s.afterStop := by
  unfold State.afterStop
  split
  · split
    · exact s.startMethod_moves _
    · exact s.startChosen_moves
  · exact s.startChosen_moves

theorem State.dryOutputOff_moves : (s.outputOff m).Moves (s.dryOutputOff m) := by
  unfold State.dryOutputOff
  extract_lets t
  have ht : t = s.outputOff m := rfl
  rw [← ht]
  split
  · split
    · exact t.switchOr_moves t.classifyDry_moves
    · split
      · exact State.afterStop_moves
      · exact (State.Moves.refl t).placed rfl
    all_goals exact .refl t
  · exact .refl t

theorem State.outputOff_recorded : (s.outputOff m).dry.recorded m = false := (s.dry.record_place m false).2.2.2.2

theorem State.outputOff_dry : (s.outputOff m).dry.state = s.dry.state ∧ (s.outputOff m).dry.method = s.dry.method ∧
    (s.outputOff m).dry.next = s.dry.next := by
  obtain ⟨h1, h2, h3, -⟩ := s.dry.record_place m false
  exact ⟨h1, h2, h3⟩

/-- R100: the output of an available method went off while it ran. -/
theorem State.dryOutputOff_lost (h : s.dry.state = .running) (hm : s.dry.method = some m)
    (ha : s.methodAvailable m = true) :
    (s.dryOutputOff m).dry.state = if s.forcedOff m then .heldForced else .starting := by
  have hmethod : (s.outputOff m).dry.method = some m := State.outputOff_dry.2.1.trans hm
  rw [State.dryOutputOff_running h hm, State.switchOr_available hmethod (by rw [State.outputOff_available]; exact ha),
    State.classifyDry_some _ hmethod]
  show (s.outputOff m).classOf m = _
  rw [State.classOf, State.outputOff_recorded, State.outputOff_forced]
  exact if_neg Bool.false_ne_true

/-- R100, R101: the output of an unavailable method went off while it ran. -/
theorem State.dryOutputOff_switched (h : s.dry.state = .running) (hm : s.dry.method = some m)
    (ha : s.methodAvailable m = false) : (s.dryOutputOff m).SwitchedFrom m false := by
  have hmethod : (s.outputOff m).dry.method = some m := State.outputOff_dry.2.1.trans hm
  have hswitch := (s.outputOff m).switchMethod_switched hmethod
  rw [State.outputOff_recorded] at hswitch
  rwa [State.dryOutputOff_running h hm, State.switchOr_unavailable hmethod (by rw [State.outputOff_available]; exact ha)]

/-- R100: a stop completed with the want ON starts the next method while it is available, and chooses otherwise. -/
theorem State.afterStop_started : (∀ n, s.dry.next = some n → s.methodAvailable n = true → s.afterStop.StartedMethod n) ∧
    ((∀ n, s.dry.next = some n → s.methodAvailable n = false) → s.afterStop.StartedChosen) := by
  refine ⟨fun n hn ha => ?_, fun h => ?_⟩
  · have hstart : s.afterStop = s.startMethod n := by
      rw [State.afterStop, hn]
      exact if_pos ha
    rw [hstart]
    exact s.startMethod_started n
  · have hchosen : s.afterStop = s.startChosen := by
      unfold State.afterStop
      split
      · next n hn => exact if_neg (by simp [h n hn])
      · rfl
    rw [hchosen]
    exact s.startChosen_started

/-! ### A coil sample and an outcome (R103, R105) -/

theorem State.coilTaken_dry (v : Int) : (s.coilTaken v).dry = { s.dry with frost := s.dry.frostAfter v } := rfl

theorem DryState.runInForce_iff (x : DryState) :
    x.runInForce = true ↔ x = .starting ∨ x = .running ∨ x = .heldForced := by
  cases x <;> simp [DryState.runInForce]

/-- R103: at the frost limit a compressor in use is switched away from. -/
theorem State.takeCoilTemp_switches {v : Int} (h : s.dry.frost < s.param 74 8) (h' : s.param 74 8 ≤ s.dry.frostAfter v)
    (hm : s.dry.method = some .compressor) (hs : s.dry.state = .starting ∨ s.dry.state = .running ∨ s.dry.state = .heldForced) :
    (s.takeCoilTemp v).SwitchedFrom .compressor s.dry.compOn := by
  rw [s.takeCoilTemp_limit h h', if_pos ⟨hm, (DryState.runInForce_iff _).2 hs⟩]
  exact State.switchMethod_switched (m := .compressor) _ hm

theorem State.takeCoilTemp_stays {v : Int} (h : s.dry.frostAfter v < s.param 74 8 ∨ s.param 74 8 ≤ s.dry.frost ∨
    s.dry.method ≠ some .compressor ∨ s.dry.state = .off ∨ s.dry.state = .stopping ∨ s.dry.state = .heldNoMethod) :
    (s.takeCoilTemp v).dry = { s.dry with frost := s.dry.frostAfter v } := by
  by_cases hlimit : s.dry.frost < s.param 74 8 ∧ s.param 74 8 ≤ s.dry.frostAfter v
  · have hfree : ¬ (s.dry.method = some .compressor ∧ s.dry.state.runInForce = true) := by
      rintro ⟨hm, hs⟩
      rw [DryState.runInForce_iff] at hs
      obtain h | h | h | h | h | h := h
      · exact absurd hlimit.2 (Nat.not_le.2 h)
      · exact absurd hlimit.1 (Nat.not_lt.2 h)
      · exact h hm
      all_goals simp [h] at hs
    rw [s.takeCoilTemp_limit hlimit.1 hlimit.2, if_neg hfree]
    rfl
  · rw [s.takeCoilTemp_other hlimit]
    rfl

theorem State.outcomeTaken_dry (k : CycleKind) (o : CycleOutcome) : (s.outcomeTaken k o).dry =
    { s.dry with
      frost := (s.outcomeTaken k o).dry.frost
      saturation := (s.outcomeTaken k o).dry.saturation } := by
  show s.dry.afterOutcome k o = { s.dry with
    frost := (s.dry.afterOutcome k o).frost, saturation := (s.dry.afterOutcome k o).saturation }
  rw [Drying.afterOutcome_eq]

theorem State.actOnOutcome_heldNoMethod (h : s.dry.state = .heldNoMethod) (hw : s.dry.want = true) :
    s.actOnOutcome = s.startChosen := by
  rw [State.actOnOutcome, h]
  exact if_pos hw

theorem State.actOnOutcome_heldForced (h : s.dry.state = .heldForced) (hm : s.dry.method = some m) :
    s.actOnOutcome = s.setDry { s.dry with state := s.classOf m } := by
  rw [State.actOnOutcome, h]
  exact s.classifyDry_some hm

theorem State.actOnOutcome_other (h : s.dry.state = .off ∨ s.dry.state = .starting ∨ s.dry.state = .running ∨
    s.dry.state = .stopping ∨ s.dry.state = .heldNoMethod ∧ s.dry.want = false) : s.actOnOutcome = s := by
  unfold State.actOnOutcome
  obtain h | h | h | h | ⟨h, hw⟩ := h
  case inr.inr.inr.inr =>
    rw [h]
    exact if_neg (by simp [hw])
  all_goals rw [h]

/-- Settles O35: one lemma for each event and state it meets; DRY-HELD is `dryEvent_eq`. -/
theorem dryingStatesFollowTheWant : Obligations.DryingStatesFollowTheWant := by
  intro s m hheld
  refine ⟨State.methodAvailable_compressor, State.methodAvailable_desiccant, ?temps, State.forcedOff_iff,
    State.chooseMethod_desiccant, State.chooseMethod_compressor, fun r => ?alloc,
    ⟨exec_dryingOutputOn_pump hheld, exec_dryingOutputOff_pump hheld⟩, fun h => ?onAgain, fun h => ?offAgain, fun h => ?on,
    fun h => ?off, fun v q => ?coil, fun k o => ?outcome⟩
  case temps =>
    intro temps htemps
    rw [htemps, ← State.roomTemps_eq]
    exact State.roomsCold_iff
  case onAgain => rw [exec_dryingOutputOn hheld, if_pos h]
  case offAgain => rw [exec_dryingOutputOff hheld, if_neg (by simp [h])]
  case alloc =>
    obtain ⟨a, v, es, hexec, hmoves, hon, hoff, hnews, hstate, hmethod, hnext, hrec, hclass, hrun, hchoose⟩ :=
      exec_dryingAllocation_acts hheld r
    have hlast := hmoves.post es
    have hposts {e : Instr} (h : e ∈ v.posts) : e ∈ (v.post es).posts := List.mem_append_left _ h
    have hrunFor : a.runFor m = .runRequest (Method.output m) (if m = .compressor then 1 else s.param 74 7) := by
      rw [hrun, Method.runFor_eq]
    refine ⟨_, hexec, fun h => List.mem_append_right _ (hnews h), fun hw h => ?_, fun hw h hm => ?_, fun hw h hm => ?_,
      fun hw h => ?_, fun hw h hc => ?_, fun hw h hc => ?_, fun hw h hm ha => ?_, fun hw h hm ha => ?_,
      fun hw h hm ha => ?_, fun hw h hm => ⟨fun hc => ?_, fun hc => ?_⟩⟩
    · rw [← hstate] at h
      exact (congrArg (·.dry.state) (hoff hw)).trans (State.actUnwanted_idle h)
    · rw [← hstate] at h
      rw [← hmethod] at hm
      rw [hoff hw, State.actUnwanted_requested h, State.stopToOff_some hm] at hposts ⊢
      exact ⟨rfl, rfl, hposts (List.mem_append_right _ (List.mem_singleton_self _))⟩
    · rw [← hstate] at h
      rw [← hmethod] at hm
      rw [hoff hw, State.actUnwanted_running h hm] at hposts ⊢
      exact ⟨rfl, rfl, hposts (List.mem_append_right _ (List.mem_singleton_self _))⟩
    · rw [← hstate] at h
      rw [hoff hw, State.actUnwanted_stopping h]
      exact ⟨h, rfl⟩
    · have hidle : a.chooseMethod = s.chooseMethod := hchoose (by obtain h | h := h <;> rw [h] <;> nofun)
      rw [← hstate] at h
      rw [hon hw, State.actWanted_idle h, State.startChosen_none _ (hidle.trans hc)]
      exact ⟨rfl, rfl⟩
    · have hidle : a.chooseMethod = s.chooseMethod := hchoose (by obtain h | h := h <;> rw [h] <;> nofun)
      rw [← hstate] at h
      rw [hon hw, State.actWanted_idle h, State.startChosen_some _ (hidle.trans hc), State.startMethod_eq] at hposts ⊢
      refine ⟨rfl, rfl, hposts (List.mem_append_right _ ?_), hclass m⟩
      rw [hrunFor]
      exact List.mem_singleton_self _
    · rw [hlast.methodAvailable] at ha
      rw [← hstate] at h
      rw [← hmethod] at hm
      rw [hon hw, State.actWanted_requested h hm ha]
      exact ⟨hm, hnext, hclass m⟩
    · rw [hlast.methodAvailable] at ha
      rw [← hstate] at h
      rw [← hmethod] at hm
      rw [hon hw, State.actWanted_running h hm ha]
      exact ⟨h, hm, hnext⟩
    · rw [hlast.methodAvailable] at ha
      rw [← hstate] at h
      rw [← hmethod] at hm
      rw [hon hw, State.actWanted_unavailable h hm ha, ← hrec m]
      exact (a.switchMethod_switched hm).post es
    · rw [hlast.chooseMethod] at hc
      rw [← hstate] at h
      rw [← hmethod] at hm
      rw [hon hw, State.actWanted_stopping_same h hm hc] at hposts ⊢
      refine ⟨rfl, hm, rfl, hposts (List.mem_append_right _ ?_)⟩
      rw [hrunFor]
      exact List.mem_singleton_self _
    · rw [hlast.chooseMethod] at hc ⊢
      rw [← hstate] at h
      rw [← hmethod] at hm
      rw [hon hw, State.actWanted_stopping_other h hm hc]
      exact ⟨h, hm, rfl⟩
  case on =>
    obtain ⟨u, hu⟩ : ∃ u, u = s.took (.dryingOutputOn (Method.output m)) := ⟨_, rfl⟩
    have hdry : u.dry = s.dry := by rw [hu]; rfl
    have hframe := s.dryEvent_frame (hu ▸ u.dryOutputOn_within m)
    obtain ⟨es, hes, hnews⟩ := u.dryEvent_eq (State.dryOutputOn m)
    have hexec := exec_dryingOutputOn hheld m
    rw [if_neg (by simp [h]), ← hu, hes] at hexec
    rw [← hu, hes] at hframe
    rw [← hdry]
    refine ⟨_, hexec, State.dryOutputOn_recorded m, State.dryOutputOn_awaited, State.dryOutputOn_unasked,
      State.dryOutputOn_other, fun h => List.mem_append_right _ (hnews h), ?_⟩
    rw [hdry]
    exact hframe
  case off =>
    obtain ⟨u, hu⟩ : ∃ u, u = s.took (.dryingOutputOff (Method.output m)) := ⟨_, rfl⟩
    have hdry : u.dry = s.dry := by rw [hu]; rfl
    have havail (n : Method) : u.methodAvailable n = s.methodAvailable n := by rw [hu]; cases n <;> rfl
    have hforced : u.forcedOff m = s.forcedOff m := by rw [hu]; rfl
    have hframe := s.dryEvent_frame (hu ▸ u.dryOutputOff_within m)
    obtain ⟨es, hes, hnews⟩ := u.dryEvent_eq (State.dryOutputOff m)
    have hexec := exec_dryingOutputOff hheld m
    rw [if_pos h, ← hu, hes] at hexec
    rw [← hu, hes, ← hdry] at hframe
    simp only [← hdry, ← havail, ← hforced]
    obtain ⟨-, hmethod, hnext⟩ := State.outputOff_dry (s := u) (m := m)
    refine ⟨_, hexec, ?_, fun hm hs hw => ?_, fun hm hs ha => State.dryOutputOff_lost hs hm ha,
      fun hm hs ha => (State.dryOutputOff_switched hs hm ha).post es, fun hm hs hw => ?_, fun h => ?_,
      fun h => List.mem_append_right _ (hnews h), hframe⟩
    · exact (State.dryOutputOff_moves.recorded m).trans State.outputOff_recorded
    · rw [State.dryOutputOff_stopped hs hm, if_neg (by simp [hw])]
      exact ⟨rfl, rfl, rfl⟩
    · rw [State.dryOutputOff_stopped hs hm, if_pos hw]
      obtain ⟨hstarted, hchosen⟩ := State.afterStop_started (s := u.outputOff m)
      rw [hnext] at hstarted hchosen
      simp only [State.outputOff_available] at hstarted hchosen
      exact ⟨fun n hn ha => (hstarted n hn ha).post es, fun h => (hchosen h).post es⟩
    · rw [State.dryOutputOff_other h]
      exact (State.outputOff_dry (s := u)).1
  case coil =>
    obtain ⟨u, hu⟩ : ∃ u, u = s.took (.dryingCoilTemp (some (v, q))) := ⟨_, rfl⟩
    have hdry : u.dry = s.dry := by rw [hu]; rfl
    have hparam : u.param 74 8 = s.param 74 8 := by rw [hu]; rfl
    obtain ⟨es, hes, hnews⟩ := u.dryEvent_eq (State.takeCoilTemp v)
    have hexec := exec_dryingCoilTemp s hheld v q
    rw [← hu, hes] at hexec
    have hfrost : ((u.takeCoilTemp v).post es).dry.frost = u.dry.frostAfter v := (u.takeCoilTemp_moves v).frost
    rw [← hdry, ← hparam]
    refine ⟨_, hexec, fun h h' hm hs => ?_, fun h => ?_, fun h => List.mem_append_right _ (hnews h)⟩
    · rw [hfrost] at h'
      exact (State.takeCoilTemp_switches h h' hm hs).post es
    · rw [hfrost] at h ⊢
      exact State.takeCoilTemp_stays h
  case outcome =>
    obtain ⟨u, hu⟩ : ∃ u, u = s.took (.dryingCycleOutcome k o) := ⟨_, rfl⟩
    obtain ⟨es, hes, hnews⟩ := u.dryEvent_eq fun s => (s.outcomeTaken k o).actOnOutcome
    have hexec := exec_dryingCycleOutcome s hheld k o
    rw [← hu, hes] at hexec
    obtain ⟨b, hb⟩ : ∃ b, b = u.outcomeTaken k o := ⟨_, rfl⟩
    have hdry : b.dry = { s.dry with frost := b.dry.frost, saturation := b.dry.saturation } := by
      rw [hb, hu]
      exact State.outcomeTaken_dry k o
    have hstate : b.dry.state = s.dry.state := (congrArg Drying.state hdry :)
    have hmethod : b.dry.method = s.dry.method := (congrArg Drying.method hdry :)
    have hwant : b.dry.want = s.dry.want := (congrArg Drying.want hdry :)
    have hrec : b.dry.recorded m = s.dry.recorded m := by rw [hdry]; cases m <;> rfl
    have hforced : b.forcedOff m = s.forcedOff m := by rw [hb, hu]; rfl
    rw [← hb] at hexec
    have hnews : b.actOnOutcome.dry.state.isHeld ≠ s.dry.state.isHeld →
        .conditionPost .dryHeld b.actOnOutcome.dry.state.isHeld ∈ es := by
      rw [hb]
      rw [hu] at hnews ⊢
      exact hnews
    refine ⟨_, hexec, fun h hw => ?_, fun h hm => ?_, fun h => ?_, fun h => List.mem_append_right _ (hnews h)⟩
    · rw [State.actOnOutcome_heldNoMethod (hstate.trans h) (hwant.trans hw)]
      exact b.startChosen_started.post es
    · rw [State.actOnOutcome_heldForced (hstate.trans h) (hmethod.trans hm), ← hrec, ← hforced]
      exact ⟨hmethod.trans hm, rfl⟩
    · rw [← hstate, ← hwant] at h
      rw [State.actOnOutcome_other h]
      exact hdry

end Sys2Proof.Machine
end

section
/-! What a water event makes of the Tank Record, and what it posts (R109–R120). -/

namespace Sys2Proof.Machine
open State

variable (s : State)

/-! ### A record taken, evaluated and reported (R114, R115, R117) -/

/-- R115: the posts of an evaluation of a record. -/
def State.waterNews (s : State) (w : Water) : List Instr :=
  if w.evaluate s.tankPage = w.state then [] else
    tankInhibitPost w.state (w.evaluate s.tankPage) ++
    tankCondition .tankNear .near w.state (w.evaluate s.tankPage) ++
    tankCondition .tankFull .full w.state (w.evaluate s.tankPage) ++
    tankCondition .tankOut .out w.state (w.evaluate s.tankPage) ++
    (s.setWater w).pumpOutPost (w.evaluate s.tankPage)

/-- R117: the device with a Tank Record, and posts behind those in flight, the tank report last. -/
def State.reported (s : State) (x : Water) (ps : List Instr) (probe : Option Nat) : State :=
  (s.setWater x).setPosts (s.posts ++ ps ++ [(s.setWater x).tankReport probe])

/-- R114: a record with its state evaluated. -/
def State.evaluated (s : State) (w : Water) : Water := { w with state := w.evaluate s.tankPage }

theorem State.waterEvent_reported (probe : Option Nat) (f : Water → Water) :
    s.waterEvent probe f = s.reported (s.evaluated (f s.water)) (s.waterNews (f s.water)) probe := by
  unfold State.waterEvent
  rw [State.evalTank_eq]
  rfl

theorem State.reportOnly_reported (probe : Option Nat) : s.reportOnly probe = s.reported s.water [] probe := by
  rw [State.reported, List.append_nil]
  rfl

theorem State.waterNews_same {w : Water} (h : w.evaluate s.tankPage = w.state) : s.waterNews w = [] := if_pos h

/-! ### What the events of the Water Monitor come to -/

/-- R120: a swap newly fits the pump. -/
def State.newlyFitted (s : State) (c : Instr) : Bool := c == .waterSwapTaken && !s.water.fitted && s.pumpFitted

/-- R116, R119, R120: the posts an event makes of its own, behind those of the evaluation that left the tank state x. -/
def State.waterMore (s : State) (c : Instr) (w : Water) (x : TankState) : List Instr :=
  if s.newlyFitted c then (if TankState.wantsPump x && !s.water.pumpFault then [.cycleRequest .pumpOut] else [])
  else if w.pumpFault = s.water.pumpFault then [] else [.inhibitClaim .pump, .conditionPost .pumpFault true]

/-- R114: the record an event leaves; one that applies has its state evaluated. -/
def State.waterLeft (s : State) (w : Water) (applies : Bool) : Water := if applies then s.evaluated w else w

/-- The event c leaves the record w, and has its state evaluated where it applies. -/
structure State.TakesWater (s : State) (c : Instr) (w : Water) (applies : Bool) (probe : Option Nat) : Prop where
  exec_eq : exec c s = .next ((s.took c).reported (s.waterLeft w applies)
    ((if applies then s.waterNews w else []) ++ s.waterMore c w (s.waterLeft w applies).state) probe)
  state : w.state = s.water.state
  level : ∀ l q, c = .tankLevel (some (l, q)) → probe = some l.val
  noLevel : (∀ x, c ≠ .tankLevel (some x)) → probe = none
  noFlow : c = .pumpOutOutcome (.failed .noFlow) → applies = false ∧ w.pumpFault = true
  swap : c = .waterSwapTaken → applies = true

variable {s} {c : Instr} {w : Water} {probe : Option Nat}

theorem State.newlyFitted_other (h : c ≠ .waterSwapTaken) : s.newlyFitted c = false := by
  rw [State.newlyFitted, beq_eq_false_iff_ne.2 h]
  rfl

theorem State.waterMore_none {x : TankState} (h : c ≠ .waterSwapTaken) (hfault : w.pumpFault = s.water.pumpFault) :
    s.waterMore c w x = [] := by
  rw [State.waterMore, State.newlyFitted_other h, if_neg Bool.false_ne_true, if_pos hfault]

/-- An event that is a change of the record. -/
theorem State.TakesWater.of_event {f : Water → Water} (hexec : exec c s = .next ((s.took c).waterEvent probe f))
    (hw : w = f s.water) (hstate : w.state = s.water.state) (hfault : w.pumpFault = s.water.pumpFault)
    (hlevel : ∀ l q, c = .tankLevel (some (l, q)) → probe = some l.val)
    (hnone : (∀ x, c ≠ .tankLevel (some x)) → probe = none) (hflow : c ≠ .pumpOutOutcome (.failed .noFlow))
    (hswap : c ≠ .waterSwapTaken) : s.TakesWater c w true probe where
  exec_eq := by
    rw [hexec, State.waterEvent_reported, State.waterMore_none hswap hfault, List.append_nil, hw]
    rfl
  state := hstate
  level := hlevel
  noLevel := hnone
  noFlow h := absurd h hflow
  swap _ := rfl

/-- An event that is only reported. -/
theorem State.TakesWater.of_report (hexec : exec c s = .next ((s.took c).reportOnly probe)) (hw : w = s.water)
    (hlevel : ∀ l q, c = .tankLevel (some (l, q)) → probe = some l.val)
    (hnone : (∀ x, c ≠ .tankLevel (some x)) → probe = none)
    (hflow : c = .pumpOutOutcome (.failed .noFlow) → w.pumpFault = true)
    (hswap : c ≠ .waterSwapTaken) : s.TakesWater c w false probe where
  exec_eq := by
    rw [hexec, State.reportOnly_reported, State.waterMore_none hswap (by rw [hw]), hw]
    rfl
  state := by rw [hw]
  level := hlevel
  noLevel := hnone
  noFlow h := ⟨rfl, hflow h⟩
  swap h := absurd h hswap

/-! ### The commands -/

section commands
variable (hheld : s.held = false)
include hheld

theorem exec_deposit (v : Nat) (b : Bool) : exec (.deposit v b) s = .next (if s.water.kind = some .tank
    then (s.took (.deposit v b)).waterEvent none (Water.deposit s.tankPage v b)
    else (s.took (.deposit v b)).reportOnly none) :=
  taking_awake s (.deposit v b) (fun s => if s.water.kind = some .tank then
    s.waterEvent none (Water.deposit s.tankPage v b) else s.reportOnly none) hheld

theorem exec_removal (v : Nat) (b : Bool) : exec (.removal v b) s = .next (if s.water.kind = some .tank
    then (s.took (.removal v b)).waterEvent none (Water.remove v b)
    else (s.took (.removal v b)).reportOnly none) :=
  taking_awake s (.removal v b) (fun s => if s.water.kind = some .tank then
    s.waterEvent none (Water.remove v b) else s.reportOnly none) hheld

theorem exec_uncertain : exec .uncertain s = .next (if s.water.kind = some .drain
    then (s.took .uncertain).reportOnly none
    else (s.took .uncertain).waterEvent none fun w => { w with certain := false }) :=
  taking_awake s .uncertain (fun s => if s.water.kind = some .drain then s.reportOnly none
    else s.waterEvent none fun w => { w with certain := false }) hheld

theorem exec_tankLevel_none : exec (.tankLevel none) s = .next (if s.water.kind = some .tank
    then (s.took (.tankLevel none)).waterEvent none fun w => { w with certain := false }
    else (s.took (.tankLevel none)).reportOnly none) :=
  taking_awake s (.tankLevel none) (State.takeTankLevel none) hheld

theorem exec_tankLevel_some (l : Fin 16) (q : Quality) : exec (.tankLevel (some (l, q))) s =
    .next (if s.water.kind = some .tank ∧ !s.water.removed
      then (s.took (.tankLevel (some (l, q)))).waterEvent (some l.val)
        (Water.probeAt s.tankPage (s.probeMap l.val) l.val)
      else (s.took (.tankLevel (some (l, q)))).reportOnly (some l.val)) :=
  taking_awake s (.tankLevel (some (l, q))) (State.takeTankLevel (some l)) hheld

theorem exec_tankOut : exec .tankOut s = .next (if s.water.kind = some .tank ∧ !s.water.removed
    then (s.took .tankOut).waterEvent none fun w => { w with removed := true }
    else (s.took .tankOut).reportOnly none) :=
  taking_awake s .tankOut (fun s => if s.water.kind = some .tank ∧ !s.water.removed then
    s.waterEvent none fun w => { w with removed := true } else s.reportOnly none) hheld

theorem exec_tankIn : exec .tankIn s = .next (if s.water.kind = some .tank
    then (s.took .tankIn).waterEvent none Water.reinserted else (s.took .tankIn).reportOnly none) :=
  taking_awake s .tankIn (fun s => if s.water.kind = some .tank then
    s.waterEvent none Water.reinserted else s.reportOnly none) hheld

theorem exec_pumpOutOutcome (o : CycleOutcome) : exec (.pumpOutOutcome o) s =
    .next ((s.took (.pumpOutOutcome o)).takePumpOutcome o) :=
  taking_awake s (.pumpOutOutcome o) (State.takePumpOutcome o) hheld

theorem exec_waterSwapTaken : exec .waterSwapTaken s = .next (s.took .waterSwapTaken).waterSwap :=
  taking_awake s .waterSwapTaken State.waterSwap hheld

/-! ### Each event's record -/

omit hheld in
/-- R111: a sample moves an estimate that is not known, or lies further from it than the tolerance. -/
theorem Water.probeAt_eq (p : TankPage) (m level : Nat) (w : Water) : w.probeAt p m level = { w with
    estimate := (if w.known = false ∨ p.tolerance < m - w.estimate ∨ p.tolerance < w.estimate - m then m else w.estimate)
    known := true, certain := true, probe := some level } := by
  have hestimate : (if !w.known then m else if p.tolerance < m - w.estimate ∨ p.tolerance < w.estimate - m then m
      else w.estimate) =
      if w.known = false ∨ p.tolerance < m - w.estimate ∨ p.tolerance < w.estimate - m then m else w.estimate := by
    cases w.known with
    | false => exact (if_pos (Or.inl rfl)).symm
    | true => exact (if_neg (by decide)).trans (if_congr (or_iff_right (show ¬ true = false by decide)).symm rfl rfl)
  rw [Water.probeAt, hestimate]

theorem State.takesWater_deposit (v : Nat) (b : Bool) : s.TakesWater (.deposit v b)
    (if s.water.kind == some .tank then { s.water with
      estimate := min (s.water.estimate + v) (s.param 75 1), certain := s.water.certain && !b } else s.water)
    (s.water.kind == some .tank) none := by
  have hexec := exec_deposit hheld v b
  by_cases hk : s.water.kind = some .tank
  · rw [if_pos hk] at hexec
    rw [beq_iff_eq.2 hk]
    exact .of_event hexec rfl rfl rfl nofun (fun _ => rfl) nofun nofun
  · rw [if_neg hk] at hexec
    rw [beq_eq_false_iff_ne.2 hk]
    exact .of_report hexec rfl nofun (fun _ => rfl) nofun nofun

theorem State.takesWater_removal (v : Nat) (b : Bool) : s.TakesWater (.removal v b)
    (if s.water.kind == some .tank then { s.water with
      estimate := s.water.estimate - v, certain := s.water.certain && !b } else s.water)
    (s.water.kind == some .tank) none := by
  have hexec := exec_removal hheld v b
  by_cases hk : s.water.kind = some .tank
  · rw [if_pos hk] at hexec
    rw [beq_iff_eq.2 hk]
    exact .of_event hexec rfl rfl rfl nofun (fun _ => rfl) nofun nofun
  · rw [if_neg hk] at hexec
    rw [beq_eq_false_iff_ne.2 hk]
    exact .of_report hexec rfl nofun (fun _ => rfl) nofun nofun

theorem State.takesWater_uncertain : s.TakesWater .uncertain
    (if s.water.kind = some .drain then s.water else { s.water with certain := false })
    (s.water.kind != some .drain) none := by
  have hexec := exec_uncertain hheld
  by_cases hk : s.water.kind = some .drain
  · rw [if_pos hk] at hexec ⊢
    rw [bne, beq_iff_eq.2 hk]
    exact .of_report hexec rfl nofun (fun _ => rfl) nofun nofun
  · rw [if_neg hk] at hexec ⊢
    rw [bne, beq_eq_false_iff_ne.2 hk]
    exact .of_event hexec rfl rfl rfl nofun (fun _ => rfl) nofun nofun

theorem State.takesWater_noLevel : s.TakesWater (.tankLevel none)
    (if s.water.kind == some .tank then { s.water with certain := false } else s.water)
    (s.water.kind == some .tank) none := by
  have hexec := exec_tankLevel_none hheld
  by_cases hk : s.water.kind = some .tank
  · rw [if_pos hk] at hexec
    rw [beq_iff_eq.2 hk]
    exact .of_event hexec rfl rfl rfl nofun (fun _ => rfl) nofun nofun
  · rw [if_neg hk] at hexec
    rw [beq_eq_false_iff_ne.2 hk]
    exact .of_report hexec rfl nofun (fun _ => rfl) nofun nofun

/-- R111: a probe sample of a tank that is in. -/
theorem State.takesWater_level (l : Fin 16) (q : Quality) : s.TakesWater (.tankLevel (some (l, q)))
    (if (s.water.kind == some .tank) = true ∧ s.water.removed = false then { s.water with
      estimate := (if s.water.known = false ∨ s.param 75 5 < s.param 75 (8 + l.val) - s.water.estimate ∨
        s.param 75 5 < s.water.estimate - s.param 75 (8 + l.val) then s.param 75 (8 + l.val) else s.water.estimate)
      known := true, certain := true, probe := some l.val } else s.water)
    (s.water.kind == some .tank && !s.water.removed) (some l.val) := by
  have hexec := exec_tankLevel_some hheld l q
  have hlevel : ∀ l' q', Instr.tankLevel (some (l, q)) = .tankLevel (some (l', q')) → some l.val = some l'.val := by
    intro l' q' h
    cases h
    rfl
  have hnone : (∀ x, Instr.tankLevel (some (l, q)) ≠ .tankLevel (some x)) → some l.val = none := fun h => absurd rfl (h (l, q))
  by_cases hk : s.water.kind = some .tank ∧ s.water.removed = false
  · obtain ⟨hkind, hin⟩ := hk
    have hcond : s.water.kind = some .tank ∧ (!s.water.removed) = true := ⟨hkind, by rw [hin]; rfl⟩
    rw [if_pos hcond] at hexec
    rw [if_pos ⟨beq_iff_eq.2 hkind, hin⟩, beq_iff_eq.2 hkind, hin]
    exact .of_event hexec (s.water.probeAt_eq s.tankPage (s.probeMap l.val) l.val).symm rfl rfl hlevel hnone nofun nofun
  · have hcond : ¬ (s.water.kind = some .tank ∧ (!s.water.removed) = true) := fun h => hk ⟨h.1, by simpa using h.2⟩
    rw [if_neg hcond] at hexec
    have hno : ¬ ((s.water.kind == some .tank) = true ∧ s.water.removed = false) := fun h => hk ⟨beq_iff_eq.1 h.1, h.2⟩
    have happly : (s.water.kind == some .tank && !s.water.removed) = false :=
      Bool.eq_false_iff.2 fun h => hcond (by simpa using h)
    rw [if_neg hno, happly]
    exact .of_report hexec rfl hlevel hnone nofun nofun

theorem State.takesWater_out : s.TakesWater .tankOut
    (if s.water.kind == some .tank then { s.water with removed := true } else s.water)
    (s.water.kind == some .tank && !s.water.removed) none := by
  have hexec := exec_tankOut hheld
  by_cases hk : s.water.kind = some .tank
  · rw [beq_iff_eq.2 hk]
    cases hin : s.water.removed with
    | false =>
      rw [if_pos ⟨hk, by rw [hin]; rfl⟩] at hexec
      exact .of_event hexec rfl rfl rfl nofun (fun _ => rfl) nofun nofun
    | true =>
      rw [if_neg fun h => by simp [hin] at h] at hexec
      have hsame : ({ s.water with removed := true } : Water) = s.water := by rw [← hin]
      exact .of_report hexec hsame nofun (fun _ => rfl) nofun nofun
  · rw [if_neg fun h => hk h.1] at hexec
    rw [beq_eq_false_iff_ne.2 hk]
    exact .of_report hexec rfl nofun (fun _ => rfl) nofun nofun

theorem State.takesWater_in : s.TakesWater .tankIn
    (if s.water.kind == some .tank then { s.water with
      removed := false, estimate := 0, known := false, probe := none, certain := false } else s.water)
    (s.water.kind == some .tank) none := by
  have hexec := exec_tankIn hheld
  by_cases hk : s.water.kind = some .tank
  · rw [if_pos hk] at hexec
    rw [beq_iff_eq.2 hk]
    exact .of_event hexec rfl rfl rfl nofun (fun _ => rfl) nofun nofun
  · rw [if_neg hk] at hexec
    rw [beq_eq_false_iff_ne.2 hk]
    exact .of_report hexec rfl nofun (fun _ => rfl) nofun nofun

theorem State.takesWater_aborted (a : AbortReason) :
    s.TakesWater (.pumpOutOutcome (.aborted a)) { s.water with certain := false } true none :=
  .of_event (f := fun w => { w with certain := false }) (exec_pumpOutOutcome hheld (.aborted a)) rfl rfl rfl nofun (fun _ => rfl) nofun nofun

/-- R118, R119: an outcome that is no abort is reported; NO-FLOW sets the latch. -/
theorem State.takesWater_outcome {o : CycleOutcome} (ho : ∀ a, o ≠ .aborted a) : s.TakesWater (.pumpOutOutcome o)
    (if o = .failed .noFlow then { s.water with pumpFault := true } else s.water) false none := by
  have hexec := exec_pumpOutOutcome hheld o
  by_cases hflow : o = .failed .noFlow
  · rw [if_pos hflow]
    subst hflow
    cases hfault : s.water.pumpFault with
    | true =>
      have hlatch : (s.took (.pumpOutOutcome (.failed .noFlow))).latchPumpFault = s.took (.pumpOutOutcome (.failed .noFlow)) :=
        if_pos hfault
      have hsame : ({ s.water with pumpFault := true } : Water) = s.water := by rw [← hfault]
      rw [State.takePumpOutcome, hlatch] at hexec
      exact .of_report hexec hsame nofun (fun _ => rfl) (fun _ => rfl) nofun
    | false =>
      refine ⟨?_, rfl, nofun, fun _ => rfl, fun _ => ⟨rfl, rfl⟩, nofun⟩
      have hlatch : (s.took (.pumpOutOutcome (.failed .noFlow))).latchPumpFault =
          ((s.took (.pumpOutOutcome (.failed .noFlow))).setWater { s.water with pumpFault := true }).post
            [.inhibitClaim .pump, .conditionPost .pumpFault true] := if_neg (by simp [hfault])
      have hmore (x : TankState) : s.waterMore (.pumpOutOutcome (.failed .noFlow)) { s.water with pumpFault := true } x =
          [.inhibitClaim .pump, .conditionPost .pumpFault true] := by
        have hne : Instr.pumpOutOutcome (.failed .noFlow) ≠ .waterSwapTaken := nofun
        rw [State.waterMore, State.newlyFitted_other hne, if_neg Bool.false_ne_true]
        exact if_neg (by simp [hfault])
      rw [hexec, State.takePumpOutcome, hlatch, hmore]
      rfl
  · rw [if_neg hflow]
    have hreport : (s.took (.pumpOutOutcome o)).takePumpOutcome o = (s.took (.pumpOutOutcome o)).reportOnly none := by
      cases o with
      | failed r =>
        cases r with
        | noFlow => exact absurd rfl hflow
        | airflow => rfl
        | noData => rfl
      | aborted a => exact absurd rfl (ho a)
      | _ => rfl
    rw [hreport] at hexec
    exact .of_report hexec rfl nofun (fun _ => rfl) (fun h => absurd (Instr.pumpOutOutcome.inj h) hflow) nofun

end commands

end Sys2Proof.Machine
end

section
/-! The Tank Record takes its events, and the tank state follows the record (R109–R120). -/

namespace Sys2Proof.Machine
open State

variable {s : State}

/-! ### The swap (R120) -/

/-- R120: the record a swap leaves, before the state is evaluated. -/
def State.swappedWater (s : State) : Water := { s.water.swapKind s.tankPage s.pageKind with fitted := s.pumpFitted }

theorem Water.swapKind_keeps (p : TankPage) (k : Option TankKind) (w : Water) :
    (w.swapKind p k).state = w.state ∧ (w.swapKind p k).pumpFault = w.pumpFault := by
  unfold Water.swapKind
  split <;> exact ⟨rfl, rfl⟩

/-- R116: the request of a pump that is fitted. -/
theorem State.pumpOutPost_eq (x : TankState) : s.pumpOutPost x =
    if s.pumpFitted then (if TankState.wantsPump x && !s.water.pumpFault then [.cycleRequest .pumpOut] else []) else [] := by
  rw [State.pumpOutPost]
  cases s.pumpFitted
  · rw [Bool.and_false, Bool.false_and]
    rfl
  · rw [Bool.and_true, if_pos rfl]

theorem State.waterMore_swap {w : Water} (hfault : w.pumpFault = s.water.pumpFault) (x : TankState) :
    s.waterMore .waterSwapTaken w x = if !s.water.fitted && s.pumpFitted then (s.setWater w).pumpOutPost x else [] := by
  have hnewly : s.newlyFitted .waterSwapTaken = (!s.water.fitted && s.pumpFitted) := by
    rw [State.newlyFitted, beq_self_eq_true, Bool.true_and]
  rw [State.waterMore, hnewly, if_pos hfault]
  split
  · next h =>
    have hfit : (s.setWater w).pumpFitted = true := (Bool.and_eq_true_iff.1 h).2
    have hsame : (s.setWater w).water.pumpFault = s.water.pumpFault := hfault
    rw [State.pumpOutPost_eq, if_pos hfit, hsame]
  · rfl

/-- R117: a record taken with its posts, more posts behind them, and the report. -/
theorem State.reportOnly_posted (u : State) (x : Water) (ps more : List Instr) (probe : Option Nat) :
    (((u.setWater x).setPosts (u.posts ++ ps)).post more).reportOnly probe = u.reported x (ps ++ more) probe := by
  rw [State.reported, ← List.append_assoc]
  rfl

theorem State.takesWater_swap (hheld : s.held = false) : s.TakesWater .waterSwapTaken s.swappedWater true none where
  exec_eq := by
    have hkeeps := s.water.swapKind_keeps s.tankPage s.pageKind
    have hfault : s.swappedWater.pumpFault = s.water.pumpFault := hkeeps.2
    obtain ⟨v, hv⟩ : ∃ v, v = ((s.took .waterSwapTaken).setWater s.swappedWater).evalTank := ⟨_, rfl⟩
    have hswap : (s.took .waterSwapTaken).waterSwap =
        (v.post (if !s.water.fitted && v.pumpFitted then v.pumpOutPost v.water.state else [])).reportOnly none := by
      have hnone : v.post [] = v := by
        rw [State.post, List.append_nil]
        rfl
      have hif : (s.took .waterSwapTaken).waterSwap =
          (if !s.water.fitted && v.pumpFitted then v.post (v.pumpOutPost v.water.state) else v).reportOnly none := by
        rw [hv]
        rfl
      rw [hif]
      split
      · rfl
      · rw [hnone]
    have heval : v = ((s.took .waterSwapTaken).setWater (s.evaluated s.swappedWater)).setPosts
        ((s.took .waterSwapTaken).posts ++ s.waterNews s.swappedWater) :=
      hv.trans (State.evalTank_eq ((s.took .waterSwapTaken).setWater s.swappedWater))
    have hwater : v.water = s.evaluated s.swappedWater := by rw [heval]; rfl
    have hfit : v.pumpFitted = s.pumpFitted := by rw [heval]; rfl
    have hpost (x : TankState) : v.pumpOutPost x = (s.setWater s.swappedWater).pumpOutPost x := by
      rw [heval]
      rfl
    rw [exec_waterSwapTaken hheld, hswap, State.waterMore_swap hfault, hfit, hwater, hpost, heval]
    exact congrArg _ (State.reportOnly_posted _ _ _ _ _)
  state := (s.water.swapKind_keeps s.tankPage s.pageKind).1
  level := nofun
  noLevel _ := rfl
  noFlow := nofun
  swap _ := rfl

/-! ### The evaluation and its posts (R114, R115) -/

theorem Water.evaluate_tank (p : TankPage) {w : Water} (hf : w.float = false) (hk : w.kind = some .tank) : w.evaluate p =
    if w.removed then .out else if !w.known then .unknown
    else if p.full ≤ w.estimate + (if w.certain then 0 else p.margin) then .full
    else if p.near ≤ w.estimate + (if w.certain then 0 else p.margin) then .near else .normal := by
  rw [Water.evaluate, hk]
  exact if_neg (by simp [hf])

theorem tankInhibitPost_claims {old new : TankState} (h : claimsTank new = true) (h' : claimsTank old = false) :
    tankInhibitPost old new = [.inhibitClaim .tank] := by
  rw [tankInhibitPost, h, h']
  rfl

theorem tankInhibitPost_releases {old new : TankState} (h : claimsTank new = false) (h' : claimsTank old = true) :
    tankInhibitPost old new = [.inhibitRelease .tank] := by
  rw [tankInhibitPost, h, h']
  rfl

theorem tankCondition_mem {c : Condition} {x old new : TankState} (hne : new ≠ old) (h : new = x ∨ old = x) :
    .conditionPost c (decide (new = x)) ∈ tankCondition c x old new := by
  have hchange : ¬ (old = x) = (new = x) := by
    intro he
    have hiff := iff_of_eq he
    obtain h | h := h
    · exact hne (h.trans (hiff.2 h).symm)
    · exact hne ((hiff.1 h).trans h.symm)
  rw [tankCondition, if_neg hchange]
  exact List.mem_singleton_self _

theorem wantsPump_iff (x : TankState) : TankState.wantsPump x = true ↔ x = .near ∨ x = .full := by
  cases x <;> simp [TankState.wantsPump]

/-- R115, R116: what a change of the tank state posts. -/
structure State.TankNews (s t : State) : Prop where
  claims : claimsTank t.water.state = true → claimsTank s.water.state = false → .inhibitClaim .tank ∈ t.posts
  releases : claimsTank t.water.state = false → claimsTank s.water.state = true → .inhibitRelease .tank ∈ t.posts
  near : t.water.state = .near ∨ s.water.state = .near → .conditionPost .tankNear (decide (t.water.state = .near)) ∈ t.posts
  full : t.water.state = .full ∨ s.water.state = .full → .conditionPost .tankFull (decide (t.water.state = .full)) ∈ t.posts
  out : t.water.state = .out ∨ s.water.state = .out → .conditionPost .tankOut (decide (t.water.state = .out)) ∈ t.posts
  pump : t.water.state = .near ∨ t.water.state = .full → s.pumpFitted = true → t.water.pumpFault = false →
    .cycleRequest .pumpOut ∈ t.posts

theorem State.tankNews_of_waterNews {t u : State} {w : Water} (hwater : t.water = u.evaluated w)
    (hposts : u.waterNews w ⊆ t.posts) (hstate : w.state = s.water.state) (hfit : u.pumpFitted = s.pumpFitted)
    (hne : t.water.state ≠ s.water.state) : s.TankNews t := by
  have hnew : t.water.state = w.evaluate u.tankPage := by rw [hwater]; rfl
  rw [← hstate] at hne
  have hnews : u.waterNews w = tankInhibitPost w.state t.water.state ++ tankCondition .tankNear .near w.state t.water.state ++
      tankCondition .tankFull .full w.state t.water.state ++ tankCondition .tankOut .out w.state t.water.state ++
      (u.setWater w).pumpOutPost t.water.state := by
    rw [hnew] at hne ⊢
    exact if_neg hne
  have hmem {e : Instr} (he : e ∈ tankInhibitPost w.state t.water.state ++ tankCondition .tankNear .near w.state t.water.state ++
      tankCondition .tankFull .full w.state t.water.state ++ tankCondition .tankOut .out w.state t.water.state ++
      (u.setWater w).pumpOutPost t.water.state) : e ∈ t.posts := hposts (hnews ▸ he)
  simp only [List.mem_append] at hmem
  refine ⟨fun h h' => hmem ?_, fun h h' => hmem ?_, fun h => hmem ?_, fun h => hmem ?_, fun h => hmem ?_, fun h hp hf => hmem ?_⟩
  · rw [← hstate] at h'
    simp [tankInhibitPost_claims h h']
  · rw [← hstate] at h'
    simp [tankInhibitPost_releases h h']
  · rw [← hstate] at h
    exact .inl (.inl (.inl (.inr (tankCondition_mem hne h))))
  · rw [← hstate] at h
    exact .inl (.inl (.inr (tankCondition_mem hne h)))
  · rw [← hstate] at h
    exact .inl (.inr (tankCondition_mem hne h))
  · have hfitted : (u.setWater w).pumpFitted = true := hfit.trans hp
    have hclear : (u.setWater w).water.pumpFault = false := by
      rw [hwater] at hf
      exact hf
    refine .inr ?_
    rw [State.pumpOutPost_eq, if_pos hfitted, (wantsPump_iff _).2 h, hclear]
    exact List.mem_singleton_self _

/-- R114, R115: an event that takes a record, with the news of a changed state. -/
theorem State.TakesWater.news {c : Instr} {w : Water} {applies : Bool} {probe : Option Nat}
    (h : s.TakesWater c w applies probe) : ∃ t, exec c s = .next t ∧ (t.water.state ≠ s.water.state → s.TankNews t) := by
  refine ⟨_, h.exec_eq, fun hne => ?_⟩
  cases applies with
  | false => exact absurd h.state hne
  | true =>
    refine State.tankNews_of_waterNews (u := s) (w := w) rfl (fun e he => ?_) h.state rfl hne
    exact List.mem_append_left _ (List.mem_append_right _ (List.mem_append_left _ he))

/-- R112, R115: a change of the FLOAT line, with the news of a changed state. -/
theorem exec_floatLineChange_news (b : Bool) (hheld : s.held = false) :
    ∃ t, exec (.floatLineChange b) s = .next t ∧ (t.water.state ≠ s.water.state → s.TankNews t) := by
  refine ⟨_, exec_floatLineChange s b hheld, fun hne => ?_⟩
  obtain ⟨u, hu⟩ : ∃ u, u = (s.setLines { s.lines with float := b }).took (.floatLineChange b) := ⟨_, rfl⟩
  rw [← hu] at hne ⊢
  have huwater : u.water = s.water := by rw [hu]; rfl
  rw [State.takeFloat] at hne ⊢
  split at hne
  · exact absurd (congrArg Water.state huwater) hne
  · next hdiff =>
    rw [if_neg hdiff]
    rw [State.waterEvent_reported] at hne ⊢
    refine State.tankNews_of_waterNews (u := u) rfl (fun e he => ?_) (congrArg Water.state huwater :) (by rw [hu]; rfl) hne
    exact List.mem_append_left _ (List.mem_append_right _ he)

theorem State.takesWater_outcome_any (hheld : s.held = false) (o : CycleOutcome) :
    ∃ w applies probe, s.TakesWater (.pumpOutOutcome o) w applies probe := by
  cases o with
  | aborted a => exact ⟨_, _, _, State.takesWater_aborted hheld a⟩
  | none => exact ⟨_, _, _, State.takesWater_outcome hheld nofun⟩
  | done => exact ⟨_, _, _, State.takesWater_outcome hheld nofun⟩
  | doneTimed => exact ⟨_, _, _, State.takesWater_outcome hheld nofun⟩
  | cancelled => exact ⟨_, _, _, State.takesWater_outcome hheld nofun⟩
  | failed r => exact ⟨_, _, _, State.takesWater_outcome hheld nofun⟩

theorem claimsTank_iff (x : TankState) : claimsTank x = true ↔ x = .full ∨ x = .unknown ∨ x = .out := by
  cases x <;> simp [claimsTank]

/-- Settles O37: the evaluation by the record's fields, and its posts at each event. -/
theorem tankStateFollowsTheRecord : Obligations.TankStateFollowsTheRecord := by
  refine ⟨?_, claimsTank_iff, fun c s hheld hc => ?_⟩
  · rintro p w margin rfl
    refine ⟨w.evaluate_of_float p, fun hf hk => ?_, fun hf hk => ?_⟩
    · rw [Water.evaluate, hk]
      exact if_neg (by simp [hf])
    · rw [Water.evaluate_tank p hf hk]
      refine ⟨fun hr => if_pos hr, fun hr hn => ?_, fun hr hn => ⟨fun h => ?_, fun h h' => ?_, fun h h' => ?_⟩⟩
      · rw [if_neg (by simp [hr]), if_pos (by simp [hn])]
      all_goals rw [if_neg (by simp [hr]), if_neg (by simp [hn])]
      · exact if_pos h
      · exact (if_neg (Nat.not_le.2 h)).trans (if_pos h')
      · exact (if_neg (Nat.not_le.2 h)).trans (if_neg (Nat.not_le.2 h'))
  · have hnews : ∃ t, exec c s = .next t ∧ (t.water.state ≠ s.water.state → s.TankNews t) := by
      obtain ⟨v, b, rfl⟩ | ⟨v, b, rfl⟩ | rfl | ⟨x, rfl⟩ | rfl | rfl | ⟨o, rfl⟩ | rfl | ⟨b, rfl⟩ := hc
      · exact (State.takesWater_deposit hheld v b).news
      · exact (State.takesWater_removal hheld v b).news
      · exact (State.takesWater_uncertain hheld).news
      · obtain _ | ⟨l, q⟩ := x
        · exact (State.takesWater_noLevel hheld).news
        · exact (State.takesWater_level hheld l q).news
      · exact (State.takesWater_out hheld).news
      · exact (State.takesWater_in hheld).news
      · obtain ⟨w, applies, probe, h⟩ := State.takesWater_outcome_any hheld o
        exact h.news
      · exact (State.takesWater_swap hheld).news
      · exact exec_floatLineChange_news b hheld
    obtain ⟨t, hexec, hnews⟩ := hnews
    refine ⟨t, hexec, fun hne => ?_⟩
    obtain ⟨h1, h2, h3, h4, h5, h6⟩ := hnews hne
    exact ⟨h1, h2, h3, h4, h5, h6⟩

end Sys2Proof.Machine
end

section
/-! Each water event leaves its record, its posts and its report (R109–R120). -/

namespace Sys2Proof.Machine
open State

variable {s : State}

/-! ### The four swaps (R120) -/

section kinds
variable (p : TankPage) {w : Water}

theorem Water.swapKind_tank (hk : w.kind = some .tank) :
    w.swapKind p (some .tank) = { w with estimate := min w.estimate p.capacity } := by
  obtain ⟨kind⟩ := w
  obtain rfl : kind = some .tank := hk
  rfl

theorem Water.swapKind_toTank (hk : w.kind ≠ some .tank) : w.swapKind p (some .tank) = { w with
    kind := some .tank, estimate := 0, known := false, certain := false, probe := none, removed := false } := by
  obtain ⟨kind⟩ := w
  match kind with
  | none => rfl
  | some .drain => rfl
  | some .tank => exact absurd rfl hk

theorem Water.swapKind_toDrain (hk : w.kind ≠ some .drain) : w.swapKind p (some .drain) = { w with
    kind := some .drain, estimate := 0, certain := true, probe := none, removed := false } := by
  obtain ⟨kind⟩ := w
  match kind with
  | none => rfl
  | some .drain => exact absurd rfl hk
  | some .tank => rfl

theorem Water.swapKind_drain (hk : w.kind = some .drain) : w.swapKind p (some .drain) = w := by
  obtain ⟨kind⟩ := w
  obtain rfl : kind = some .drain := hk
  rfl

end kinds

theorem State.swappedWater_tank (hk : s.water.kind = some .tank) (hp : s.pageKind = some .tank) : s.swappedWater =
    { s.water with estimate := min s.water.estimate (s.param 75 1), fitted := s.pumpFitted } := by
  rw [State.swappedWater, hp, Water.swapKind_tank _ hk]
  rfl

theorem State.swappedWater_toTank (hk : s.water.kind ≠ some .tank) (hp : s.pageKind = some .tank) : s.swappedWater =
    { s.water with
      kind := some .tank, estimate := 0, known := false, certain := false, probe := none, removed := false,
      fitted := s.pumpFitted } := by
  rw [State.swappedWater, hp, Water.swapKind_toTank _ hk]

theorem State.swappedWater_toDrain (hk : s.water.kind ≠ some .drain) (hp : s.pageKind = some .drain) : s.swappedWater =
    { s.water with
      kind := some .drain, estimate := 0, certain := true, probe := none, removed := false, fitted := s.pumpFitted } := by
  rw [State.swappedWater, hp, Water.swapKind_toDrain _ hk]

theorem State.swappedWater_drain (hk : s.water.kind = some .drain) (hp : s.pageKind = some .drain) : s.swappedWater =
    { s.water with fitted := s.pumpFitted } := by
  rw [State.swappedWater, hp, Water.swapKind_drain _ hk]

/-! ### What a taken event shows -/

section taken
variable {c : Instr} {w : Water} {applies : Bool} {probe : Option Nat}

/-- R117: the report of a record. -/
def State.reportOf (s : State) (x : Water) (probe : Option Nat) : TankReport where
  state := x.state
  estimate := x.estimate
  known := x.known
  certain := x.certain
  probe := probe
  empty := (probe == some 0 && x.kind == some .tank) || (x.state == .normal && decide (x.estimate ≤ s.tankPage.empty))

theorem State.reportOf_empty (x : Water) : (s.reportOf x probe).empty = true ↔
    (probe = some 0 ∧ x.kind = some .tank) ∨ (x.state = .normal ∧ x.estimate ≤ s.param 75 2) := by
  simp only [State.reportOf, Bool.or_eq_true, Bool.and_eq_true, beq_iff_eq, decide_eq_true_eq]
  rfl

/-- R117: a sample of level 0 is a probe level of 0. -/
theorem State.TakesWater.probe_zero (h : s.TakesWater c w applies probe) :
    probe = some 0 ↔ ∃ q, c = .tankLevel (some (0, q)) := by
  constructor
  · intro hp
    by_cases hc : ∃ x, c = .tankLevel (some x)
    · obtain ⟨⟨l, q⟩, rfl⟩ := hc
      have hl : l.val = 0 := Option.some.inj ((h.level l q rfl).symm.trans hp)
      obtain rfl : l = 0 := Fin.ext hl
      exact ⟨q, rfl⟩
    · have hnone := h.noLevel fun x hx => hc ⟨x, hx⟩
      rw [hnone] at hp
      cases hp
  · rintro ⟨q, rfl⟩
    exact h.level 0 q rfl

theorem State.waterLeft_record (w : Water) (applies : Bool) : { s.waterLeft w applies with state := w.state } = w := by
  cases applies <;> rfl

theorem State.waterLeft_fault (w : Water) (applies : Bool) : (s.waterLeft w applies).pumpFault = w.pumpFault := by
  cases applies <;> rfl

/-- R115: an event that leaves the state as it was has no news of it. -/
theorem State.waterNews_unchanged (h : (s.waterLeft w applies).state = w.state) :
    (if applies then s.waterNews w else []) = [] := by
  cases applies with
  | false => rfl
  | true => exact s.waterNews_same h

/-- R119: the posts of NO-FLOW as it sets the latch. -/
theorem State.TakesWater.noFlow_posts (h : s.TakesWater c w applies probe) (hc : c = .pumpOutOutcome (.failed .noFlow))
    (hfault : s.water.pumpFault = false) :
    (if applies then s.waterNews w else []) ++ s.waterMore c w (s.waterLeft w applies).state =
      [.inhibitClaim .pump, .conditionPost .pumpFault true] := by
  obtain ⟨happly, hw⟩ := h.noFlow hc
  have hne : c ≠ .waterSwapTaken := by
    rw [hc]
    nofun
  rw [happly, if_neg Bool.false_ne_true, State.waterMore, State.newlyFitted_other hne, if_neg Bool.false_ne_true, hw, hfault]
  rfl

/-- R120: the request for a pump newly fitted. -/
theorem State.waterMore_newly {x : TankState} (hnew : s.newlyFitted c = true) (hx : x = .near ∨ x = .full)
    (hfault : s.water.pumpFault = false) : s.waterMore c w x = [.cycleRequest .pumpOut] := by
  rw [State.waterMore, if_pos hnew, (wantsPump_iff x).2 hx, hfault]
  rfl

theorem State.waterMore_idle {x : TankState} (hw : w.pumpFault = s.water.pumpFault)
    (h : s.newlyFitted c = false ∨ s.water.pumpFault = true ∨ x ≠ .near ∧ x ≠ .full) : s.waterMore c w x = [] := by
  rw [State.waterMore, if_pos hw]
  split
  · next hnew =>
    refine if_neg fun hall => ?_
    rw [Bool.and_eq_true, wantsPump_iff, Bool.not_eq_true'] at hall
    obtain h | h | ⟨h, h'⟩ := h
    · rw [hnew] at h
      cases h
    · rw [hall.2] at h
      cases h
    · exact hall.1.elim h h'
  · rfl

end taken

/-- Settles O36: each event is a record taken, its state evaluated where the event applies. -/
theorem tankRecordTakesItsEvents : Obligations.TankRecordTakesItsEvents := by
  intro s c w applies isTank hheld hTank h
  subst hTank
  obtain ⟨probe, h⟩ : ∃ probe, s.TakesWater c w applies probe := by
    obtain ⟨v, b, rfl, rfl, rfl⟩ | ⟨v, b, rfl, rfl, rfl⟩ | ⟨rfl, rfl, rfl⟩ | ⟨rfl, rfl, rfl⟩ | ⟨l, q, rfl, rfl, rfl⟩ |
      ⟨rfl, rfl, rfl⟩ | ⟨rfl, rfl, rfl⟩ | ⟨a, rfl, rfl, rfl⟩ | ⟨o, rfl, ho, rfl, rfl⟩ | ⟨rfl, rfl, hk, hp, rfl⟩ |
      ⟨rfl, rfl, hk, hp, rfl⟩ | ⟨rfl, rfl, hk, hp, rfl⟩ | ⟨rfl, rfl, hk, hp, rfl⟩ := h
    · exact ⟨_, State.takesWater_deposit hheld v b⟩
    · exact ⟨_, State.takesWater_removal hheld v b⟩
    · exact ⟨_, State.takesWater_uncertain hheld⟩
    · exact ⟨_, State.takesWater_noLevel hheld⟩
    · exact ⟨_, State.takesWater_level hheld l q⟩
    · exact ⟨_, State.takesWater_out hheld⟩
    · exact ⟨_, State.takesWater_in hheld⟩
    · exact ⟨_, State.takesWater_aborted hheld a⟩
    · exact ⟨_, State.takesWater_outcome hheld ho⟩
    · exact ⟨_, State.swappedWater_tank hk hp ▸ State.takesWater_swap hheld⟩
    · exact ⟨_, State.swappedWater_toTank hk hp ▸ State.takesWater_swap hheld⟩
    · exact ⟨_, State.swappedWater_toDrain hk hp ▸ State.takesWater_swap hheld⟩
    · exact ⟨_, State.swappedWater_drain hk hp ▸ State.takesWater_swap hheld⟩
  obtain ⟨x, hx⟩ : ∃ x, x = s.waterLeft w applies := ⟨_, rfl⟩
  obtain ⟨ps, hps⟩ : ∃ ps, ps = (if applies then s.waterNews w else []) ++ s.waterMore c w x.state := ⟨_, rfl⟩
  have hexec := h.exec_eq
  rw [← hx, ← hps] at hexec
  have hnews (hsame : x.state = s.water.state) : (if applies then s.waterNews w else []) = [] :=
    State.waterNews_unchanged (hx ▸ hsame.trans h.state.symm)
  have hposts {qs : List Instr} (hqs : ps = qs) : ((s.took c).reported x ps probe).posts =
      s.posts.erase c ++ qs ++ [.tankReport (s.reportOf x probe)] := by
    rw [hqs]
    rfl
  refine ⟨_, s.reportOf x probe, hexec, ?_, fun ha => ?_, fun ha => ?_, List.getLast?_concat, rfl, rfl, rfl, rfl, h.level,
    h.noLevel, ?_, fun hc hf => ?_, fun newly hnewly => ⟨fun hnew hnear hf => ⟨?_, fun hsame => ?_⟩, fun hsame hfault hidle => ?_⟩,
    rfl⟩
  · show { x with state := w.state } = w
    rw [hx]
    exact State.waterLeft_record w applies
  · show x.state = _
    rw [hx, ha]
    rfl
  · show x.state = _
    rw [hx, ha]
    exact h.state
  · rw [State.reportOf_empty, h.probe_zero]
    rfl
  · rw [hx] at hps
    exact (hposts (hps.trans (h.noFlow_posts hc hf))).trans (List.append_assoc _ _ _)
  · have hmore : s.waterMore c w x.state = [.cycleRequest .pumpOut] :=
      State.waterMore_newly (hnewly.symm.trans hnew) hnear hf
    refine List.mem_append_left _ (List.mem_append_right _ ?_)
    rw [hps, hmore]
    exact List.mem_append_right _ (List.mem_singleton_self _)
  · have hmore : s.waterMore c w x.state = [.cycleRequest .pumpOut] :=
      State.waterMore_newly (hnewly.symm.trans hnew) hnear hf
    rw [hnews hsame, hmore] at hps
    exact (hposts hps).trans (List.append_assoc _ _ _)
  · have hw : w.pumpFault = s.water.pumpFault := by
      rw [← hfault]
      show _ = x.pumpFault
      rw [hx]
      exact (State.waterLeft_fault w applies).symm
    have hmore : s.waterMore c w x.state = [] := State.waterMore_idle hw (hidle.imp_left fun h => hnewly.symm.trans h)
    rw [hnews hsame, hmore] at hps
    exact (hposts hps).trans (congrArg (· ++ _) (List.append_nil _))

end Sys2Proof.Machine
end

section
/-! What the engine runs when it is free (R127, R128, R132), and how a running cycle's end shows (R134, R136). -/

namespace Sys2Proof.Machine
open State

variable (s : State)

/-! ### An instance that runs (R127, R128, R132) -/

/-- R128, R132: the instance as it runs: its plan read, a REGEN held where the tank holds it. -/
def State.runAs (s : State) (c : Cycle) : Cycle :=
  { c with
    held := c.held || c.kind == .regen && s.cycles.tankHold
    active := c.active || c.kind == .regen && !s.cycles.tankHold
    plan := s.planOf c.step }

theorem State.run_cycles (fresh : Bool) (c : Cycle) :
    (s.run fresh c).cycles = { s.cycles with running := some (s.runAs c) } := by
  have hplain (h : c.kind ≠ .regen) : s.runAs c = { c with plan := s.planOf c.step } := by
    rw [State.runAs, beq_eq_false_iff_ne.2 h, Bool.false_and, Bool.false_and, Bool.or_false, Bool.or_false]
  unfold State.run
  split
  · next hk =>
    have hregen : s.runAs c = { c with
        held := c.held || s.cycles.tankHold, active := c.active || !s.cycles.tankHold, plan := s.planOf c.step } := by
      rw [State.runAs, beq_iff_eq.2 hk, Bool.true_and, Bool.true_and]
    rw [hregen]
    split
    · next ht =>
      rw [ht, Bool.or_true, Bool.not_true, Bool.or_false]
      rfl
    · next ht =>
      rw [Bool.eq_false_iff.2 ht, Bool.or_false, Bool.not_false, Bool.or_true]
      rfl
  · next hk =>
    rw [hplain hk]
    split <;> rfl

/-- R128, R132: the plan an instance posts as it runs. -/
def State.postedPlan (s : State) (c : Cycle) : List Claim :=
  if c.kind == .regen && s.cycles.tankHold then [] else s.planOf c.step

theorem State.run_plan (fresh : Bool) (c : Cycle) : .cyclePlan c.kind (s.postedPlan c) ∈ (s.run fresh c).posts := by
  unfold State.run
  split
  · next hk =>
    split
    · next ht =>
      have hplan : s.postedPlan c = [] := if_pos (by simp [hk, ht])
      rw [hplan, hk]
      exact List.mem_append_right _ (List.mem_singleton_self _)
    · next ht =>
      have hplan : s.postedPlan c = s.planOf c.step := if_neg (by simp [ht])
      rw [hplan]
      exact List.mem_append_left _ (List.mem_append_right _ (List.mem_singleton_self _))
  · next hk =>
    have hplan : s.postedPlan c = s.planOf c.step := if_neg (by simp [hk])
    rw [hplan]
    split
    · exact List.mem_append_left _ (List.mem_append_right _ (List.mem_singleton_self _))
    · exact List.mem_append_right _ (List.mem_singleton_self _)

theorem State.run_regenActive (fresh : Bool) {c : Cycle} (hk : c.kind = .regen) (ht : s.cycles.tankHold = false) :
    .regenActive ∈ (s.run fresh c).posts := by
  rw [State.run, if_pos hk, if_neg (by simp [ht])]
  exact List.mem_append_right _ (List.mem_singleton_self _)

theorem State.run_regimeSet {c : Cycle} (hk : c.kind = .defrost) : .defrostRegimeSet ∈ (s.run true c).posts := by
  rw [State.run, if_neg (by simp [hk]), if_pos ⟨hk, rfl⟩]
  exact List.mem_append_right _ (List.mem_singleton_self _)

theorem State.run_kind (c : Cycle) : (s.runAs c).kind = c.kind := rfl

/-! ### A pick (R127) -/

section pick
variable {fresh : Bool} {c d : Cycle} {t : State}

theorem State.pick_runs (hfree : s.cycles.running = none) (ht : s.takeHighest = some (fresh, c, t))
    (hl : t.launch fresh c = .runs d) : s.pick = t.run fresh d := by
  simp only [State.pick, hfree, Option.isSome_none, Bool.false_eq_true, if_false, State.pickLoop, ht, State.startPicked, hl,
    if_true]

theorem State.pick_ends {o : CycleOutcome} (hfree : s.cycles.running = none) (ht : s.takeHighest = some (fresh, c, t))
    (hl : t.launch fresh c = .ends d o) (hq : t.cycles.queue = []) (hs : t.cycles.suspended = none) :
    s.pick = t.ended d false o [] := by
  obtain ⟨hq', -, hs'⟩ := t.ended_places d false o []
  have hnone : (t.ended d false o []).takeHighest = none := by
    rw [State.takeHighest, hq', hs', hq, hs]
  have hloop (n : Nat) : (t.ended d false o []).pickLoop n = t.ended d false o [] := by
    cases n with
    | zero => rfl
    | succ n => rw [State.pickLoop, hnone]
  simp only [State.pick, hfree, Option.isSome_none, Bool.false_eq_true, if_false, State.pickLoop, ht, State.startPicked, hl]
  exact hloop _

theorem State.takeHighest_queued {rest : List Cycle} (hq : s.cycles.queue = c :: rest) (hs : s.cycles.suspended = none) :
    s.takeHighest = some (true, c, s.setCycles { s.cycles with queue := rest }) := by
  rw [State.takeHighest, hq, hs]

theorem State.takeHighest_suspended (hq : s.cycles.queue = []) (hs : s.cycles.suspended = some c) :
    s.takeHighest = some (false, c, s.setCycles { s.cycles with suspended := none }) := by
  rw [State.takeHighest, hq, hs]

theorem State.takeHighest_outranked {rest : List Cycle} (hq : s.cycles.queue = c :: rest) (hs : s.cycles.suspended = some d)
    (hrank : outranks d.kind c.kind = false) :
    s.takeHighest = some (true, c, s.setCycles { s.cycles with queue := rest }) := by
  rw [State.takeHighest, hq, hs]
  exact if_neg (by simp [hrank])

/-- R127.1: with the blower-fault latch set nothing but a PUMP-OUT starts. -/
theorem State.launch_fault (hk : c.kind ≠ .pumpOut) (hf : s.inter.fault = true) :
    s.launch fresh c = .ends c (.failed .airflow) := if_pos ⟨hk, hf⟩

theorem State.launch_clear (hf : c.kind = .pumpOut ∨ s.inter.fault = false)
    (hp : c.kind = .profile → (if fresh then s.started c else s.resumed c).profile.fitted.all (· == false) = false) :
    s.launch fresh c = .runs (if fresh then s.started c else s.resumed c) := by
  have hpass : ¬ (c.kind ≠ .pumpOut ∧ s.inter.fault = true) := fun h => by
    obtain hk | hf := hf
    · exact h.1 hk
    · rw [hf] at h
      exact nomatch h.2
  have hfit : ¬ (c.kind = .profile ∧ (if fresh then s.started c else s.resumed c).profile.fitted.all (· == false) = true) :=
    fun h => by
      rw [hp h.1] at h
      exact nomatch h.2
  rw [State.launch, if_neg hpass]
  exact if_neg hfit

end pick

/-! ### The records and kinds a pick keeps -/

section keeps
variable {k : CycleKind}

/-- An instance of the kind is queued or suspended. -/
def CycleEngine.Waits (e : CycleEngine) (k : CycleKind) : Prop :=
  (∃ c ∈ e.queue, c.kind = k) ∨ ∃ c, e.suspended = some c ∧ c.kind = k

/-- R127: the instance picked leaves its place, and the others stay. -/
theorem State.takeHighest_waits {fresh : Bool} {c : Cycle} {t : State} (ht : s.takeHighest = some (fresh, c, t)) :
    s.cycles.Waits c.kind ∧ (∀ k, t.cycles.Waits k → s.cycles.Waits k) ∧
      (∀ k, s.cycles.Waits k → k = c.kind ∨ t.cycles.Waits k) ∧ t.cycles.running = s.cycles.running ∧
      (∀ k, t.cycles.record k = s.cycles.record k) ∧ t.inter = s.inter := by
  have hfromQueue {x : Cycle} {rest : List Cycle} (e : s.cycles.queue = x :: rest) : s.cycles.Waits x.kind ∧
      (∀ k, ({ s.cycles with queue := rest } : CycleEngine).Waits k → s.cycles.Waits k) ∧
      (∀ k, s.cycles.Waits k → k = x.kind ∨ ({ s.cycles with queue := rest } : CycleEngine).Waits k) := by
    refine ⟨.inl ⟨x, by rw [e]; exact List.mem_cons_self, rfl⟩, fun k h => h.imp_left fun ⟨y, hy, hk⟩ =>
      ⟨y, by rw [e]; exact List.mem_cons_of_mem _ hy, hk⟩, fun k h => ?_⟩
    obtain ⟨y, hy, rfl⟩ | h := h
    · rw [e] at hy
      obtain rfl | hy := List.mem_cons.1 hy
      · exact .inl rfl
      · exact .inr (.inl ⟨y, hy, rfl⟩)
    · exact .inr (.inr h)
  have hfromSuspended {x : Cycle} (e : s.cycles.suspended = some x) : s.cycles.Waits x.kind ∧
      (∀ k, ({ s.cycles with suspended := none } : CycleEngine).Waits k → s.cycles.Waits k) ∧
      (∀ k, s.cycles.Waits k → k = x.kind ∨ ({ s.cycles with suspended := none } : CycleEngine).Waits k) := by
    refine ⟨.inr ⟨x, e, rfl⟩, fun k h => h.elim .inl fun ⟨y, hy, _⟩ => (nomatch hy), fun k h => ?_⟩
    obtain h | ⟨y, hy, rfl⟩ := h
    · exact .inr (.inl h)
    · rw [e] at hy
      cases hy
      exact .inl rfl
  unfold State.takeHighest at ht
  split at ht
  · cases ht
  · next e _ =>
    cases ht
    obtain ⟨h1, h2, h3⟩ := hfromQueue e
    exact ⟨h1, h2, h3, rfl, fun k => by cases k <;> rfl, rfl⟩
  · next e =>
    cases ht
    obtain ⟨h1, h2, h3⟩ := hfromSuspended e
    exact ⟨h1, h2, h3, rfl, fun k => by cases k <;> rfl, rfl⟩
  · next e e' =>
    split at ht
    · cases ht
      obtain ⟨h1, h2, h3⟩ := hfromSuspended e'
      exact ⟨h1, h2, h3, rfl, fun k => by cases k <;> rfl, rfl⟩
    · cases ht
      obtain ⟨h1, h2, h3⟩ := hfromQueue e
      exact ⟨h1, h2, h3, rfl, fun k => by cases k <;> rfl, rfl⟩

theorem State.launch_kind {fresh : Bool} {c d : Cycle} {o : CycleOutcome} (h : s.launch fresh c = .ends d o) :
    d.kind = c.kind ∧ (c.kind ≠ .pumpOut ∧ s.inter.fault = true ∨ c.kind = .profile) := by
  unfold State.launch at h
  split at h
  · next hc =>
    cases h
    exact ⟨rfl, .inl hc⟩
  · extract_lets c' at h
    split at h
    · next hp =>
      refine ⟨?_, .inr hp.1⟩
      rw [← (Launch.ends.inj h).1]
      cases fresh
      · exact (s.resumed_kind c).1
      · exact (s.started_fits c).1
    · cases h

theorem State.launch_runs_kind {fresh : Bool} {c d : Cycle} (h : s.launch fresh c = .runs d) : d.kind = c.kind := by
  unfold State.launch at h
  split at h
  · cases h
  · extract_lets c' at h
    split at h
    · cases h
    · rw [← Launch.runs.inj h]
      cases fresh
      · exact (s.resumed_kind c).1
      · exact (s.started_fits c).1

theorem State.run_record (fresh : Bool) (c : Cycle) : (s.run fresh c).cycles.record k = s.cycles.record k := by
  rw [State.run_cycles]
  cases k <;> rfl

theorem State.waits_ended {c : Cycle} {o : CycleOutcome} : (s.ended c false o []).cycles.Waits k ↔ s.cycles.Waits k := by
  obtain ⟨hq, -, hs⟩ := s.ended_places c false o []
  rw [CycleEngine.Waits, CycleEngine.Waits, hq, hs]

theorem State.pickLoop_record (n : Nat) (h : ¬ s.cycles.Waits k) : (s.pickLoop n).cycles.record k = s.cycles.record k := by
  induction n generalizing s with
  | zero => rfl
  | succ n ih =>
    unfold State.pickLoop
    split
    · rfl
    · next fresh c t ht =>
      obtain ⟨hc, hback, -, -, hrecord, -⟩ := s.takeHighest_waits ht
      have hne : k ≠ c.kind := fun he => h (he ▸ hc)
      have hrest : ¬ t.cycles.Waits k := fun hw => h (hback k hw)
      rw [← hrecord k]
      unfold State.startPicked
      split
      · next d o hl =>
        have hd : k ≠ d.kind := (t.launch_kind hl).1 ▸ hne
        rw [← t.ended_record_other d false o [] hd]
        exact ih _ (by rwa [State.waits_ended])
      · exact t.run_record _ _

theorem State.pick_record (h : ¬ s.cycles.Waits k) : s.pick.cycles.record k = s.cycles.record k := by
  unfold State.pick
  split
  · rfl
  · exact s.pickLoop_record _ h

theorem CycleEngine.mem_kinds_iff (e : CycleEngine) :
    k ∈ e.kinds ↔ e.Waits k ∨ ∃ c, e.running = some c ∧ c.kind = k := by
  rw [CycleEngine.mem_kinds, CycleEngine.Waits]
  exact ⟨fun h => h.elim (fun h => .inl (.inl h)) fun h => h.elim .inr fun h => .inl (.inr h),
    fun h => h.elim (fun h => h.elim .inl fun h => .inr (.inr h)) fun h => .inr (.inl h)⟩

theorem State.pickLoop_kinds (n : Nat) (hfree : s.cycles.running = none)
    (hk : k = .pumpOut ∨ s.inter.fault = false ∧ k ≠ .profile) (h : s.cycles.Waits k) :
    k ∈ (s.pickLoop n).cycles.kinds := by
  induction n generalizing s with
  | zero => exact (CycleEngine.mem_kinds_iff _).2 (.inl h)
  | succ n ih =>
    unfold State.pickLoop
    split
    · exact (CycleEngine.mem_kinds_iff _).2 (.inl h)
    · next fresh c t ht =>
      obtain ⟨-, -, hstay, hrun, -, hinter⟩ := s.takeHighest_waits ht
      unfold State.startPicked
      split
      · next d o hl =>
        obtain ⟨-, hwhy⟩ := t.launch_kind hl
        have hne : k ≠ c.kind := by
          rintro rfl
          obtain ⟨hp, hf⟩ | hp := hwhy
          · rw [hinter] at hf
            obtain hk | ⟨hf', -⟩ := hk
            · exact hp hk
            · rw [hf] at hf'
              cases hf'
          · obtain hk | ⟨-, hk⟩ := hk
            · rw [hp] at hk
              cases hk
            · exact hk hp
        have hwaits := (hstay k h).resolve_left hne
        obtain ⟨-, hr, -⟩ := t.ended_places d false o []
        refine ih (t.ended d false o []) (hr.trans (hrun.trans hfree)) ?_ (State.waits_ended t |>.2 hwaits)
        have hi : (t.ended d false o []).inter = s.inter := hinter
        rwa [hi]
      · next d hl =>
        refine (CycleEngine.mem_kinds_iff _).2 ?_
        show (t.run fresh d).cycles.Waits k ∨ ∃ x, (t.run fresh d).cycles.running = some x ∧ x.kind = k
        rw [State.run_cycles]
        obtain rfl | hw := hstay k h
        · exact .inr ⟨_, rfl, (t.launch_runs_kind hl : d.kind = c.kind)⟩
        · exact .inl hw

/-- R127: a pick keeps a PUMP-OUT, and without the latch every kind but PROFILE. -/
theorem State.pick_kinds (hfree : s.cycles.running = none)
    (hk : k = .pumpOut ∨ s.inter.fault = false ∧ k ≠ .profile) (h : s.cycles.Waits k) : k ∈ s.pick.cycles.kinds := by
  unfold State.pick
  split
  · exact (CycleEngine.mem_kinds_iff _).2 (.inl h)
  · exact s.pickLoop_kinds _ hfree hk h

end keeps

end Sys2Proof.Machine
end

section
/-! How a running cycle ends, what resumes after it, and airflow lost (R126–R136). -/

namespace Sys2Proof.Machine
open State

variable {s u : State} {c d : Cycle} {o : CycleOutcome} {result : List (Option Curve)}

/-! ### The end of the running cycle (R136) -/

/-- The running cycle's kind is in no other place. -/
theorem CycleEngine.Lawful.not_waits {e : CycleEngine} (h : e.Lawful) (hc : e.running = some c) : ¬ e.Waits c.kind := by
  rintro (⟨x, hx, hk⟩ | ⟨x, hx, hk⟩)
  · exact h.queue_ne_running hx hc hk
  · exact h.running_ne_suspended hc hx hk.symm

/-- R136: the posts of an end are in flight after the pick that follows. -/
theorem State.endRunning_posts {e : Instr} (he : e ∈ ([.planRelease] : List Instr) ++
    (if d.kind == .defrost then [.defrostRegimeClear] else []) ++ (if d.active then [.regenInactive] else []) ++
    outcomePost d.kind o result :: failPost o) : e ∈ (u.endRunning d o result).posts := by
  refine (State.pick_within _).posts (List.mem_append_right _ ?_)
  rw [Bool.true_and]
  exact he

theorem State.endRunning_record (hwaits : ¬ u.cycles.Waits d.kind) :
    (u.endRunning d o result).cycles.record d.kind = u.endRecord d o := by
  have hplaces := (u.setRunning none).ended_places d true o result
  refine (State.pick_record ((u.setRunning none).ended d true o result) ?_).trans ((u.setRunning none).ended_record_same _ _ _ _)
  rw [CycleEngine.Waits, hplaces.1, hplaces.2.2]
  exact hwaits

theorem State.endRunning_alone (hq : u.cycles.queue = []) (hs : u.cycles.suspended = none) :
    (u.endRunning d o result).cycles.running = none ∧ (u.endRunning d o result).cycles.queue = [] ∧
      (u.endRunning d o result).cycles.suspended = none := by
  obtain ⟨hq', hr', hs'⟩ := (u.setRunning none).ended_places d true o result
  rw [State.endRunning, State.pick_empty _ (hq'.trans hq) (hs'.trans hs)]
  exact ⟨hr', hq'.trans hq, hs'.trans hs⟩

/-- R136: the running cycle c ended, as d, in a state u that the event came to in the engine alone. -/
theorem State.runningEnds_of (hframe : (u.setCycles s.cycles).setPosts s.posts = s) (hkind : d.kind = c.kind)
    (hactive : c.active = true → d.active = true ∨ .regenInactive ∈ u.posts) (hwaits : ¬ u.cycles.Waits c.kind)
    (halone : s.cycles.queue = [] → s.cycles.suspended = none → u.cycles.queue = [] ∧ u.cycles.suspended = none) :
    s.RunningEnds (u.endRunning d o result) c o d.completed result := by
  have hring : u.ring = s.ring := (congrArg State.ring hframe :)
  refine ⟨?record, ?release, fun hk => ⟨?_, ?_⟩, fun hk => ?_, fun hk => ?_, fun hk => ?_, fun ha => ?_, fun r ho => ?_,
    fun hq hs => ?alone, ?frame⟩
  case record =>
    rw [← hkind] at hwaits ⊢
    rw [State.endRunning_record hwaits, State.endRecord, hring]
  case release => exact State.endRunning_posts (by simp)
  case alone => exact State.endRunning_alone (halone hq hs).1 (halone hq hs).2
  case frame =>
    have hrest := (u.endRunning_within d o result).restore_cycles
    rw [← hframe]
    exact (congrArg (fun v : State => (v.setCycles s.cycles).setPosts s.posts) hrest :)
  · exact State.endRunning_posts (by simp [outcomePost, hkind, hk])
  · exact State.endRunning_posts (by simp [hkind, hk])
  · exact State.endRunning_posts (by simp [outcomePost, hkind, hk])
  · exact State.endRunning_posts (by simp [outcomePost, hkind, hk])
  · exact State.endRunning_posts (by simp [outcomePost, hkind, hk])
  · obtain ha | ha := hactive ha
    · exact State.endRunning_posts (by simp [ha])
    · exact (u.endRunning_within d o result).posts ha
  · exact State.endRunning_posts (by simp [ho, failPost])

/-- R136: the running cycle ends as it stands. -/
theorem State.runningEnds_taken (i : Instr) (hlaw : s.cycles.Lawful) (hc : s.cycles.running = some c) (hkind : d.kind = c.kind)
    (hactive : d.active = c.active) :
    s.RunningEnds ((s.took i).endRunning d o result) c o d.completed result :=
  State.runningEnds_of rfl hkind (fun h => .inl (hactive.trans h)) (hlaw.not_waits hc) fun hq hs => ⟨hq, hs⟩

/-! ### The suspended cycle resumes (R127, R131–R133) -/

/-- R127: the state a suspended cycle resumes in is that of the pick, its place emptied. -/
theorem State.pick_resumes {v : State} {p : Cycle} (hfree : v.cycles.running = none) (hq : v.cycles.queue = [])
    (hp : v.cycles.suspended = some p) (hf : v.inter.fault = false) (hfit : p.kind = .profile → true ∈ p.profile.fitted) :
    v.pick = (v.setCycles { v.cycles with suspended := none }).run false
      ((v.setCycles { v.cycles with suspended := none }).resumed p) := by
  obtain ⟨w, hw⟩ : ∃ w, w = v.setCycles { v.cycles with suspended := none } := ⟨_, rfl⟩
  have hl : w.launch false p = .runs (w.resumed p) := by
    refine State.launch_clear w (.inr (by rw [hw]; exact hf)) fun hk => ?_
    have hprofile : (w.resumed p).profile = p.profile := by
      rw [State.resumed]
      split <;> rfl
    show (w.resumed p).profile.fitted.all (· == false) = false
    rw [hprofile, List.all_eq_false]
    exact ⟨true, hfit hk, by decide⟩
  rw [← hw]
  exact v.pick_runs hfree (hw ▸ v.takeHighest_suspended hq hp) hl

theorem State.resumed_eq (p : Cycle) : s.resumed p =
    { p with stepTimer := if p.kind = .profile then some (s.param 77 9) else p.stepTimer } := by
  unfold State.resumed
  split <;> rfl

/-- R127, R131–R133: an instance out of the suspended place that runs on resumes. -/
theorem State.resumes_run {w : State} {p : Cycle} (hframe : (w.setCycles s.cycles).setPosts s.posts = s)
    (hs : w.cycles.suspended = none) (hheld : p.held = false) : s.Resumes (w.run false (w.resumed p)) p := by
  have hbanks : w.banks = s.banks := (congrArg State.banks hframe :)
  have hparam : w.param 77 9 = s.param 77 9 := by rw [State.param, State.param, hbanks]
  have hplan : w.planOf p.step = s.planOf p.step := by
    rw [← hframe]
    cases p.step <;> rfl
  have hcycles := w.run_cycles false (w.resumed p)
  have hposts := w.run_plan false (w.resumed p)
  have hactive := fun hk ht => w.run_regenActive false (c := w.resumed p) hk ht
  obtain ⟨t, ht⟩ : ∃ t, t = w.run false (w.resumed p) := ⟨_, rfl⟩
  rw [← ht] at hcycles hposts hactive ⊢
  rw [w.resumed_eq] at hcycles hposts hactive
  rw [State.postedPlan, hplan] at hposts
  rw [State.runAs, hplan, hparam, hheld, Bool.false_or] at hcycles
  have hhold : t.cycles.tankHold = w.cycles.tankHold := by rw [hcycles]
  refine ⟨_, congrArg CycleEngine.running hcycles, (congrArg CycleEngine.suspended hcycles).trans hs, rfl, rfl, rfl, rfl,
    rfl, rfl, ?_, rfl, hposts, fun hk hrun => ⟨?_, ?_⟩⟩
  · rw [hhold]
  · have hrun : (p.kind == .regen && w.cycles.tankHold) = false := hrun
    rw [beq_iff_eq.2 hk, Bool.true_and] at hrun
    show (p.active || p.kind == .regen && !w.cycles.tankHold) = true
    rw [beq_iff_eq.2 hk, hrun, Bool.not_false, Bool.true_and, Bool.or_true]
  · have hrun : (p.kind == .regen && w.cycles.tankHold) = false := hrun
    rw [beq_iff_eq.2 hk, Bool.true_and] at hrun
    exact hactive hk hrun

/-- R127, R131–R133: after an end with nothing queued a suspended cycle resumes. -/
theorem State.resumes_of {p : Cycle} (hframe : (u.setCycles s.cycles).setPosts s.posts = s) (hq : u.cycles.queue = [])
    (hp : u.cycles.suspended = some p) (hheld : p.held = false) (hf : s.inter.fault = false)
    (hfit : p.kind = .profile → true ∈ p.profile.fitted) : s.Resumes (u.endRunning d o result) p := by
  obtain ⟨v, hv⟩ : ∃ v, v = (u.setRunning none).ended d true o result := ⟨_, rfl⟩
  obtain ⟨hq', hr', hs'⟩ := (u.setRunning none).ended_places d true o result
  rw [← hv] at hq' hr' hs'
  have hvframe : (v.setCycles s.cycles).setPosts s.posts = s := by
    rw [hv, ← hframe]
    rfl
  have hinter : v.inter = s.inter := (congrArg State.inter hvframe :)
  have hend : u.endRunning d o result = v.pick := congrArg State.pick hv.symm
  rw [hend, State.pick_resumes hr' (hq'.trans hq) (hs'.trans hp) (hinter ▸ hf) hfit]
  exact State.resumes_run (by rw [← hvframe]; rfl) rfl hheld

/-! ### The events that end a cycle (R129–R133, R135) -/

section commands
variable (hheld : s.held = false) (hc : s.cycles.running = some c)
include hheld hc

theorem exec_cycleCoilTemp_done (v : Int) (q : Quality) (hstep : c.step = .melt) (hv : c.endTemp ≤ v) :
    exec (.cycleCoilTemp (some (v, q))) s =
      .next ((s.took (.cycleCoilTemp (some (v, q)))).endRunning { c with completed := 1 } .done []) := by
  refine (taking_awake s (.cycleCoilTemp (some (v, q))) (State.cycleCoilTemp v) hheld).trans (congrArg _ ?_)
  rw [State.cycleCoilTemp, State.setPosts_cycles, hc]
  exact if_pos ⟨hstep, hv⟩

theorem exec_cycleTimerExpiry (ht : c.cycleTimer ≠ none) :
    exec .cycleTimerExpiry s = .next ((s.took .cycleTimerExpiry).cycleOver c) := by
  refine (taking_awake s .cycleTimerExpiry (fun s => match s.cycles.running with
    | none => s
    | some c => if c.cycleTimer.isSome then s.cycleOver c else s) hheld).trans (congrArg _ ?_)
  rw [State.setPosts_cycles, hc]
  exact if_pos (Option.isSome_iff_ne_none.2 ht)

theorem exec_stepTimerExpiry (ht : c.stepTimer ≠ none) (hrun : c.held = false) :
    exec .stepTimerExpiry s = .next ((s.took .stepTimerExpiry).stepOver c) := by
  refine (taking_awake s .stepTimerExpiry (fun s => match s.cycles.running with
    | none => s
    | some c => if c.stepTimer.isSome && !c.held then s.stepOver c else s) hheld).trans (congrArg _ ?_)
  rw [State.setPosts_cycles, hc]
  exact if_pos (by rw [Option.isSome_iff_ne_none.2 ht, hrun]; rfl)

theorem exec_airflowLost (hk : c.kind ≠ .pumpOut) :
    exec .airflowLost s = .next ((s.took .airflowLost).endRunning c (.failed .airflow) []) := by
  refine (taking_awake s .airflowLost (fun s => match s.cycles.running with
    | none => s
    | some c => if c.kind = .pumpOut then s else s.endRunning c (.failed .airflow) []) hheld).trans (congrArg _ ?_)
  rw [State.setPosts_cycles, hc]
  exact if_neg hk

end commands

theorem exec_airflowLost_spared (hheld : s.held = false)
    (h : s.cycles.running = none ∨ ∃ c, s.cycles.running = some c ∧ c.kind = .pumpOut) :
    exec .airflowLost s = .next (s.took .airflowLost) := by
  refine (taking_awake s .airflowLost (fun s => match s.cycles.running with
    | none => s
    | some c => if c.kind = .pumpOut then s else s.endRunning c (.failed .airflow) []) hheld).trans (congrArg _ ?_)
  rw [State.setPosts_cycles]
  obtain hc | ⟨c, hc, hk⟩ := h
  · rw [hc]
  · rw [hc]
    exact if_pos hk

/-- R135: what waits is kept by the pick after an end. -/
theorem State.endRunning_kinds {k : CycleKind} (hk : k = .pumpOut ∨ u.inter.fault = false ∧ k ≠ .profile)
    (h : u.cycles.Waits k) : k ∈ (u.endRunning d o result).cycles.kinds := by
  obtain ⟨hq, hr, hs⟩ := (u.setRunning none).ended_places d true o result
  refine State.pick_kinds ((u.setRunning none).ended d true o result) hr hk ?_
  rw [CycleEngine.Waits, hq, hs]
  exact h

/-- Settles O41: airflow lost is an end of the running cycle, whose pick keeps what waits. -/
theorem airflowLostEndsTheRunningCycle : Obligations.AirflowLostEndsTheRunningCycle := by
  refine ⟨fun s c hheld hlaw hc hk => ?_, fun s hheld h => exec_airflowLost_spared hheld h,
    fun s fresh c hf hk => s.launch_fault hk hf⟩
  have hlaw := s.cycleLaw_iff.1 hlaw
  have hother {k : CycleKind} (hmem : k ∈ s.cycles.kinds) (hne : k ≠ c.kind) : s.cycles.Waits k := by
    refine (s.cycles.mem_kinds_iff.1 hmem).resolve_right ?_
    rintro ⟨x, hx, rfl⟩
    rw [hc] at hx
    cases hx
    exact hne rfl
  exact ⟨_, exec_airflowLost hheld hc hk, State.runningEnds_taken _ hlaw hc rfl rfl,
    fun hp => State.endRunning_kinds (.inl rfl) (hother hp fun h => hk h.symm),
    fun hf k hmem hne hp => State.endRunning_kinds (.inr ⟨hf, hp⟩) (hother hmem hne)⟩

end Sys2Proof.Machine
end

section
/-! Every way a running cycle ends (R126, R129–R136). -/

namespace Sys2Proof.Machine
open State

variable {s : State} {c : Cycle} {i : Instr} {o : CycleOutcome} {n : Nat} {result : List (Option Curve)}

/-- The event i ends the running cycle c, as an instance d, in a state u that the event came to in the engine alone. -/
structure State.EndsBy (s : State) (i : Instr) (c : Cycle) (o : CycleOutcome) (n : Nat) (result : List (Option Curve))
    (u : State) (d : Cycle) : Prop where
  exec_eq : exec i s = .next (u.endRunning d o result)
  frame : (u.setCycles s.cycles).setPosts s.posts = s
  kind : d.kind = c.kind
  completed : d.completed = n
  active : c.active = true → d.active = true ∨ .regenInactive ∈ u.posts
  waits : ¬ u.cycles.Waits c.kind
  suspended : u.cycles.suspended = s.cycles.suspended
  queue : (∃ k, i = .cycleRequest k) ∧ s.cycles.suspended ≠ none ∨ u.cycles.queue = s.cycles.queue

/-- R136, R127: what such an end leaves. -/
theorem State.EndsBy.ends {u : State} {d : Cycle} (h : s.EndsBy i c o n result u d) :
    ∃ t, exec i s = .next t ∧ s.RunningEnds t c o n result ∧
      ((∀ k, i ≠ .cycleRequest k) → ∀ p, s.cycles.queue = [] → s.cycles.suspended = some p → p.held = false →
        s.inter.fault = false → (p.kind = .profile → true ∈ p.profile.fitted) → s.Resumes t p) := by
  refine ⟨_, h.exec_eq, ?_, fun hi p hq hp hheld hf hfit => ?_⟩
  · rw [← h.completed]
    refine State.runningEnds_of h.frame h.kind h.active h.waits fun hq hs => ?_
    obtain ⟨-, hne⟩ | hqueue := h.queue
    · exact absurd hs hne
    · exact ⟨hqueue.trans hq, h.suspended.trans hs⟩
  · obtain ⟨⟨k, hk⟩, -⟩ | hqueue := h.queue
    · exact absurd hk (hi k)
    · exact State.resumes_of h.frame (hqueue.trans hq) (h.suspended.trans hp) hheld hf hfit

/-- An end of the running cycle, its places as they stand. -/
theorem State.endsBy_taken {d : Cycle} (hlaw : s.cycles.Lawful) (hc : s.cycles.running = some c)
    (hexec : exec i s = .next ((s.took i).endRunning d o result)) (hkind : d.kind = c.kind) (hn : d.completed = n)
    (hactive : d.active = c.active) : s.EndsBy i c o n result (s.took i) d :=
  ⟨hexec, rfl, hkind, hn, fun h => .inl (hactive.trans h), hlaw.not_waits hc, rfl, .inr rfl⟩

/-! ### PROFILE's result (R133, R134) -/

theorem ProfileData.gain_point (p : ProfileData) (k : Nat) {j : Nat} (hj : j < 3) (hfit : p.fitted.getD j false = true) :
    (p.gain k).points.getD j [] =
      p.points.getD j [] ++ [(k, (p.sums.getD j (0, 0)).1 / (p.sums.getD j (0, 0)).2)] := by
  rw [ProfileData.gain]
  show (List.map (fun i => gainPoint k (p.fitted.getD i false) (p.sums.getD i (0, 0)) (p.points.getD i []))
    (List.range 3)).getD j [] = _
  rw [List.getD_eq_getElem?_getD, List.getElem?_map, List.getElem?_range hj, Option.map_some, Option.getD_some, gainPoint,
    if_pos hfit]

theorem ProfileData.gain_result (p : ProfileData) (k : Nat) : (p.gain k).result = (List.range 3).map fun j =>
    if p.fitted.getD j false = true then
      some (p.points.getD j [] ++ [(k, (p.sums.getD j (0, 0)).1 / (p.sums.getD j (0, 0)).2)])
    else none := by
  refine List.map_congr_left fun j hj => ?_
  show (if p.fitted.getD j false then some ((p.gain k).points.getD j []) else none) = _
  split
  · next hfit => rw [p.gain_point k (List.mem_range.1 hj) hfit]
  · rfl

theorem State.measureOver_noData {u : State} {k : Nat} (h : c.profile.waiting = true ∨ c.profile.starved = true) :
    u.measureOver c k = u.endRunning c (.failed .noData) [] := if_pos (Bool.or_eq_true_iff.2 h)

theorem State.measureOver_last {u : State} {k : Nat} (hw : c.profile.waiting = false) (hs : c.profile.starved = false)
    (htop : c.profile.top ≤ k) : u.measureOver c k =
      u.endRunning { c with completed := k, profile := c.profile.gain k } .done (c.profile.gain k).result := by
  have hdata : ¬ (c.profile.waiting || c.profile.starved) = true := by simp [hw, hs]
  exact (if_neg hdata).trans (if_pos htop)

/-! ### PUMP-OUT and REGEN at a tank report (R130, R132) -/

/-- R124: the engine with a tank report's hold mark taken. -/
def State.reportTaken (r : TankReport) (s : State) : State :=
  (s.took (.tankReport r)).setCycles { s.cycles with tankHold := claimsTank r.state }

theorem exec_tankReport (r : TankReport) (hheld : s.held = false) (hc : s.cycles.running = some c) :
    exec (.tankReport r) s = .next (match c.kind with
      | .pumpOut => (s.reportTaken r).reportToPump r c
      | .regen => (s.reportTaken r).reportToRegen c
      | .defrost => s.reportTaken r
      | .profile => s.reportTaken r) := by
  refine (taking_awake s (.tankReport r) (State.takeTankReport r) hheld).trans (congrArg _ ?_)
  have hrunning : (s.reportTaken r).cycles.running = some c := hc
  show (match (s.reportTaken r).cycles.running with
    | none => s.reportTaken r
    | some c => match c.kind with
      | .pumpOut => (s.reportTaken r).reportToPump r c
      | .regen => (s.reportTaken r).reportToRegen c
      | .defrost => s.reportTaken r
      | .profile => s.reportTaken r) = _
  rw [hrunning]

theorem Cycle.pumpOut_step (hfits : c.stepFits = true) (hk : c.kind = .pumpOut) : c.step = .prime ∨ c.step = .drain := by
  unfold Cycle.stepFits at hfits
  rw [hk] at hfits
  split at hfits <;> simp_all

/-- An end at a tank report, its places as they stand. -/
theorem State.endsBy_report {r : TankReport} {d : Cycle} (hlaw : s.cycles.Lawful) (hc : s.cycles.running = some c)
    (hexec : exec (.tankReport r) s = .next ((s.reportTaken r).endRunning d o result)) (hkind : d.kind = c.kind)
    (hn : d.completed = n) (hactive : d.active = c.active) : s.EndsBy (.tankReport r) c o n result (s.reportTaken r) d :=
  ⟨hexec, rfl, hkind, hn, fun h => .inl (hactive.trans h), hlaw.not_waits hc, rfl, .inr rfl⟩

theorem outranks_regen {k : CycleKind} (h : k = .defrost ∨ k = .pumpOut) : outranks k .regen = true := by
  obtain rfl | rfl := h <;> rfl

/-- R132: a held REGEN ends while a cycle is suspended and one that outranks it waits. -/
theorem State.heldTest_ends {u : State} {d : Cycle} (hd : u.cycles.running = some d) (hheld : d.held = true)
    (hs : u.cycles.suspended ≠ none) (hq : ∃ q ∈ u.cycles.queue, outranks q.kind d.kind = true) :
    u.heldTest = u.endRunning d (.aborted .held) [] := by
  have hcond : (d.held && u.cycles.suspended.isSome && u.cycles.queue.any fun q => outranks q.kind d.kind) = true := by
    rw [hheld, Option.isSome_iff_ne_none.2 hs, List.any_eq_true.2 hq]
    rfl
  rw [State.heldTest, hd]
  exact if_pos hcond

theorem State.heldTest_stays {u : State} {d : Cycle} (hd : u.cycles.running = some d)
    (h : d.held = false ∨ u.cycles.suspended = none ∨ u.cycles.queue = []) : u.heldTest = u := by
  rw [State.heldTest, hd]
  refine if_neg fun hcond => ?_
  simp only [Bool.and_eq_true] at hcond
  obtain h | h | h := h
  · rw [h] at hcond
    exact nomatch hcond.1.1
  · rw [h] at hcond
    exact nomatch hcond.1.2
  · rw [h] at hcond
    exact nomatch hcond.2

/-- R132: a REGEN as the tank holds it. -/
def State.regenHeld (c : Cycle) (u : State) : State :=
  (u.setRunning (some { c with held := true, active := false })).post
    (.cyclePlan .regen [] :: (if c.active then [.regenInactive] else []))

theorem State.reportToRegen_held {u : State} (ht : u.cycles.tankHold = true) (hrun : c.held = false) :
    u.reportToRegen c = (u.regenHeld c).heldTest := if_pos (by rw [ht, hrun]; rfl)

theorem State.regenHeld_cycles (u : State) :
    (u.regenHeld c).cycles = { u.cycles with running := some { c with held := true, active := false } } := rfl

theorem State.regenHeld_rest (u : State) : ((u.regenHeld c).setCycles u.cycles).setPosts u.posts = u := rfl

theorem State.regenHeld_posts (u : State) : (u.regenHeld c).posts =
    u.posts ++ .cyclePlan .regen [] :: (if c.active then [.regenInactive] else []) := rfl

theorem exec_tankReport_held (r : TankReport) (hheld : s.held = false) (hc : s.cycles.running = some c)
    (hk : c.kind = .regen) (hrun : c.held = false) (hclaims : claimsTank r.state = true) :
    exec (.tankReport r) s = .next ((s.reportTaken r).regenHeld c).heldTest := by
  rw [exec_tankReport r hheld hc, hk]
  exact congrArg _ (State.reportToRegen_held hclaims hrun)

/-- R132: the end of a REGEN that a report holds. -/
theorem State.endsBy_held (r : TankReport) (hlaw : s.cycles.Lawful) (hheld : s.held = false) (hc : s.cycles.running = some c)
    (hk : c.kind = .regen) (hrun : c.held = false) (hclaims : claimsTank r.state = true) (hs : s.cycles.suspended ≠ none)
    (hq : ∃ q ∈ s.cycles.queue, q.kind = .defrost ∨ q.kind = .pumpOut) :
    s.EndsBy (.tankReport r) c (.aborted .held) c.completed [] ((s.reportTaken r).regenHeld c)
      { c with held := true, active := false } := by
  have hexec := exec_tankReport_held r hheld hc hk hrun hclaims
  have hcycles := (s.reportTaken r).regenHeld_cycles (c := c)
  have hrest := (s.reportTaken r).regenHeld_rest (c := c)
  have hposts := (s.reportTaken r).regenHeld_posts (c := c)
  obtain ⟨u, hu⟩ : ∃ u, u = (s.reportTaken r).regenHeld c := ⟨_, rfl⟩
  rw [← hu] at hexec hcycles hrest hposts ⊢
  have hrunning := congrArg CycleEngine.running hcycles
  have hqueue : u.cycles.queue = s.cycles.queue := (congrArg CycleEngine.queue hcycles :)
  have hsuspended : u.cycles.suspended = s.cycles.suspended := (congrArg CycleEngine.suspended hcycles :)
  refine ⟨?exec, ?frame, rfl, rfl, fun ha => .inr ?active, ?waits, hsuspended, .inr hqueue⟩
  case exec =>
    obtain ⟨q, hq, hkind⟩ := hq
    refine hexec.trans (congrArg _ (State.heldTest_ends hrunning rfl (hsuspended ▸ hs) ⟨q, hqueue ▸ hq, ?_⟩))
    show outranks q.kind c.kind = true
    rw [hk]
    exact outranks_regen hkind
  case frame => exact (congrArg (fun v : State => (v.setCycles s.cycles).setPosts s.posts) hrest :)
  case active =>
    rw [hposts, ha]
    exact List.mem_append_right _ (List.mem_cons_of_mem _ (List.mem_singleton_self _))
  case waits =>
    rw [CycleEngine.Waits, hqueue, hsuspended]
    exact hlaw.not_waits hc

/-! ### A request while a REGEN is held (R125, R132) -/

/-- R125: the engine with an instance of the kind queued. -/
def State.queuedWith (k : CycleKind) (s : State) : State :=
  s.setCycles { s.cycles with queue := enqueue (Cycle.queued k) s.cycles.queue }

theorem exec_cycleRequest (k : CycleKind) (hheld : s.held = false) :
    exec (.cycleRequest k) s = .next ((s.took (.cycleRequest k)).requestCycle k).1 :=
  taking_awake s (.cycleRequest k) (fun s => (s.requestCycle k).1) hheld

theorem exec_cycleRequest_accepted (k : CycleKind) (hheld : s.held = false) (hr : s.cycleRefusal k = none)
    (hh : s.cycles.has k = false) : exec (.cycleRequest k) s = .next (if s.cycles.running.isSome
      then (((s.took (.cycleRequest k)).queuedWith k).preempt k).heldTest
      else ((s.took (.cycleRequest k)).queuedWith k).pick) := by
  rw [exec_cycleRequest k hheld, State.requestCycle]
  have hr : (s.took (.cycleRequest k)).cycleRefusal k = none := hr
  rw [hr]
  exact congrArg (fun x : State × Result => Host.Outcome.next x.1) (if_neg (by rw [State.setPosts_cycles, hh]; decide))

theorem State.preempt_stays {u : State} {k : CycleKind} (hc : u.cycles.running = some c)
    (h : outranks k c.kind = false ∨ c.kind = .defrost ∨ c.kind = .pumpOut ∨ u.cycles.suspended ≠ none) :
    u.preempt k = u := by
  rw [State.preempt, hc]
  refine if_neg fun hcond => ?_
  simp only [Bool.and_eq_true] at hcond
  obtain ⟨⟨hrank, hsus⟩, hnone⟩ := hcond
  obtain h | h | h | h := h
  · rw [h] at hrank
    cases hrank
  · rw [h] at hsus
    cases hsus
  · rw [h] at hsus
    cases hsus
  · exact h (Option.isNone_iff_eq_none.1 hnone)

theorem State.endsBy_request (k : CycleKind) (hlaw : s.cycles.Lawful) (hheld : s.held = false)
    (hc : s.cycles.running = some c) (hkind : c.kind = .regen) (hhold : c.held = true) (hs : s.cycles.suspended ≠ none)
    (hk : k = .defrost ∨ k = .pumpOut) (hr : s.cycleRefusal k = none) (hh : s.cycles.has k = false) :
    s.EndsBy (.cycleRequest k) c (.aborted .held) c.completed [] ((s.took (.cycleRequest k)).queuedWith k) c where
  exec_eq := by
    have hmem : Cycle.queued k ∈ enqueue (Cycle.queued k) s.cycles.queue :=
      (enqueue_perm _ _).mem_iff.2 List.mem_cons_self
    have hrank : outranks (Cycle.queued k).kind c.kind = true := by
      rw [hkind]
      exact outranks_regen hk
    rw [exec_cycleRequest_accepted k hheld hr hh, if_pos (by rw [hc]; rfl),
      State.preempt_stays (u := (s.took (.cycleRequest k)).queuedWith k) hc (.inr (.inr (.inr hs))),
      State.heldTest_ends (u := (s.took (.cycleRequest k)).queuedWith k) hc hhold hs ⟨_, hmem, hrank⟩]
  frame := rfl
  kind := rfl
  completed := rfl
  active := .inl
  waits := by
    rintro (⟨x, hx, hxk⟩ | hw)
    · obtain rfl | hx := List.mem_cons.1 ((enqueue_perm _ _).mem_iff.1 hx)
      · have hxk : k = c.kind := hxk
        rw [hkind] at hxk
        obtain rfl | rfl := hk <;> cases hxk
      · exact hlaw.not_waits hc (.inl ⟨x, hx, hxk⟩)
    · exact hlaw.not_waits hc (.inr hw)
  suspended := rfl
  queue := .inl ⟨⟨k, rfl⟩, hs⟩

/-- Settles O40: each event ends the running cycle by `endRunning`, and `EndsBy.ends` says what that leaves. -/
theorem cyclesEndWithTheirOutcome : Obligations.CyclesEndWithTheirOutcome := by
  intro s c i o n result hheld hlaw hc hresult h
  have hlaw := s.cycleLaw_iff.1 hlaw
  obtain ⟨v, q, rfl, hstep, hv, rfl, rfl⟩ | ⟨rfl, ht, rfl, hstep⟩ | ⟨rfl, ht, hrun, hstep⟩ | ⟨r, rfl, hk, hend⟩ |
    ⟨r, rfl, hk, hrun, hclaims, hs, hq, rfl, rfl⟩ | ⟨k, rfl, hk, hrun, hs, hkind, hr, hh, rfl, rfl⟩ | ⟨rfl, hk, rfl, rfl⟩ := h
  · rw [hstep] at hresult
    obtain rfl : result = [] := hresult
    exact (State.endsBy_taken hlaw hc (exec_cycleCoilTemp_done hheld hc v q hstep hv) rfl rfl rfl).ends
  · obtain rfl : result = [] := hresult
    have hexec := exec_cycleTimerExpiry hheld hc ht
    obtain ⟨hstep, rfl⟩ | ⟨hstep, rfl⟩ | ⟨hstep, rfl⟩ := hstep <;> rw [State.cycleOver, hstep] at hexec
    · exact (State.endsBy_taken hlaw hc hexec rfl rfl rfl).ends
    · exact (State.endsBy_taken hlaw hc hexec rfl rfl rfl).ends
    · exact (State.endsBy_taken hlaw hc hexec rfl rfl rfl).ends
  · have hexec := exec_stepTimerExpiry hheld hc ht hrun
    obtain ⟨hstep, rfl, rfl⟩ | ⟨hstep, rfl, rfl⟩ | ⟨k, hstep, hdata, rfl, rfl⟩ | ⟨k, hstep, hw, hs, htop, rfl, rfl⟩ := hstep <;>
      rw [State.stepOver, hstep] at hexec <;> rw [hstep] at hresult
    · obtain rfl : result = [] := hresult
      exact (State.endsBy_taken hlaw hc hexec rfl rfl rfl).ends
    · obtain rfl : result = [] := hresult
      exact (State.endsBy_taken hlaw hc hexec rfl rfl rfl).ends
    · obtain rfl : result = [] := hresult
      exact (State.endsBy_taken hlaw hc (hexec.trans (congrArg _ (State.measureOver_noData hdata))) rfl rfl rfl).ends
    · have hgain : result = (c.profile.gain n).result := hresult.trans (c.profile.gain_result n).symm
      rw [hgain]
      exact (State.endsBy_taken hlaw hc (hexec.trans (congrArg _ (State.measureOver_last hw hs htop))) rfl rfl rfl).ends
  · have hexec := exec_tankReport r hheld hc
    rw [hk] at hexec
    have hexec : exec (.tankReport r) s = .next ((s.reportTaken r).reportToPump r c) := hexec
    obtain ⟨hempty, rfl, rfl⟩ | ⟨hempty, hout, rfl, rfl⟩ := hend
    · have hnone : result = [] := by
        obtain hstep | hstep := Cycle.pumpOut_step (hlaw.running c hc) hk <;> rw [hstep] at hresult <;> exact hresult
      rw [State.reportToPump, if_pos hempty] at hexec
      rw [hnone]
      split at hexec
      · next hstep =>
        rw [if_pos hstep]
        exact (State.endsBy_report hlaw hc hexec rfl rfl rfl).ends
      · next hstep =>
        rw [if_neg hstep]
        exact (State.endsBy_report hlaw hc hexec rfl rfl rfl).ends
    · obtain rfl : result = [] := hresult
      rw [State.reportToPump, if_neg (by simp [hempty]), if_pos hout] at hexec
      exact (State.endsBy_report hlaw hc hexec rfl rfl rfl).ends
  · obtain rfl : result = [] := hresult
    exact (State.endsBy_held r hlaw hheld hc hk hrun hclaims hs hq).ends
  · obtain rfl : result = [] := hresult
    exact (State.endsBy_request k hlaw hheld hc hk hrun hs hkind hr hh).ends
  · obtain rfl : result = [] := hresult
    exact (State.endsBy_taken hlaw hc (exec_airflowLost hheld hc hk) rfl rfl rfl).ends

end Sys2Proof.Machine
end

section
/-! What a cycle request comes to (R124–R128, R132). -/

namespace Sys2Proof.Machine
open State

variable {s v w : State} {k : CycleKind} {c : Cycle}

/-! ### Plans (R128) -/

theorem Banks.mem_damperPorts (b : Banks) (z a p : Nat) :
    (z, a, p) ∈ b.damperPorts ↔ z < 8 ∧ b.damperPort z = some (a, p) := by
  rw [Banks.damperPorts, List.mem_filterMap]
  constructor
  · rintro ⟨y, hy, h⟩
    obtain ⟨⟨a', p'⟩, hport, h⟩ := Option.map_eq_some_iff.1 h
    cases h
    exact ⟨List.mem_range.1 hy, hport⟩
  · rintro ⟨hz, hport⟩
    exact ⟨z, List.mem_range.2 hz, by rw [hport]; rfl⟩

/-- Plans read the banks and the zones alone. -/
theorem State.planOf_congr (hframe : (w.setCycles s.cycles).setPosts s.posts = s) (step : CycleStep) :
    w.planOf step = s.planOf step := by
  rw [← hframe]
  cases step <;> rfl

/-! ### A request that changes nothing, and one that waits (R125, R126) -/

theorem exec_cycleRequest_idle (hheld : s.held = false) (h : s.cycleRefusal k ≠ none ∨ s.cycles.has k = true) :
    exec (.cycleRequest k) s = .next (s.took (.cycleRequest k)) := by
  rw [exec_cycleRequest k hheld, State.requestCycle]
  split
  · rfl
  · next hr =>
    have hhas : (s.took (.cycleRequest k)).cycles.has k = true := h.resolve_left fun hne => hne hr
    rw [if_pos hhas]

theorem exec_cycleRequest_waits (hheld : s.held = false) (hr : s.cycleRefusal k = none) (hh : s.cycles.has k = false)
    (hc : s.cycles.running = some c) (hrun : c.held = false)
    (hstays : outranks k c.kind = false ∨ c.kind = .defrost ∨ c.kind = .pumpOut ∨ s.cycles.suspended ≠ none) :
    exec (.cycleRequest k) s = .next ((s.took (.cycleRequest k)).queuedWith k) := by
  rw [exec_cycleRequest_accepted k hheld hr hh, if_pos (by rw [hc]; rfl),
    State.preempt_stays (u := (s.took (.cycleRequest k)).queuedWith k) hc hstays,
    State.heldTest_stays (u := (s.took (.cycleRequest k)).queuedWith k) hc (.inl hrun)]

/-! ### A queued instance starts (R127, R128) -/

theorem State.started_queued (w : State) (k : CycleKind) : (w.started (Cycle.queued k)).kind = k ∧
    (w.started (Cycle.queued k)).step = firstStep k ∧ (w.started (Cycle.queued k)).held = false ∧
    (w.started (Cycle.queued k)).suspends = 0 ∧ (w.started (Cycle.queued k)).completed = 0 := by
  cases k <;> exact ⟨rfl, rfl, rfl, rfl, rfl⟩

/-- The instance of a kind as it first runs, with the parameters of s. -/
structure State.Starts (s : State) (k : CycleKind) (c : Cycle) : Prop where
  kind : c.kind = k
  step : c.step = firstStep k
  held : c.held = (k == .regen && s.cycles.tankHold)
  suspends : c.suspends = 0
  completed : c.completed = 0
  plan : c.plan = s.planOf c.step
  defrost : k = .defrost → c.cycleTimer = some (s.param 77 2) ∧ c.endTemp = s.paramInt 77 1 ∧ c.stepTimer = none
  pumpOut : k = .pumpOut → c.cycleTimer = some (s.param 77 4) ∧ c.flowTime = s.param 77 3 ∧ c.stepTimer = none
  regen : k = .regen → c.cycleTimer = none ∧ c.stepTimer = some (s.param 77 7)
  profile : k = .profile → c.cycleTimer = none ∧ c.stepTimer = some (s.param 77 9) ∧ c.profile.top = s.param 73 16 ∧
    c.profile.points = [[], [], []] ∧ ∀ i, i < 3 → c.profile.fitted[i]? = some (s.param 76 (8 * i) == 1)

theorem State.fittedStages_get (s : State) {i : Nat} (hi : i < 3) : s.fittedStages[i]? = some (s.param 76 (8 * i) == 1) := by
  rw [State.fittedStages, List.getElem?_map, List.getElem?_range hi]
  rfl

theorem State.starts_runAs (w : State) (k : CycleKind) : w.Starts k (w.runAs (w.started (Cycle.queued k))) := by
  obtain ⟨hkind, hstep, hheld, hsuspends, hcompleted⟩ := w.started_queued k
  refine ⟨hkind, hstep, ?_, hsuspends, hcompleted, rfl, ?_, ?_, ?_, ?_⟩
  · rw [State.runAs, hheld, hkind, Bool.false_or]
  · rintro rfl
    exact ⟨rfl, rfl, rfl⟩
  · rintro rfl
    exact ⟨rfl, rfl, rfl⟩
  · rintro rfl
    exact ⟨rfl, rfl⟩
  · rintro rfl
    exact ⟨rfl, rfl, rfl, rfl, fun i hi => w.fittedStages_get hi⟩

/-- The parameters, the plans and the mark are those of the state before. -/
theorem State.Starts.congr (h : w.Starts k c) (hframe : (w.setCycles s.cycles).setPosts s.posts = s)
    (hhold : w.cycles.tankHold = s.cycles.tankHold) : s.Starts k c := by
  have hbanks : w.banks = s.banks := (congrArg State.banks hframe :)
  have hparam (p o : Nat) : w.param p o = s.param p o := by rw [State.param, State.param, hbanks]
  have hint (p o : Nat) : w.paramInt p o = s.paramInt p o := by rw [State.paramInt, State.paramInt, hbanks]
  obtain ⟨hkind, hstep, hheld, hsuspends, hcompleted, hplan, hd, hp, hr, hf⟩ := h
  simp only [hparam, hint, hhold, State.planOf_congr hframe] at hheld hplan hd hp hr hf
  exact ⟨hkind, hstep, hheld, hsuspends, hcompleted, hplan, hd, hp, hr, hf⟩

/-- R127, R133: a queued instance that is picked starts, but with the latch set or without a fitted stage. -/
theorem State.pick_starts (hfree : v.cycles.running = none) (ht : v.takeHighest = some (true, Cycle.queued k, w))
    (hf : k = .pumpOut ∨ w.inter.fault = false) (hfit : k = .profile → ∃ i < 3, w.param 76 (8 * i) = 1) :
    v.pick = w.run true (w.started (Cycle.queued k)) := by
  refine v.pick_runs hfree ht (w.launch_clear hf fun hk => ?_)
  obtain rfl : k = .profile := hk
  obtain ⟨i, hi, hone⟩ := hfit rfl
  show w.fittedStages.all (· == false) = false
  rw [List.all_eq_false]
  refine ⟨true, List.mem_of_getElem? (i := i) ?_, by decide⟩
  rw [w.fittedStages_get hi, hone]
  rfl

/-- R127: the one instance that waits is picked and leaves its place. -/
theorem State.pick_last (hfree : v.cycles.running = none) (hq : v.cycles.queue = [c]) (hs : v.cycles.suspended = none) :
    v.pick.cycles.queue = [] ∧ v.pick.cycles.suspended = none := by
  have ht := v.takeHighest_queued hq hs
  obtain ⟨w, hw⟩ : ∃ w, w = v.setCycles { v.cycles with queue := [] } := ⟨_, rfl⟩
  have hwq : w.cycles.queue = [] := by rw [hw]; rfl
  have hws : w.cycles.suspended = none := by rw [hw]; exact hs
  rw [← hw] at ht
  cases hl : w.launch true c with
  | ends d o =>
    obtain ⟨hq', -, hs'⟩ := w.ended_places d false o []
    rw [v.pick_ends hfree ht hl hwq hws]
    exact ⟨hq'.trans hwq, hs'.trans hws⟩
  | runs d =>
    rw [v.pick_runs hfree ht hl, State.run_cycles]
    exact ⟨hwq, hws⟩

/-- R127, R128: what the start of an instance leaves. -/
theorem State.run_starts (hframe : (w.setCycles s.cycles).setPosts s.posts = s) (hhold : w.cycles.tankHold = s.cycles.tankHold)
    {t : State} (ht : t = w.run true (w.started (Cycle.queued k))) :
    ∃ c, t.cycles = { w.cycles with running := some c } ∧ s.Starts k c ∧
      .cyclePlan k (if c.held then [] else c.plan) ∈ t.posts ∧ (k = .defrost → .defrostRegimeSet ∈ t.posts) ∧
      (k = .regen → s.cycles.tankHold = false → .regenActive ∈ t.posts) := by
  have hstarts := w.starts_runAs k
  have hkind := (w.started_queued k).1
  have hposted := w.run_plan true (w.started (Cycle.queued k))
  have hplan : w.postedPlan (w.started (Cycle.queued k)) =
      if (w.runAs (w.started (Cycle.queued k))).held then [] else (w.runAs (w.started (Cycle.queued k))).plan := by
    rw [State.postedPlan, hkind, hstarts.held]
    rfl
  rw [hkind, hplan] at hposted
  rw [ht]
  exact ⟨_, w.run_cycles true _, hstarts.congr hframe hhold, hposted, fun hk => w.run_regimeSet (hkind.trans hk),
    fun hk hfree => w.run_regenActive true (hkind.trans hk) (hhold.trans hfree)⟩

/-- The posts of a starting instance come behind those in flight. -/
theorem State.run_posts {fresh : Bool} {e : Instr} (h : e ∈ w.posts) : e ∈ (w.run fresh c).posts :=
  (w.run_within fresh c).posts h

/-! ### A request alone (R127) -/

/-- R125: the engine as a request alone has left the queue, its instance picked. -/
def State.picked (k : CycleKind) (s : State) : State :=
  (s.took (.cycleRequest k)).setCycles { s.cycles with queue := [] }

section alone
variable (hfree : s.cycles.running = none) (hs : s.cycles.suspended = none) (hq : s.cycles.queue = [])

theorem exec_cycleRequest_alone (hfree : s.cycles.running = none) (hheld : s.held = false) (hr : s.cycleRefusal k = none)
    (hh : s.cycles.has k = false) : exec (.cycleRequest k) s = .next ((s.took (.cycleRequest k)).queuedWith k).pick := by
  rw [exec_cycleRequest_accepted k hheld hr hh, if_neg (by rw [hfree]; decide)]

theorem State.queuedWith_alone (u : State) (hq : u.cycles.queue = []) : (u.queuedWith k).cycles.queue = [Cycle.queued k] := by
  show enqueue (Cycle.queued k) u.cycles.queue = _
  rw [hq]
  rfl

include hs hq in
theorem State.takeHighest_alone : ((s.took (.cycleRequest k)).queuedWith k).takeHighest =
    some (true, Cycle.queued k, s.picked k) :=
  State.takeHighest_queued _ ((s.took (.cycleRequest k)).queuedWith_alone hq) hs

include hfree hs hq in
/-- R127.1: with the blower-fault latch set the instance fails at once. -/
theorem State.alone_fails (hk : k ≠ .pumpOut) (hf : s.inter.fault = true) :
    ((s.took (.cycleRequest k)).queuedWith k).pick = (s.picked k).ended (Cycle.queued k) false (.failed .airflow) [] :=
  State.pick_ends _ hfree (s.takeHighest_alone hs hq) ((s.picked k).launch_fault hk hf) rfl hs

include hfree hs hq in
theorem State.alone_starts (hf : k = .pumpOut ∨ s.inter.fault = false) (hfit : k = .profile → ∃ i < 3, s.param 76 (8 * i) = 1) :
    ((s.took (.cycleRequest k)).queuedWith k).pick = (s.picked k).run true ((s.picked k).started (Cycle.queued k)) :=
  State.pick_starts hfree (s.takeHighest_alone hs hq) hf hfit

end alone

end Sys2Proof.Machine
end

section
/-! A request that preempts the running cycle (R126), and O38. -/

namespace Sys2Proof.Machine
open State

variable {s u : State} {k : CycleKind} {c : Cycle}

/-! ### Ranks -/

theorem outranks_ne {x y : CycleKind} (h : outranks x y = true) : x ≠ y := by
  rintro rfl
  simp [outranks] at h

theorem outranks_asymm {x y : CycleKind} (h : outranks x y = true) : outranks y x = false := by
  simp only [outranks, decide_eq_true_eq, decide_eq_false_iff_not] at h ⊢
  omega

/-- PROFILE is the lowest kind. -/
theorem outranks_ne_profile {x y : CycleKind} (h : outranks x y = true) : x ≠ .profile := by
  rintro rfl
  cases y <;> simp [outranks, CycleKind.priority] at h

theorem suspendable_of {x : CycleKind} (h : x = .regen ∨ x = .profile) : suspendable x = true := by
  obtain rfl | rfl := h <;> rfl

/-! ### The two preemptions (R126) -/

/-- R126: the engine with the running cycle set aside. -/
def State.aside (c : Cycle) (u : State) : State :=
  (u.setCycles { u.cycles with running := none, suspended := some c.setAside }).post
    (.planRelease :: (if c.active then [.regenInactive] else []))

section preempts
variable (hc : u.cycles.running = some c) (hrank : outranks k c.kind = true) (hkind : c.kind = .regen ∨ c.kind = .profile)
  (hs : u.cycles.suspended = none)
include hc hrank hkind hs

theorem State.preempt_aside (hlt : c.suspends < 3) : u.preempt k = (u.aside c).pick := by
  rw [State.preempt, hc]
  refine (if_pos ?_).trans (if_pos hlt)
  rw [hrank, suspendable_of hkind, hs]
  rfl

theorem State.preempt_limit (hge : 3 ≤ c.suspends) : u.preempt k = u.endRunning c (.aborted .suspendLimit) [] := by
  rw [State.preempt, hc]
  refine (if_pos ?_).trans (if_neg (Nat.not_lt.2 hge))
  rw [hrank, suspendable_of hkind, hs]
  rfl

end preempts

theorem Cycle.regen_step (hfits : c.stepFits = true) (hk : c.kind = .regen) : c.step = .heat ∨ c.step = .purge := by
  unfold Cycle.stepFits at hfits
  rw [hk] at hfits
  split at hfits <;> simp_all

/-- R131, R133: what an instance set aside keeps. -/
theorem Cycle.setAside_regen (hfits : c.stepFits = true) (hk : c.kind = .regen) :
    c.setAside.step = c.step ∧ c.setAside.stepTimer = c.stepTimer := by
  refine ⟨?_, if_neg (by rw [hk]; decide)⟩
  show c.step.toResume = c.step
  obtain h | h := Cycle.regen_step hfits hk <;> rw [h] <;> rfl

theorem Cycle.setAside_profile {j : Nat} (h : c.step = .settle j ∨ c.step = .measure j) : c.setAside.step = .settle j := by
  show c.step.toResume = _
  obtain h | h := h <;> rw [h] <;> rfl

/-! ### What starts after the preemption (R127) -/

/-- What an event came to in the cycles alone leaves the rest of the state before. -/
theorem State.took_frame {i : Instr} {w : State} (h : (s.took i).Within [.cycles] w) :
    (w.setCycles s.cycles).setPosts s.posts = s :=
  (congrArg (fun v : State => (v.setCycles s.cycles).setPosts s.posts) h.restore_cycles :)

theorem State.queuedWith_within (u : State) (k : CycleKind) : u.Within [.cycles] (u.queuedWith k) :=
  (Within.refl u).setCycles (by simp)

/-- R127: the one instance queued, taken out. -/
def State.dequeued (v : State) : State := v.setCycles { v.cycles with queue := [] }

theorem State.dequeued_within (v : State) : v.Within [.cycles] v.dequeued := (Within.refl v).setCycles (by simp)

theorem State.dequeued_cycles (v : State) : v.dequeued.cycles = { v.cycles with queue := [] } := rfl

theorem State.dequeued_posts (v : State) : v.dequeued.posts = v.posts := rfl

theorem State.aside_within (u : State) (c : Cycle) : u.Within [.cycles] (u.aside c) :=
  ((Within.refl u).setCycles (by simp)).post

theorem State.aside_cycles (u : State) (c : Cycle) :
    (u.aside c).cycles = { u.cycles with running := none, suspended := some c.setAside } := rfl

theorem State.aside_posts (u : State) (c : Cycle) :
    (u.aside c).posts = u.posts ++ Instr.planRelease :: (if c.active then [.regenInactive] else []) := rfl

/-- R126: after the preemption the one instance queued is the one picked. -/
theorem State.takeHighest_aside (u : State) (hq : u.cycles.queue = [Cycle.queued k]) (hrank : outranks k c.kind = true) :
    (u.aside c).takeHighest = some (true, Cycle.queued k, (u.aside c).dequeued) :=
  (u.aside c).takeHighest_outranked hq rfl (outranks_asymm hrank)

theorem State.aside_pick (u : State) (hq : u.cycles.queue = [Cycle.queued k]) (hrank : outranks k c.kind = true)
    (hf : k = .pumpOut ∨ u.inter.fault = false) :
    (u.aside c).pick = (u.aside c).dequeued.run true ((u.aside c).dequeued.started (Cycle.queued k)) :=
  State.pick_starts rfl (u.takeHighest_aside hq hrank) hf fun hk => absurd hk (outranks_ne_profile hrank)

/-! ### The request that preempts -/

section request
variable (hheld : s.held = false) (hr : s.cycleRefusal k = none) (hh : s.cycles.has k = false)
  (hc : s.cycles.running = some c) (hrank : outranks k c.kind = true) (hkind : c.kind = .regen ∨ c.kind = .profile)
  (hs : s.cycles.suspended = none) (hq : s.cycles.queue = []) (hf : k = .pumpOut ∨ s.inter.fault = false)

/-- R125, R126: the state the instance that preempts starts in. -/
def State.preempted (k : CycleKind) (c : Cycle) (s : State) : State :=
  (((s.took (.cycleRequest k)).queuedWith k).aside c).dequeued

theorem State.preempted_frame : ((s.preempted k c).setCycles s.cycles).setPosts s.posts = s :=
  State.took_frame ((((s.took (.cycleRequest k)).queuedWith_within k).trans (State.aside_within _ c) (by simp)).trans
    (State.dequeued_within _) (by simp))

theorem State.preempted_cycles : (s.preempted k c).cycles =
    { s.cycles with queue := [], running := none, suspended := some c.setAside } := by
  rw [State.preempted, State.dequeued_cycles, State.aside_cycles]
  rfl

theorem State.preempted_posts {e : Instr} (he : e ∈ Instr.planRelease :: (if c.active then [.regenInactive] else [])) :
    e ∈ (s.preempted k c).posts := by
  rw [State.preempted, State.dequeued_posts, State.aside_posts]
  exact List.mem_append_right _ he

include hheld hr hh hc hrank hkind hs hq hf

/-- R126: the running cycle is set aside, and the one requested starts. -/
theorem exec_cycleRequest_aside (hlt : c.suspends < 3) : exec (.cycleRequest k) s =
    .next ((s.preempted k c).run true ((s.preempted k c).started (Cycle.queued k))) := by
  have hpick := ((s.took (.cycleRequest k)).queuedWith k).aside_pick (c := c)
    ((s.took (.cycleRequest k)).queuedWith_alone hq) hrank hf
  have hcycles := (s.preempted k c).run_cycles true ((s.preempted k c).started (Cycle.queued k))
  rw [State.preempted_cycles] at hcycles
  rw [exec_cycleRequest_accepted k hheld hr hh, if_pos (by rw [hc]; rfl),
    State.preempt_aside (u := (s.took (.cycleRequest k)).queuedWith k) hc hrank hkind hs hlt, hpick]
  exact congrArg _ (State.heldTest_stays (congrArg CycleEngine.running hcycles) (.inr (.inr (congrArg CycleEngine.queue hcycles))))

omit hq hf in
/-- R126: the fourth preemption ends the running cycle. -/
theorem exec_cycleRequest_limit (hge : 3 ≤ c.suspends)
    (halone : (((s.took (.cycleRequest k)).queuedWith k).endRunning c (.aborted .suspendLimit) []).cycles.suspended = none)
    {d : Cycle}
    (hd : (((s.took (.cycleRequest k)).queuedWith k).endRunning c (.aborted .suspendLimit) []).cycles.running = some d) :
    exec (.cycleRequest k) s =
      .next (((s.took (.cycleRequest k)).queuedWith k).endRunning c (.aborted .suspendLimit) []) := by
  rw [exec_cycleRequest_accepted k hheld hr hh, if_pos (by rw [hc]; rfl),
    State.preempt_limit (u := (s.took (.cycleRequest k)).queuedWith k) hc hrank hkind hs hge]
  exact congrArg _ (State.heldTest_stays hd (.inr (.inl halone)))

end request

/-- R127: after the end of the running cycle the one instance queued starts. -/
theorem State.endRunning_starts (o : CycleOutcome) (hq : u.cycles.queue = [Cycle.queued k]) (hs : u.cycles.suspended = none)
    (hf : k = .pumpOut ∨ u.inter.fault = false) (hk : k ≠ .profile) :
    ∃ d, (u.endRunning c o []).cycles.running = some d ∧ d.kind = k ∧ (u.endRunning c o []).cycles.suspended = none := by
  obtain ⟨hvq, hvr, hvs⟩ := (u.setRunning none).ended_places c true o []
  obtain ⟨v, hv⟩ : ∃ v, v = (u.setRunning none).ended c true o [] := ⟨_, rfl⟩
  have hinter : v.inter = u.inter := by
    rw [hv]
    rfl
  have hend : u.endRunning c o [] = v.pick := congrArg State.pick hv.symm
  rw [← hv] at hvq hvr hvs
  rw [hend, State.pick_starts hvr (v.takeHighest_queued (hvq.trans hq) (hvs.trans hs)) (hinter ▸ hf) fun h => absurd h hk,
    State.run_cycles]
  exact ⟨_, rfl, (State.started_queued _ k).1, hvs.trans hs⟩

/-! ### O38 -/

/-- Settles O38: an accepted request joins the queue, and the pick or the preemption that follows decides the rest. -/
theorem cycleRequestsQueueStartOrPreempt : Obligations.CycleRequestsQueueStartOrPreempt := by
  intro k s hheld
  refine ⟨fun n live every => ⟨fun z a p => s.banks.mem_damperPorts z a p, ?plans⟩, s.cycleRefusal_eq_none k,
    fun h => exec_cycleRequest_idle hheld h, fun hr hh => ⟨?waits, ?alone, ?aside, ?limit⟩⟩
  case plans =>
    rintro rfl rfl
    refine ⟨rfl, rfl, rfl, rfl, rfl, fun step hstep => ?_⟩
    obtain rfl | hstep := List.mem_cons.1 hstep
    · rfl
    · obtain rfl := List.mem_singleton.1 hstep
      rfl
  case waits =>
    intro c hc hrun hstays
    exact ⟨_, enqueue_perm (Cycle.queued k) s.cycles.queue,
      fun x hx => (enqueue_perm (Cycle.queued k) s.cycles.queue).mem_iff.2 (List.mem_cons_of_mem _ hx),
      exec_cycleRequest_waits hheld hr hh hc hrun hstays⟩
  case alone =>
    intro hfree hs hq
    obtain ⟨hlastq, hlasts⟩ := State.pick_last (v := (s.took (.cycleRequest k)).queuedWith k) hfree
      ((s.took (.cycleRequest k)).queuedWith_alone hq) hs
    refine ⟨_, exec_cycleRequest_alone hfree hheld hr hh, hlastq, hlasts,
      State.took_frame (((s.took (.cycleRequest k)).queuedWith_within k).trans (State.pick_within _) (by simp)),
      fun hk hf => ?fails, fun hf hfit => ?starts⟩
    case fails =>
      obtain ⟨-, hrunning, -⟩ := (s.picked k).ended_places (Cycle.queued k) false (.failed .airflow) []
      rw [State.alone_fails hfree hs hq hk hf]
      exact ⟨hrunning.trans hfree, (s.picked k).ended_record_same (Cycle.queued k) false (.failed .airflow) [],
        List.mem_append_right _ (by simp [failPost])⟩
    case starts =>
      rw [State.alone_starts hfree hs hq hf hfit]
      obtain ⟨w, hw⟩ : ∃ w, w = s.picked k := ⟨_, rfl⟩
      have hframe : (w.setCycles s.cycles).setPosts s.posts = s := by rw [hw]; rfl
      have hhold : w.cycles.tankHold = s.cycles.tankHold := by rw [hw]; rfl
      rw [← hw]
      obtain ⟨c, hcycles, hc, hplan, hdefrost, hregen⟩ := State.run_starts hframe hhold (k := k) rfl
      refine ⟨c, congrArg CycleEngine.running hcycles, hc.kind, ?_, hc.held, hc.suspends, hc.completed, hc.plan, hc.defrost,
        hc.pumpOut, hc.regen, hc.profile, fun h => ?_, fun h => ?_, ⟨_, hplan⟩, hdefrost, hregen⟩
      · rw [hc.step]
        cases k <;> rfl
      · rwa [h] at hplan
      · rwa [h] at hplan
  case aside =>
    intro c hc hrank hkind hs hq hlt hf
    have hexec := exec_cycleRequest_aside hheld hr hh hc hrank hkind hs hq hf hlt
    have hframe := s.preempted_frame (k := k) (c := c)
    have hcycles := s.preempted_cycles (k := k) (c := c)
    have hposts {e : Instr} := s.preempted_posts (k := k) (c := c) (e := e)
    obtain ⟨w, hw⟩ : ∃ w, w = s.preempted k c := ⟨_, rfl⟩
    rw [← hw] at hexec hframe hcycles hposts
    obtain ⟨d, hd, hstarts, -⟩ := State.run_starts hframe (by rw [hcycles]) (k := k) rfl
    rw [hcycles] at hd
    refine ⟨_, d, c.setAside, hexec, congrArg CycleEngine.running hd, hstarts.kind, congrArg CycleEngine.suspended hd, rfl, rfl,
      rfl, fun hk hlaw => Cycle.setAside_regen ((s.cycleLaw_iff.1 hlaw).running c hc) hk,
      fun _ => ⟨rfl, rfl, rfl, rfl, fun j hj => Cycle.setAside_profile hj⟩, congrArg CycleEngine.queue hd,
      State.run_posts (hposts List.mem_cons_self), fun ha => State.run_posts (hposts ?_)⟩
    rw [ha]
    exact List.mem_cons_of_mem _ (List.mem_singleton_self _)
  case limit =>
    intro c hc hrank hkind hs hq hge hf
    have hqueue := (s.took (.cycleRequest k)).queuedWith_alone (k := k) hq
    obtain ⟨d, hd, hdk, halone⟩ := State.endRunning_starts (u := (s.took (.cycleRequest k)).queuedWith k) (c := c)
      (.aborted .suspendLimit) hqueue hs hf (outranks_ne_profile hrank)
    refine ⟨_, d, exec_cycleRequest_limit hheld hr hh hc hrank hkind hs hge halone hd, hd, hdk, halone, ?record,
      State.endRunning_posts (by simp), fun hk => State.endRunning_posts (by simp [outcomePost, hk]),
      fun hk => State.endRunning_posts (by simp [outcomePost, hk])⟩
    refine State.endRunning_record (u := (s.took (.cycleRequest k)).queuedWith k) ?_
    rintro (⟨x, hx, hxk⟩ | ⟨x, hx, -⟩)
    · rw [hqueue] at hx
      obtain rfl := List.mem_singleton.1 hx
      exact outranks_ne hrank hxk
    · have hx : s.cycles.suspended = some x := hx
      rw [hs] at hx
      cases hx

end Sys2Proof.Machine
end

section
/-! The steps of a running cycle that goes on (R128–R133). -/

namespace Sys2Proof.Machine
open State

variable {s : State} {c : Cycle}

/-! ### The events, while a cycle runs -/

section commands
variable (hheld : s.held = false) (hc : s.cycles.running = some c)
include hheld hc

theorem exec_cycleOutputChanged (o : Output) (v : Nat) : exec (.cycleOutputChanged o v) s = .next
    (if o = .pump ∧ v ≠ 0 ∧ c.step = .prime
      then (s.took (.cycleOutputChanged o v)).setRunning (some { c with stepTimer := some c.flowTime })
      else s.took (.cycleOutputChanged o v)) := by
  refine (taking_awake s (.cycleOutputChanged o v) (fun s => match s.cycles.running with
    | none => s
    | some c => if o = .pump ∧ v ≠ 0 ∧ c.step = .prime then s.setRunning (some { c with stepTimer := some c.flowTime })
      else s) hheld).trans (congrArg _ ?_)
  rw [State.setPosts_cycles, hc]

theorem exec_pumpFlow (v : Nat) (q : Quality) : exec (.pumpFlow (some (v, q))) s = .next
    (if c.step = .prime ∧ 0 < v
      then (s.took (.pumpFlow (some (v, q)))).beginStep { c with step := .drain, stepTimer := none, completed := 1 }
      else s.took (.pumpFlow (some (v, q)))) := by
  refine (taking_awake s (.pumpFlow (some (v, q))) (State.pumpFlow v) hheld).trans (congrArg _ ?_)
  rw [State.pumpFlow, State.setPosts_cycles, hc]

theorem exec_stepTimerExpiry_idle (h : c.stepTimer = none ∨ c.held = true) :
    exec .stepTimerExpiry s = .next (s.took .stepTimerExpiry) := by
  refine (taking_awake s .stepTimerExpiry (fun s => match s.cycles.running with
    | none => s
    | some c => if c.stepTimer.isSome && !c.held then s.stepOver c else s) hheld).trans (congrArg _ ?_)
  rw [State.setPosts_cycles, hc]
  refine if_neg ?_
  obtain h | h := h <;> simp [h]

theorem exec_cycleTimerExpiry_idle (h : c.cycleTimer = none) :
    exec .cycleTimerExpiry s = .next (s.took .cycleTimerExpiry) := by
  refine (taking_awake s .cycleTimerExpiry (fun s => match s.cycles.running with
    | none => s
    | some c => if c.cycleTimer.isSome then s.cycleOver c else s) hheld).trans (congrArg _ ?_)
  rw [State.setPosts_cycles, hc]
  exact if_neg (by simp [h])

end commands

theorem exec_pumpFlow_none (hheld : s.held = false) : exec (.pumpFlow none) s = .next (s.took (.pumpFlow none)) :=
  taking_awake s (.pumpFlow none) (fun s => s) hheld

theorem exec_dpSample_none (hheld : s.held = false) (st : Stage) :
    exec (.dpSample st none) s = .next (s.took (.dpSample st none)) :=
  taking_awake s (.dpSample st none) (fun s => s) hheld

theorem exec_dpSample (hheld : s.held = false) (st : Stage) (v : Nat) (q : Quality) :
    exec (.dpSample st (some (v, q))) s = .next ((s.took (.dpSample st (some (v, q)))).dpSample st v) :=
  taking_awake s (.dpSample st (some (v, q))) (State.dpSample st v) hheld

/-! ### Samples of a MEASURE (R133) -/

section samples
variable {u : State} (hc : u.cycles.running = some c)
include hc

theorem State.dpSample_other {st : Stage} {v : Nat}
    (h : (∀ k, c.step ≠ .measure k) ∨ c.profile.fitted.getD (Stage.index st) false = false) : u.dpSample st v = u := by
  rw [State.dpSample, hc]
  dsimp only
  split
  · next k hstep =>
    have hfit : c.profile.isFitted st = false := h.resolve_left fun h => h k hstep
    exact if_pos (by rw [hfit]; rfl)
  all_goals rfl

variable {k : Nat} (hstep : c.step = .measure k) {st : Stage}
  (hfit : c.profile.fitted.getD (Stage.index st) false = true)
include hstep hfit

theorem State.dpSample_measure (v : Nat) : u.dpSample st v =
    if c.profile.waiting then if u.blowerOutput = k then u.beginMeasure c k (ProfileData.addSample st v) else u
    else u.setRunning (some { c with profile := c.profile.addSample st v }) := by
  have hfit : c.profile.isFitted st = true := hfit
  rw [State.dpSample, hc]
  dsimp only
  rw [hstep]
  exact if_neg (by rw [hfit]; decide)

end samples

theorem Stage.index_lt (st : Stage) : Stage.index st < 3 := by cases st <;> decide

theorem ProfileData.addSample_sums (p : ProfileData) (st : Stage) (v : Nat) {x : Nat × Nat}
    (hx : p.sums[Stage.index st]? = some x) : (p.addSample st v).sums[Stage.index st]? = some (x.1 + v, x.2 + 1) := by
  show (modifyAt _ p.sums _)[Stage.index st]? = _
  rw [getElem?_modifyAt, if_pos rfl, hx]
  rfl

/-- R133: the first sample of a MEASURE that begins. -/
theorem ProfileData.first_sums (p : ProfileData) (st : Stage) (v : Nat) {i : Nat} (hi : i < 3) :
    (p.measureStart.addSample st v).sums[i]? = some (if i = Stage.index st then (v, 1) else (0, 0)) := by
  have hzero : p.measureStart.sums[i]? = some (0, 0) := by
    show ([(0, 0), (0, 0), (0, 0)] : List (Nat × Nat))[i]? = _
    interval_cases i <;> rfl
  show (modifyAt _ p.measureStart.sums _)[i]? = _
  rw [getElem?_modifyAt, hzero, apply_ite some]
  congr 1
  simp

/-! ### Steps that give way to the next (R131, R133) -/

section steps
variable {u : State} {k : Nat}

theorem State.stepOver_heat (h : c.step = .heat) : u.stepOver c =
    u.beginStep { c with step := .purge, stepTimer := some (u.param 77 8), completed := 1 } := by
  rw [State.stepOver, h]

theorem State.stepOver_settle (h : c.step = .settle k) : u.stepOver c = u.settleOver c k := by rw [State.stepOver, h]

theorem State.stepOver_measure (h : c.step = .measure k) : u.stepOver c = u.measureOver c k := by rw [State.stepOver, h]

theorem State.settleOver_measures (u : State) (c : Cycle) (k : Nat) : ∃ d, (u.settleOver c k).cycles.running = some d ∧
    d.step = .measure k ∧ d.stepTimer = some (u.param 77 10) ∧
    d.profile.waiting = (if u.blowerOutput = k then false else true) := by
  unfold State.settleOver
  split
  · exact ⟨_, rfl, rfl, rfl, rfl⟩
  · exact ⟨_, rfl, rfl, rfl, rfl⟩

theorem State.measureOver_next (hw : c.profile.waiting = false) (hs : c.profile.starved = false) (htop : k < c.profile.top) :
    u.measureOver c k = u.beginStep { c with
      completed := k, profile := c.profile.gain k, step := .settle (k + 1), stepTimer := some (u.param 77 9) } := by
  have hdata : ¬ (c.profile.waiting || c.profile.starved) = true := by simp [hw, hs]
  exact (if_neg hdata).trans (if_neg (Nat.not_le.2 htop))

end steps

/-! ### A REGEN and its tank (R132) -/

theorem State.reportToRegen_free {u : State} (ht : u.cycles.tankHold = false) (hheld : c.held = true) :
    u.reportToRegen c = u.unholdRegen c := by
  rw [State.reportToRegen, ht, hheld]
  rfl

theorem exec_tankReport_freed (r : TankReport) (hheld : s.held = false) (hc : s.cycles.running = some c)
    (hk : c.kind = .regen) (hhold : c.held = true) (hclaims : claimsTank r.state = false) :
    exec (.tankReport r) s = .next ((s.reportTaken r).unholdRegen c) := by
  rw [exec_tankReport r hheld hc, hk]
  exact congrArg _ (State.reportToRegen_free hclaims hhold)

theorem exec_tankReport_holds (r : TankReport) (hheld : s.held = false) (hc : s.cycles.running = some c)
    (hk : c.kind = .regen) (hrun : c.held = false) (hclaims : claimsTank r.state = true) (hs : s.cycles.suspended = none) :
    exec (.tankReport r) s = .next ((s.reportTaken r).regenHeld c) := by
  rw [exec_tankReport_held r hheld hc hk hrun hclaims]
  have hcycles := (s.reportTaken r).regenHeld_cycles (c := c)
  obtain ⟨u, hu⟩ : ∃ u, u = (s.reportTaken r).regenHeld c := ⟨_, rfl⟩
  rw [← hu] at hcycles ⊢
  exact congrArg _ (State.heldTest_stays (congrArg CycleEngine.running hcycles)
    (.inr (.inl ((congrArg CycleEngine.suspended hcycles :).trans hs))))

/-- Settles O39, an event at a time. -/
theorem runningCycleAdvances : Obligations.RunningCycleAdvances := by
  intro s c hheld hc
  refine ⟨fun v hstep hv => ?turnsOn, fun o v h => ?output, fun v q hstep hv => ?flow, fun x h => ?noFlow,
    fun hstep hrun ht => ⟨_, _, (exec_stepTimerExpiry hheld hc ht hrun).trans (congrArg _ (State.stepOver_heat hstep)), rfl, rfl⟩,
    exec_stepTimerExpiry_idle hheld hc, exec_cycleTimerExpiry_idle hheld hc, fun k hstep hrun ht => ?settle,
    fun k hstep hrun ht hw hs htop => ?measure, fun k st v q hstep hfit hw => ?sample,
    fun k st v q hstep hfit hw => ⟨fun hb => ?begins, fun hb => ?waits⟩, fun st v q h => ?other,
    exec_dpSample_none hheld, fun r hk hrun hclaims hs => ?held, fun r hk hhold hclaims => ?freed, fun r h => ?report⟩
  case turnsOn => exact (exec_cycleOutputChanged hheld hc .pump v).trans (congrArg _ (if_pos ⟨rfl, hv, hstep⟩))
  case output =>
    refine (exec_cycleOutputChanged hheld hc o v).trans (congrArg _ (if_neg ?_))
    rintro ⟨ho, hv, hstep⟩
    obtain h | h | h := h
    · exact h ho
    · exact hv h
    · exact h hstep
  case flow => exact (exec_pumpFlow hheld hc v q).trans (congrArg _ (if_pos ⟨hstep, hv⟩))
  case noFlow =>
    cases x with
    | none => exact exec_pumpFlow_none hheld
    | some x =>
      refine (exec_pumpFlow hheld hc x.1 x.2).trans (congrArg _ (if_neg ?_))
      rintro ⟨hstep, hv⟩
      obtain h | h | ⟨q, h⟩ := h
      · exact h hstep
      · cases h
      · cases h
        exact Nat.lt_irrefl 0 hv
  case settle =>
    obtain ⟨d, hd⟩ := (s.took .stepTimerExpiry).settleOver_measures c k
    exact ⟨_, d, (exec_stepTimerExpiry hheld hc ht hrun).trans (congrArg _ (State.stepOver_settle hstep)), hd⟩
  case measure =>
    refine ⟨_, _, (exec_stepTimerExpiry hheld hc ht hrun).trans (congrArg _ ((State.stepOver_measure hstep).trans
      (State.measureOver_next hw hs htop))), rfl, rfl, rfl, rfl, fun i hi hfit => c.profile.gain_point k hi hfit⟩
  case sample =>
    refine ⟨_, _, (exec_dpSample hheld st v q).trans (congrArg _ ((State.dpSample_measure (u := s.took _) hc hstep hfit v).trans
      (if_neg (by rw [hw]; decide)))), rfl, rfl, fun x hx => c.profile.addSample_sums st v hx, rfl⟩
  case begins =>
    refine ⟨_, _, (exec_dpSample hheld st v q).trans (congrArg _ ((State.dpSample_measure (u := s.took _) hc hstep hfit v).trans
      ((if_pos hw).trans (if_pos hb)))), rfl, rfl, rfl, rfl, fun i hi => c.profile.first_sums st v hi, rfl,
      List.mem_append_right _ (List.mem_singleton_self _)⟩
  case waits =>
    exact (exec_dpSample hheld st v q).trans (congrArg _ ((State.dpSample_measure (u := s.took _) hc hstep hfit v).trans
      ((if_pos hw).trans (if_neg hb))))
  case other => exact (exec_dpSample hheld st v q).trans (congrArg _ (State.dpSample_other (u := s.took _) hc h))
  case held =>
    refine ⟨_, exec_tankReport_holds r hheld hc hk hrun hclaims hs, rfl, hclaims,
      List.mem_append_right _ List.mem_cons_self, fun ha => List.mem_append_right _ (List.mem_cons_of_mem _ ?_)⟩
    rw [ha]
    exact List.mem_singleton_self _
  case freed => exact ⟨_, exec_tankReport_freed r hheld hc hk hhold hclaims, rfl, hclaims, rfl⟩
  case report =>
    rw [exec_tankReport r hheld hc]
    obtain hk | hk := h <;> rw [hk] <;> rfl

end Sys2Proof.Machine
end

section
/-! An allocation loads the filters (R142–R146). -/

namespace Sys2Proof.Machine
open State

variable (s : State)

/-- What changes the monitor and the posts alone, after what did. -/
theorem State.filters_frame_trans {u v : State} (hu : (u.setFilters s.filters).setPosts s.posts = s)
    (hv : (v.setFilters u.filters).setPosts u.posts = u) : (v.setFilters s.filters).setPosts s.posts = s := by
  rw [← hv] at hu
  exact hu

theorem State.setPosts_self (u : State) : u.setPosts u.posts = u := rfl

/-! ### Fitted stages -/

theorem Filters.anyFitted_iff (f : Filters) (test : StageRecord → Bool) :
    f.anyFitted test = true ↔ ∃ g, (f.stage g).fitted = true ∧ test (f.stage g) = true := by
  have hall (g : Stage) : g ∈ stages := by cases g <;> decide
  rw [Filters.anyFitted, List.any_eq_true]
  exact ⟨fun ⟨g, _, h⟩ => ⟨g, (Bool.and_eq_true_iff.1 h)⟩, fun ⟨g, h⟩ => ⟨g, hall g, Bool.and_eq_true_iff.2 h⟩⟩

@[simp] theorem StageRecord.ifFitted_pos {r : StageRecord} (h : r.fitted = true) (g : StageRecord → StageRecord) :
    r.ifFitted g = g r := if_pos h

@[simp] theorem StageRecord.ifFitted_neg {r : StageRecord} (h : r.fitted = false) (g : StageRecord → StageRecord) :
    r.ifFitted g = r := if_neg (by simp [h])

/-- R142: the evaluation of a fitted stage. -/
theorem StageRecord.evaluate_pos (p : StageParams) {r : StageRecord} (h : r.fitted = true) : r.evaluate p =
    { r with state := r.standing p, doorOpened := r.doorOpened && isLoaded (r.standing p) } := if_pos h

theorem StageRecord.evaluate_neg (p : StageParams) {r : StageRecord} (h : r.fitted = false) : r.evaluate p = r :=
  if_neg (by simp [h])

/-- R143: the condition posts depend on what is fitted and on the states alone. -/
theorem State.filterNews_congr {s t u : State} {news : List Instr} (h : s.FilterNews t news)
    (hstage : ∀ g, (u.filters.stage g).fitted = (t.filters.stage g).fitted ∧
      (u.filters.stage g).state = (t.filters.stage g).state) : s.FilterNews u news := by
  intro wornWas wornIs spentWas spentIs hw0 hw1 hs0 hs1
  simp only [fun g => (hstage g).1, fun g => (hstage g).2] at hw1 hs1
  exact h wornWas wornIs spentWas spentIs hw0 hw1 hs0 hs1

/-! ### The charge (R144, R145) -/

/-- §9.2: the concentrations the statement names are those of the model. -/
theorem Zone.concentration_eq {conc : Zone → Stage → Nat}
    (h : ∀ (z : Zone) (val : ZoneField → Nat), (∀ f, val f = if (z.readings.get f).quality = .good ∨
        (z.readings.get f).quality = .clamped then (z.readings.get f).value.toNat else 0) →
      conc z .pre = val .pmFine + val .pmCoarse ∧ conc z .fine = val .pmFine ∧ conc z .sorb = val .voc) :
    conc = Zone.concentration := by
  funext z st
  obtain ⟨hpre, hfine, hsorb⟩ := h z (fun f => (z.readings.get f).concentration) fun f => by
    simp only [Reading.concentration, Reading.counts, Bool.or_eq_true, beq_iff_eq]
  cases st
  · exact hpre
  · exact hfine
  · exact hsorb

theorem State.meanProduct_eq (st : Stage) : s.meanProduct st =
    if s.zones.filter (fun z => z.state == .live) = [] then 0
    else (if s.blowerOutput = 0 then 0 else s.param 73 (s.blowerOutput - 1) * s.filters.derate / 100) *
      ((s.zones.filter fun z => z.state == .live).map fun z => z.concentration st).sum /
      (s.zones.filter fun z => z.state == .live).length := by
  simp only [State.meanProduct, List.isEmpty_iff, State.effectiveAirflow]

theorem State.chargeGain_eq (r : AllocRecord) (st : Stage) : s.chargeGain r st =
    (if r.applied then ((List.range 8).map fun z => r.assigned.getD z 0 * (s.zone z).concentration st).sum
      else if s.zones.filter (fun z => z.state == .live) = [] then 0
      else (if s.blowerOutput = 0 then 0 else s.param 73 (s.blowerOutput - 1) * s.filters.derate / 100) *
        ((s.zones.filter fun z => z.state == .live).map fun z => z.concentration st).sum /
        (s.zones.filter fun z => z.state == .live).length) *
      (s.param 78 0 * (if s.ring.level = .watch then s.param 78 1 else 1)) *
      s.param 76 (8 * Stage.index st + 5) / 65536 := by
  rw [← s.meanProduct_eq st]
  rfl

/-! ### The steps of an allocation (R146) -/

/-- R144: every fitted stage charged and evaluated. -/
def State.charged (r : AllocRecord) (s : State) : State :=
  s.filterChange fun f => f.mapStages fun st x => x.ifFitted (StageRecord.addCharge (s.chargeGain r st))

/-- R146.3: the run sweeps of a stage after an allocation. -/
def State.runAfter (s : State) (n : Nat) : Nat := if s.blowerOutput = 0 then n else min (n + 1) 65535

section stages
variable (st : Stage)

theorem State.charged_stage (r : AllocRecord) : (s.charged r).filters.stage st =
    ((s.filters.stage st).ifFitted (StageRecord.addCharge (s.chargeGain r st))).evaluate (s.stageParams st) := by
  rw [State.charged, State.filterChange_stage, Filters.stage_mapStages]

theorem State.countRun_stage : s.countRun.filters.stage st =
    (s.filters.stage st).ifFitted fun x => { x with runSweeps := s.runAfter x.runSweeps } := by
  unfold State.countRun State.runAfter
  split
  · exact (ite_self _).symm
  · exact Filters.stage_mapStages _ _ _

theorem State.profileStep_stage : s.profileStep.filters.stage st =
    if s.profileDue then (s.filters.stage st).ifFitted fun x => { x with runSweeps := 0 } else s.filters.stage st := by
  unfold State.profileStep
  split
  · exact (Filters.stage_congr (f := s.filters.restartRun) rfl rfl rfl st).trans (Filters.stage_mapStages _ _ _)
  · exact Filters.stage_congr rfl rfl rfl st

theorem State.profileStep_mark : s.profileStep.filters.baselineReq = false := by
  unfold State.profileStep
  split <;> rfl

theorem State.profileStep_posts :
    s.profileStep.posts = s.posts ++ (if s.profileDue then [.cycleRequest .profile] else []) := by
  unfold State.profileStep
  split
  · rfl
  · exact (List.append_nil _).symm

theorem State.profileStep_rest : (s.profileStep.setFilters s.filters).setPosts s.posts = s := by
  unfold State.profileStep
  split <;> rfl

theorem State.profileStep_kept : s.profileStep.filters.derate = s.filters.derate ∧ s.profileStep.filters.door = s.filters.door := by
  unfold State.profileStep
  split <;> exact ⟨rfl, rfl⟩

theorem State.countRun_kept : s.countRun.setFilters s.filters = s ∧ s.countRun.filters.derate = s.filters.derate ∧
    s.countRun.filters.door = s.filters.door ∧ s.countRun.filters.baselineReq = s.filters.baselineReq := by
  unfold State.countRun
  split <;> exact ⟨rfl, rfl, rfl, rfl⟩

end stages

/-- R146.4: when a PROFILE is called for. -/
theorem State.profileDue_iff : s.profileDue = true ↔
    0 < s.param 76 24 ∧ (∃ g, (s.filters.stage g).fitted = true ∧ s.param 76 24 ≤ (s.filters.stage g).runSweeps) ∨
    s.filters.baselineReq = true ∧ ∃ g, (s.filters.stage g).fitted = true ∧ (s.filters.stage g).baseline = none := by
  simp only [State.profileDue, Bool.or_eq_true, Bool.and_eq_true, decide_eq_true_eq, Filters.anyFitted_iff, Option.isNone_iff_eq_none]

/-! ### The allocation as one event -/

section event
variable (r : AllocRecord)

/-- R146: the monitor as an allocation leaves it, before the PROFILE request. -/
def State.allocated (s : State) : State := (s.charged r).countRun

theorem exec_filterAllocation (hheld : s.held = false) :
    exec (.filterAllocation r) s = .next ((s.took (.filterAllocation r)).allocated r).profileStep :=
  taking_awake s (.filterAllocation r) (fun s => (s.allocated r).profileStep) hheld

theorem State.allocated_rest : ((s.allocated r).setFilters s.filters).setPosts s.posts = s := by
  have hcharged : ((s.charged r).setFilters s.filters).setPosts s.posts = s := s.filterChange_frame _
  exact State.filters_frame_trans s hcharged
    ((congrArg (State.setPosts · (s.charged r).posts) (s.charged r).countRun_kept.1).trans (State.setPosts_self _))

theorem State.allocated_posts : (s.allocated r).posts = s.posts ++ filterPosts s.filters (s.charged r).filters :=
  (congrArg State.posts (s.charged r).countRun_kept.1 :)

theorem State.allocated_neg (st : Stage) (h : (s.filters.stage st).fitted = false) :
    (s.allocated r).filters.stage st = s.filters.stage st := by
  have hcharged : (s.charged r).filters.stage st = s.filters.stage st := by
    rw [State.charged_stage, StageRecord.ifFitted_neg h, StageRecord.evaluate_neg _ h]
  rw [State.allocated, State.countRun_stage, hcharged, StageRecord.ifFitted_neg h]

/-- R144: a stage with its charge added. -/
def State.chargedStage (s : State) (st : Stage) : StageRecord := (s.filters.stage st).addCharge (s.chargeGain r st)

theorem State.allocated_pos (st : Stage) (h : (s.filters.stage st).fitted = true) :
    (s.allocated r).filters.stage st =
      { (s.chargedStage r st).evaluate (s.stageParams st) with
        runSweeps := s.runAfter (s.filters.stage st).runSweeps } := by
  have hfit : (s.chargedStage r st).fitted = true := h
  have hcharged : (s.charged r).filters.stage st = (s.chargedStage r st).evaluate (s.stageParams st) := by
    rw [State.charged_stage, StageRecord.ifFitted_pos h]
    rfl
  have hfitted : ((s.chargedStage r st).evaluate (s.stageParams st)).fitted = true := by
    rw [StageRecord.evaluate_pos _ hfit]
    exact h
  rw [State.allocated, State.countRun_stage, hcharged, StageRecord.ifFitted_pos hfitted, StageRecord.evaluate_pos _ hfit]
  rfl

theorem State.allocated_seen (st : Stage) :
    ((s.allocated r).filters.stage st).fitted = (s.filters.stage st).fitted ∧
      ((s.allocated r).filters.stage st).baseline = (s.filters.stage st).baseline ∧
      ((s.filters.stage st).fitted = true →
        ((s.allocated r).filters.stage st).runSweeps = s.runAfter (s.filters.stage st).runSweeps) := by
  cases h : (s.filters.stage st).fitted with
  | false =>
    rw [s.allocated_neg r st h]
    exact ⟨h, rfl, nofun⟩
  | true =>
    rw [s.allocated_pos r st h, StageRecord.evaluate_pos _ (show (s.chargedStage r st).fitted = true from h)]
    exact ⟨h, rfl, fun _ => rfl⟩

theorem State.allocated_kept : (s.allocated r).filters.derate = s.filters.derate ∧
    (s.allocated r).filters.door = s.filters.door ∧ (s.allocated r).filters.baselineReq = s.filters.baselineReq := by
  obtain ⟨-, hderate, hdoor, hreq⟩ := (s.charged r).countRun_kept
  exact ⟨hderate, hdoor, hreq⟩

/-- R146.4: after the charge and the run sweeps a PROFILE is called for. -/
theorem State.allocated_due : (s.allocated r).profileDue = true ↔
    0 < s.param 76 24 ∧ (∃ g, (s.filters.stage g).fitted = true ∧
      s.param 76 24 ≤ s.runAfter (s.filters.stage g).runSweeps) ∨
    s.filters.baselineReq = true ∧ ∃ g, (s.filters.stage g).fitted = true ∧ (s.filters.stage g).baseline = none := by
  have hbanks : (s.allocated r).banks = s.banks := (congrArg State.banks (s.allocated_rest r) :)
  have hparam : (s.allocated r).param 76 24 = s.param 76 24 := by rw [State.param, State.param, hbanks]
  rw [State.profileDue_iff, hparam, (s.allocated_kept r).2.2]
  refine or_congr (and_congr_right fun _ => exists_congr fun g => ?_) (and_congr_right fun _ => exists_congr fun g => ?_)
  · obtain ⟨hfitted, -, hrun⟩ := s.allocated_seen r g
    rw [hfitted]
    exact and_congr_right fun h => by rw [hrun h]
  · obtain ⟨hfitted, hbaseline, -⟩ := s.allocated_seen r g
    rw [hfitted, hbaseline]

theorem State.profileStep_seen (v : State) (g : Stage) :
    (v.profileStep.filters.stage g).fitted = (v.filters.stage g).fitted ∧
      (v.profileStep.filters.stage g).state = (v.filters.stage g).state := by
  rw [State.profileStep_stage]
  unfold StageRecord.ifFitted
  split
  · split <;> exact ⟨rfl, rfl⟩
  · exact ⟨rfl, rfl⟩

theorem State.countRun_seen (v : State) (g : Stage) : (v.countRun.filters.stage g).fitted = (v.filters.stage g).fitted ∧
    (v.countRun.filters.stage g).state = (v.filters.stage g).state := by
  rw [State.countRun_stage]
  unfold StageRecord.ifFitted
  split <;> exact ⟨rfl, rfl⟩

theorem State.allocated_news :
    s.FilterNews (s.allocated r).profileStep (filterPosts s.filters (s.charged r).filters) := by
  refine State.filterNews_congr (filterPosts_news s (s.charged r)) fun g => ?_
  obtain ⟨hf, hs⟩ := (s.allocated r).profileStep_seen g
  obtain ⟨hf', hs'⟩ := (s.charged r).countRun_seen g
  exact ⟨hf.trans hf', hs.trans hs'⟩

/-- R142, R146: a fitted stage after an allocation. -/
theorem State.allocated_record (st : Stage) (h : (s.filters.stage st).fitted = true) :
    (s.allocated r).profileStep.filters.stage st = { (s.chargedStage r st).evaluate (s.stageParams st) with
      runSweeps := if (s.allocated r).profileDue then 0 else s.runAfter (s.filters.stage st).runSweeps } := by
  have hfitted := (s.allocated_seen r st).1.trans h
  rw [State.profileStep_stage, StageRecord.ifFitted_pos hfitted, s.allocated_pos r st h]
  split <;> rfl

theorem State.allocated_unfitted (st : Stage) (h : (s.filters.stage st).fitted = false) :
    (s.allocated r).profileStep.filters.stage st = s.filters.stage st := by
  have hfitted := (s.allocated_seen r st).1.trans h
  rw [State.profileStep_stage, StageRecord.ifFitted_neg hfitted, s.allocated_neg r st h, ite_self]

end event

/-- Settles O43: the charge, the run sweeps and the PROFILE request of `allocated` and `profileStep`, stage by stage. -/
theorem allocationLoadsTheFilters : Obligations.AllocationLoadsTheFilters := by
  intro r s st x life threshold gain conc Due hheld hx hlife hthreshold hconc hgain hdue
  rw [Zone.concentration_eq hconc] at hgain
  have hgain : gain = s.chargeGain r st := hgain.trans (s.chargeGain_eq r st).symm
  obtain ⟨u, hu⟩ : ∃ u, u = s.took (.filterAllocation r) := ⟨_, rfl⟩
  have hframe : (u.setFilters s.filters).setPosts s.posts = s := by rw [hu]; rfl
  have hfilters : u.filters = s.filters := by rw [hu]; rfl
  have hposts : u.posts = s.posts.erase (.filterAllocation r) := by rw [hu]; rfl
  have hcharge : u.chargedStage r st = x.addCharge gain := by rw [hx, hgain, hu]; rfl
  have hparams : u.stageParams st = s.stageParams st := by rw [hu]; rfl
  have hrunAfter (n : Nat) : u.runAfter n = if s.blowerOutput = 0 then n else min (n + 1) 65535 := by rw [hu]; rfl
  have hdue : (u.allocated r).profileDue = true ↔ Due := by
    have hparam : u.param 76 24 = s.param 76 24 := by rw [hu]; rfl
    rw [u.allocated_due r, hdue, hparam, hfilters]
    simp only [hrunAfter]
  have hrest := (u.allocated r).profileStep_rest
  have hallocated := u.allocated_rest r
  obtain ⟨hderate, hdoor⟩ := (u.allocated r).profileStep_kept
  obtain ⟨hderate', hdoor', -⟩ := u.allocated_kept r
  refine ⟨_, _, (exec_filterAllocation s r hheld).trans (by rw [← hu]), rfl, ?frame, hderate.trans (hderate'.trans (by rw [hfilters])),
    hdoor.trans (hdoor'.trans (by rw [hfilters])), State.profileStep_mark _, fun hf => ?unfitted, fun hf => ?fitted,
    filterPosts u.filters (u.charged r).filters, ?news, fun h => ?posts, fun h => ?posts'⟩
  case frame =>
    exact State.filters_frame_trans s (State.filters_frame_trans s hframe hallocated) hrest
  case unfitted =>
    rw [hx] at hf ⊢
    rw [u.allocated_unfitted r st (by rw [hfilters]; exact hf), hfilters]
  case fitted =>
    have hfit : (x.addCharge gain).fitted = true := hf
    have hstands := StageRecord.evaluate_stands s st (x.addCharge gain) hfit life threshold hlife hthreshold
    rw [u.allocated_record r st (by rw [hfilters, ← hx]; exact hf), hcharge, hparams, hrunAfter, hfilters, ← hx]
    rw [StageRecord.evaluate_pos _ hfit] at hstands ⊢
    exact ⟨rfl, rfl, rfl, rfl, hf, hstands.1, hstands.2.1, hstands.2.2, fun h => if_pos (hdue.2 h),
      fun h => if_neg fun h' => h (hdue.1 h')⟩
  case news =>
    have h := u.allocated_news r
    rw [State.FilterNews, hfilters] at h
    rw [hfilters]
    exact h
  case posts =>
    rw [State.profileStep_posts, State.allocated_posts, if_pos (hdue.2 h), hposts]
  case posts' =>
    rw [State.profileStep_posts, State.allocated_posts, if_neg fun h' => h (hdue.1 h'), hposts, List.append_nil]

end Sys2Proof.Machine
end

section
/-! Profiles, the rise, the derate and swaps (R142, R147–R149, R153). -/

namespace Sys2Proof.Machine
open State

variable (s : State)

/-! ### The rise (R148) -/

theorem le_foldl_max : ∀ (xs : List Int) (a b : Int), b ≤ a ∨ b ∈ xs → b ≤ xs.foldl max a
  | [], _, _, h => h.resolve_right nofun
  | x :: xs, a, b, h => le_foldl_max xs (max a x) b (by
      obtain h | h := h
      · exact .inl (h.trans (le_max_left a x))
      · obtain rfl | h := List.mem_cons.1 h
        · exact .inl (le_max_right a b)
        · exact .inr h)

theorem foldl_max_mem : ∀ (xs : List Int) (a : Int), xs.foldl max a = a ∨ xs.foldl max a ∈ xs
  | [], _ => .inl rfl
  | x :: xs, a => by
    obtain h | h := foldl_max_mem xs (max a x)
    · obtain he | he := max_choice a x
      · exact .inl (h.trans he)
      · exact .inr (List.mem_cons.2 (.inl (h.trans he)))
    · exact .inr (List.mem_cons_of_mem _ h)

theorem le_largest {xs : List Int} {x : Int} (h : x ∈ xs) : x ≤ largest xs := by
  cases xs with
  | nil => cases h
  | cons y ys =>
    obtain rfl | h := List.mem_cons.1 h
    · exact le_foldl_max ys x x (.inl (le_refl x))
    · exact le_foldl_max ys y x (.inr h)

theorem largest_mem {xs : List Int} (h : xs ≠ []) : largest xs ∈ xs := by
  cases xs with
  | nil => exact absurd rfl h
  | cons y ys => exact List.mem_cons.2 (foldl_max_mem ys y)

theorem mem_commonSteps {b l : Curve} {k x y : Nat} : (k, x, y) ∈ commonSteps b l ↔ (k, y) ∈ l ∧ Curve.at b k = some x := by
  rw [commonSteps, List.mem_filterMap]
  constructor
  · rintro ⟨⟨k', y'⟩, hp, h⟩
    obtain ⟨x', hx, h⟩ := Option.map_eq_some_iff.1 h
    cases h
    exact ⟨hp, hx⟩
  · rintro ⟨hp, hx⟩
    exact ⟨(k, y), hp, by rw [hx]; rfl⟩

/-- R148: the growth in percent at each common step with a baseline drop above 0. -/
def gains (b l : Curve) : List Int :=
  ((commonSteps b l).filter fun c => decide (0 < c.2.1)).map fun c => (((c.2.2 : Int) - c.2.1) * 100).tdiv c.2.1

theorem rise_eq (b l : Curve) : rise b l = largest (gains b l) := rfl

theorem mem_gains {b l : Curve} {g : Int} : g ∈ gains b l ↔ ∃ (k : Nat) (x y : Nat), (k, y) ∈ l ∧ Curve.at b k = some x ∧ 0 < x ∧
    g = (((y : Int) - x) * 100).tdiv x := by
  simp only [gains, List.mem_map, List.mem_filter, decide_eq_true_eq]
  constructor
  · rintro ⟨⟨k, x, y⟩, ⟨hmem, hx⟩, rfl⟩
    obtain ⟨hl, hb⟩ := mem_commonSteps.1 hmem
    exact ⟨k, x, y, hl, hb, hx, rfl⟩
  · rintro ⟨k, x, y, hl, hb, hx, rfl⟩
    exact ⟨(k, x, y), ⟨mem_commonSteps.2 ⟨hl, hb⟩, hx⟩, rfl⟩

/-- R148: the rise is the largest gain, 0 for none. -/
theorem rise_largest (b l : Curve) {Gain : Int → Prop} (h : ∀ g, Gain g ↔ g ∈ gains b l) :
    (∀ g, Gain g → g ≤ rise b l) ∧ ((∃ g, Gain g) → Gain (rise b l)) ∧ ((∀ g, ¬ Gain g) → rise b l = 0) := by
  rw [rise_eq]
  refine ⟨fun g hg => le_largest ((h g).1 hg), fun ⟨g, hg⟩ => (h _).2 (largest_mem fun hnil => ?_), fun hnone => ?_⟩
  · have hg := (h g).1 hg
    rw [hnil] at hg
    cases hg
  · rw [List.eq_nil_iff_forall_not_mem.2 fun g hg => hnone g ((h g).2 hg)]
    rfl

/-! ### The derate (R149) -/

/-- In a curve with rising steps a step has one drop. -/
theorem Curve.at_eq_some {l : Curve} (hwf : l.wf = true) {k y : Nat} : Curve.at l k = some y ↔ (k, y) ∈ l := by
  have hrising : (l.map Prod.fst).Pairwise (· < ·) := of_decide_eq_true (Bool.and_eq_true_iff.1 hwf).2
  have hnodup : (l.map Prod.fst).Nodup := hrising.imp Nat.ne_of_lt
  rw [Curve.at, Option.map_eq_some_iff]
  constructor
  · rintro ⟨⟨k', y'⟩, hfind, rfl⟩
    obtain rfl : k' = k := by simpa using List.find?_some hfind
    exact List.mem_of_find?_eq_some hfind
  · intro hmem
    have hsome : (l.find? fun p => p.1 == k).isSome = true := List.find?_isSome.2 ⟨(k, y), hmem, beq_self_eq_true k⟩
    obtain ⟨p, hfind⟩ := Option.isSome_iff_exists.1 hsome
    have hk : p.1 = k := by simpa using List.find?_some hfind
    exact ⟨p, hfind, congrArg Prod.snd (List.inj_on_of_nodup_map hnodup (List.mem_of_find?_eq_some hfind) hmem hk)⟩

theorem commonSteps_rising {b l : Curve} (hwf : l.wf = true) : (commonSteps b l).Pairwise fun x y => x.1 < y.1 := by
  have hrising : (l.map Prod.fst).Pairwise (· < ·) := of_decide_eq_true (Bool.and_eq_true_iff.1 hwf).2
  rw [List.pairwise_map] at hrising
  refine List.pairwise_filterMap.2 (hrising.imp ?_)
  intro p q hlt x hx y hy
  obtain ⟨_, -, rfl⟩ := Option.map_eq_some_iff.1 hx
  obtain ⟨_, -, rfl⟩ := Option.map_eq_some_iff.1 hy
  exact hlt

/-- The highest common step of two curves is the last one listed. -/
theorem commonSteps_getLast {b l : Curve} (hwf : l.wf = true) {k x y : Nat} (hx : Curve.at b k = some x)
    (hy : Curve.at l k = some y) (htop : ∀ j, k < j → Curve.at b j = none ∨ Curve.at l j = none) :
    (commonSteps b l).getLast? = some (k, x, y) := by
  have hmem : (k, x, y) ∈ commonSteps b l := mem_commonSteps.2 ⟨(Curve.at_eq_some hwf).1 hy, hx⟩
  cases hlast : (commonSteps b l).getLast? with
  | none =>
    rw [List.getLast?_eq_none_iff.1 hlast] at hmem
    cases hmem
  | some p =>
    obtain ⟨k', x', y'⟩ := p
    obtain ⟨ys, hys⟩ := List.getLast?_eq_some_iff.1 hlast
    have hrising := commonSteps_rising (b := b) hwf
    rw [hys] at hmem hrising
    obtain hin | hin := List.mem_append.1 hmem
    · have hlt : k < k' := (List.pairwise_append.1 hrising).2.2 _ hin _ (List.mem_singleton_self _)
      obtain ⟨hl', hb'⟩ := mem_commonSteps.1 (hys ▸ List.mem_append_right ys (List.mem_singleton_self (k', x', y')))
      obtain h | h := htop k' hlt
      · rw [h] at hb'
        cases hb'
      · rw [(Curve.at_eq_some hwf).2 hl'] at h
        cases h
    · rw [List.mem_singleton.1 hin]

theorem commonSteps_nil {b l : Curve} (hwf : l.wf = true) (h : ∀ k, Curve.at b k = none ∨ Curve.at l k = none) :
    commonSteps b l = [] := by
  refine List.eq_nil_iff_forall_not_mem.2 fun ⟨k, x, y⟩ hmem => ?_
  obtain ⟨hl, hb⟩ := mem_commonSteps.1 hmem
  obtain h | h := h k
  · rw [h] at hb
    cases hb
  · rw [(Curve.at_eq_some hwf).2 hl] at h
    cases h

theorem Filters.withDerate_pair {f : Filters} {b l : Curve} (hf : f.fine.fitted = true) (hb : f.fine.baseline = some b)
    (hl : f.fine.last = some l) : f.withDerate.derate = derateOf b l := by
  rw [Filters.withDerate]
  show (match f.fine.fitted, f.fine.baseline, f.fine.last with | true, some b, some l => derateOf b l | _, _, _ => 100) = _
  rw [hf, hb, hl]

theorem Filters.withDerate_lacking {f : Filters} (h : f.fine.fitted = false ∨ f.fine.baseline = none ∨ f.fine.last = none) :
    f.withDerate.derate = 100 := by
  unfold Filters.withDerate
  dsimp only
  split
  · next hf hb hl =>
    rw [hf, hb, hl] at h
    simp at h
  · rfl

/-- R149: the derate recomputed is the one the rule gives. -/
theorem Filters.withDerate_set (f : Filters) : f.withDerate.DerateSet := by
  refine ⟨f.withDerate_lacking, fun b l hf hb hl hwf => ?_, f.withDerate_range.1, f.withDerate_range.2⟩
  rw [Filters.withDerate_pair (f := f) hf hb hl, derateOf]
  refine ⟨fun h => ?_, fun k x y hx hy htop => ?_⟩
  · rw [commonSteps_nil hwf h]
    rfl
  · rw [commonSteps_getLast hwf hx hy htop]

theorem Filters.derateSet_congr {f g : Filters} (h : f.DerateSet) (hfitted : g.fine.fitted = f.fine.fitted)
    (hbaseline : g.fine.baseline = f.fine.baseline) (hlast : g.fine.last = f.fine.last) (hderate : g.derate = f.derate) :
    g.DerateSet := by
  rw [Filters.DerateSet, hfitted, hbaseline, hlast, hderate]
  exact h

/-! ### A curve taken (R147, R148) -/

theorem StageRecord.takeCurve_first {r : StageRecord} (h : r.baseline = none) (limit : Nat) (c : Curve) :
    r.takeCurve limit c = { r with baseline := some c, last := none } := by
  rw [StageRecord.takeCurve, h]

theorem StageRecord.takeCurve_next {r : StageRecord} {b : Curve} (h : r.baseline = some b) (limit : Nat) (c : Curve) :
    r.takeCurve limit c = { r with last := some c, verdict := verdictAfter limit (rise b c) r.verdict } := by
  rw [StageRecord.takeCurve, h]

theorem verdictAfter_cases (limit : Nat) (g : Int) (v : Verdict) :
    (2 * (limit : Int) ≤ g → verdictAfter limit g v = .spent) ∧
    ((limit : Int) ≤ g → g < 2 * (limit : Int) → verdictAfter limit g v = if v = .none then .worn else v) ∧
    (g < limit → verdictAfter limit g v = v) := by
  refine ⟨fun h => if_pos h, fun hle hlt => ?_, fun h => ?_⟩
  · refine (if_neg (Int.not_le.2 hlt)).trans ?_
    simp only [hle, true_and]
  · have hlow : ¬ 2 * (limit : Int) ≤ g := by omega
    exact (if_neg hlow).trans (if_neg fun h' => absurd h'.1 (Int.not_le.2 h))

theorem StageRecord.evaluate_seen (p : StageParams) (r : StageRecord) :
    (r.evaluate p).baseline = r.baseline ∧ (r.evaluate p).last = r.last ∧ (r.evaluate p).verdict = r.verdict := by
  unfold StageRecord.evaluate StageRecord.ifFitted
  split <;> exact ⟨rfl, rfl, rfl⟩

/-- R142: the door-opened mark stands while the stage is WORN or SPENT. -/
theorem StageRecord.evaluate_door (p : StageParams) {r : StageRecord} (h : r.fitted = true)
    (hloaded : (r.evaluate p).state = .worn ∨ (r.evaluate p).state = .spent) :
    (r.evaluate p).doorOpened = r.doorOpened := by
  rw [r.evaluate_pos p h] at hloaded ⊢
  show (r.doorOpened && isLoaded (r.standing p)) = _
  have hstate : r.standing p = .worn ∨ r.standing p = .spent := hloaded
  obtain h | h := hstate <;> rw [h] <;> exact Bool.and_true _

/-- R142, R149: a filter change that sets the derate leaves it set. -/
theorem State.filterChange_derateSet {f : Filters → Filters} (h : (f s.filters).DerateSet) :
    (s.filterChange f).filters.DerateSet := by
  have hfine := s.filterChange_stage f .fine
  obtain ⟨hbaseline, hlast, -⟩ := ((f s.filters).stage .fine).evaluate_seen (s.stageParams .fine)
  have hfitted := (((f s.filters).stage .fine).evaluate_keeps (s.stageParams .fine)).1
  rw [← hfine] at hbaseline hlast hfitted
  exact Filters.derateSet_congr h hfitted hbaseline hlast rfl

/-! ### A profile's outcome (R147) -/

section profile
variable (rs : List (Option Curve)) (st : Stage)

/-- R147: a stage with the curve a profile gives it. -/
def StageRecord.profiled (limit : Nat) (x : Option Curve) (r : StageRecord) : StageRecord :=
  match x with
  | none => r
  | some c => r.ifFitted (StageRecord.takeCurve limit c)

theorem StageRecord.profiled_neg (limit : Nat) (x : Option Curve) {r : StageRecord} (h : r.fitted = false) :
    r.profiled limit x = r := by
  cases x with
  | none => rfl
  | some c => exact StageRecord.ifFitted_neg h _

theorem StageRecord.profiled_keeps (limit : Nat) (x : Option Curve) (r : StageRecord) :
    (r.profiled limit x).fitted = r.fitted ∧ (r.profiled limit x).runSweeps = r.runSweeps ∧
      (r.profiled limit x).charge = r.charge ∧ (r.profiled limit x).doorOpened = r.doorOpened := by
  cases x with
  | none => exact ⟨rfl, rfl, rfl, rfl⟩
  | some c =>
    rw [StageRecord.profiled]
    unfold StageRecord.ifFitted StageRecord.takeCurve
    split
    · split <;> exact ⟨rfl, rfl, rfl, rfl⟩
    · exact ⟨rfl, rfl, rfl, rfl⟩

/-- R147: every fitted stage takes its curve, and the derate is recomputed. -/
def State.profileTaken (rs : List (Option Curve)) (s : State) : State :=
  s.filterChange fun f => (f.mapStages fun st r =>
    r.profiled (s.stageParams st).rise (rs.getD (Stage.index st) none)).withDerate

theorem exec_profileOutcome_done (hheld : s.held = false) : exec (.profileOutcome .done rs) s =
    .next ((s.took (.profileOutcome .done rs)).profileTaken rs) := by
  refine (taking_awake s (.profileOutcome .done rs) (State.takeProfile .done rs) hheld).trans (congrArg _ ?_)
  exact if_pos rfl

theorem exec_profileOutcome_other {o : CycleOutcome} (hheld : s.held = false) (ho : o ≠ .done) :
    exec (.profileOutcome o rs) s = .next (s.took (.profileOutcome o rs)) :=
  (taking_awake s (.profileOutcome o rs) (State.takeProfile o rs) hheld).trans (congrArg _ (if_neg ho))

theorem State.profileTaken_stage : (s.profileTaken rs).filters.stage st =
    ((s.filters.stage st).profiled (s.stageParams st).rise (rs.getD (Stage.index st) none)).evaluate (s.stageParams st) := by
  rw [State.profileTaken, State.filterChange_stage, Filters.stage_withDerate, Filters.stage_mapStages]

end profile

/-! ### A swap taken (R153) -/

/-- R153: which stages are fitted is read from the live page. -/
def State.swapTaken (s : State) : State :=
  s.filterChange fun f =>
    { (f.mapStages fun st r => { r with fitted := s.pageFitted st }).withDerate with
      baselineReq := f.baselineReq || s.becomesFitted }

theorem exec_filterSwapTaken (hheld : s.held = false) :
    exec .filterSwapTaken s = .next (s.took .filterSwapTaken).swapTaken :=
  taking_awake s .filterSwapTaken State.swapTaken hheld

theorem State.swapTaken_stage (st : Stage) : s.swapTaken.filters.stage st =
    { s.filters.stage st with fitted := s.pageFitted st }.evaluate (s.stageParams st) := by
  rw [State.swapTaken, State.filterChange_stage]
  congr 1
  cases st <;> rfl

theorem State.becomesFitted_iff :
    s.becomesFitted = true ↔ ∃ st, s.pageFitted st = true ∧ (s.filters.stage st).fitted = false := by
  have hall (st : Stage) : st ∈ stages := by cases st <;> decide
  simp only [State.becomesFitted, List.any_eq_true, Bool.and_eq_true, Bool.not_eq_true']
  exact ⟨fun ⟨st, _, h⟩ => ⟨st, h⟩, fun ⟨st, h⟩ => ⟨st, hall st, h⟩⟩

end Sys2Proof.Machine
end

section
/-! Profiles and swaps set the stages (R142, R143, R147–R149, R153). -/

namespace Sys2Proof.Machine
open State

variable {s : State}

/-! ### After a profile -/

/-- What a filter change of the state that took an event leaves outside the monitor. -/
theorem State.took_filterChange_frame (i : Instr) (f : Filters → Filters) :
    (((s.took i).filterChange f).setFilters s.filters).setPosts s.posts = s :=
  State.filters_frame_trans s (u := s.took i) rfl ((s.took i).filterChange_frame f)

section profile
variable (rs : List (Option Curve)) (st : Stage)

theorem State.profileTaken_unfitted (h : (s.filters.stage st).fitted = false) :
    (s.profileTaken rs).filters.stage st = s.filters.stage st := by
  rw [State.profileTaken_stage, StageRecord.profiled_neg _ _ h, StageRecord.evaluate_neg _ h]

theorem State.profileTaken_fitted (h : (s.filters.stage st).fitted = true) :
    ((s.profileTaken rs).filters.stage st).fitted = true ∧ s.StageStands st ((s.profileTaken rs).filters.stage st) ∧
      ((s.profileTaken rs).filters.stage st).runSweeps = (s.filters.stage st).runSweeps ∧
      (((s.profileTaken rs).filters.stage st).state = .worn ∨ ((s.profileTaken rs).filters.stage st).state = .spent →
        ((s.profileTaken rs).filters.stage st).doorOpened = (s.filters.stage st).doorOpened) := by
  rw [State.profileTaken_stage]
  obtain ⟨hfitted, hrun, -, hdoor⟩ :=
    (s.filters.stage st).profiled_keeps (s.stageParams st).rise (rs.getD (Stage.index st) none)
  obtain ⟨hfitted', -, hrun'⟩ := ((s.filters.stage st).profiled (s.stageParams st).rise
    (rs.getD (Stage.index st) none)).evaluate_keeps (s.stageParams st)
  have hfit := hfitted.trans h
  exact ⟨hfitted'.trans hfit, StageRecord.evaluate_stands s st _ hfit, hrun'.trans hrun,
    fun hloaded => (StageRecord.evaluate_door _ hfit hloaded).trans hdoor⟩

/-- R147: a stage without a new curve keeps its curves, its verdict and its charge. -/
theorem State.profileTaken_without (h : rs.getD (Stage.index st) none = none ∨ (s.filters.stage st).fitted = false) :
    ((s.profileTaken rs).filters.stage st).baseline = (s.filters.stage st).baseline ∧
      ((s.profileTaken rs).filters.stage st).last = (s.filters.stage st).last ∧
      ((s.profileTaken rs).filters.stage st).verdict = (s.filters.stage st).verdict ∧
      ((s.profileTaken rs).filters.stage st).charge = (s.filters.stage st).charge := by
  have hsame : (s.filters.stage st).profiled (s.stageParams st).rise (rs.getD (Stage.index st) none) =
      s.filters.stage st := by
    obtain h | h := h
    · rw [h]
      rfl
    · exact StageRecord.profiled_neg _ _ h
  rw [State.profileTaken_stage, hsame]
  obtain ⟨hbaseline, hlast, hverdict⟩ := (s.filters.stage st).evaluate_seen (s.stageParams st)
  exact ⟨hbaseline, hlast, hverdict, ((s.filters.stage st).evaluate_keeps _).2.1⟩

/-- R147, R148: a fitted stage with a new curve. -/
theorem State.profileTaken_curve {c : Curve} (hc : rs.getD (Stage.index st) none = some c)
    (h : (s.filters.stage st).fitted = true) :
    ((s.profileTaken rs).filters.stage st).baseline =
        ((s.filters.stage st).takeCurve (s.stageParams st).rise c).baseline ∧
      ((s.profileTaken rs).filters.stage st).last = ((s.filters.stage st).takeCurve (s.stageParams st).rise c).last ∧
      ((s.profileTaken rs).filters.stage st).verdict =
        ((s.filters.stage st).takeCurve (s.stageParams st).rise c).verdict ∧
      ((s.profileTaken rs).filters.stage st).charge = (s.filters.stage st).charge := by
  have hcurve : (s.filters.stage st).profiled (s.stageParams st).rise (rs.getD (Stage.index st) none) =
      (s.filters.stage st).takeCurve (s.stageParams st).rise c := by
    rw [hc]
    exact StageRecord.ifFitted_pos h _
  rw [State.profileTaken_stage, hcurve]
  obtain ⟨hbaseline, hlast, hverdict⟩ := ((s.filters.stage st).takeCurve (s.stageParams st).rise c).evaluate_seen (s.stageParams st)
  exact ⟨hbaseline, hlast, hverdict, (StageRecord.evaluate_keeps _ _).2.1.trans
    (StageRecord.takeCurve_keeps _ _ _).2.1⟩

end profile

/-! ### After a swap -/

section swap
variable (st : Stage)

theorem State.swapTaken_fitted : (s.swapTaken.filters.stage st).fitted = s.pageFitted st := by
  rw [State.swapTaken_stage]
  exact (StageRecord.evaluate_keeps _ _).1

theorem State.swapTaken_keeps : (s.swapTaken.filters.stage st).charge = (s.filters.stage st).charge ∧
    (s.swapTaken.filters.stage st).runSweeps = (s.filters.stage st).runSweeps ∧
    (s.swapTaken.filters.stage st).baseline = (s.filters.stage st).baseline ∧
    (s.swapTaken.filters.stage st).last = (s.filters.stage st).last ∧
    (s.swapTaken.filters.stage st).verdict = (s.filters.stage st).verdict := by
  rw [State.swapTaken_stage]
  obtain ⟨hbaseline, hlast, hverdict⟩ :=
    StageRecord.evaluate_seen (s.stageParams st) { s.filters.stage st with fitted := s.pageFitted st }
  obtain ⟨-, hcharge, hrun⟩ :=
    StageRecord.evaluate_keeps (s.stageParams st) { s.filters.stage st with fitted := s.pageFitted st }
  exact ⟨hcharge, hrun, hbaseline, hlast, hverdict⟩

theorem State.swapTaken_stands (h : (s.swapTaken.filters.stage st).fitted = true) :
    s.StageStands st (s.swapTaken.filters.stage st) := by
  rw [State.swapTaken_fitted] at h
  rw [State.swapTaken_stage]
  exact StageRecord.evaluate_stands s st _ h

theorem State.swapTaken_unfitted (h : (s.swapTaken.filters.stage st).fitted = false) :
    (s.swapTaken.filters.stage st).state = (s.filters.stage st).state ∧
      (s.swapTaken.filters.stage st).doorOpened = (s.filters.stage st).doorOpened := by
  rw [State.swapTaken_fitted] at h
  have hsame := StageRecord.evaluate_neg (s.stageParams st) (r := { s.filters.stage st with fitted := s.pageFitted st }) h
  rw [State.swapTaken_stage, hsame]
  exact ⟨rfl, rfl⟩

theorem State.swapTaken_mark : s.swapTaken.filters.baselineReq = (s.filters.baselineReq || s.becomesFitted) := rfl

/-- R153: a stage that becomes fitted sets the baseline request. -/
theorem State.swapTaken_made (h : (s.swapTaken.filters.stage st).fitted = true) (hwas : (s.filters.stage st).fitted = false) :
    s.swapTaken.filters.baselineReq = true := by
  rw [State.swapTaken_fitted] at h
  rw [State.swapTaken_mark, s.becomesFitted_iff.2 ⟨st, h, hwas⟩, Bool.or_true]

theorem State.swapTaken_unmade (h : ∀ st, (s.swapTaken.filters.stage st).fitted = true → (s.filters.stage st).fitted = true) :
    s.swapTaken.filters.baselineReq = s.filters.baselineReq := by
  have hnone : s.becomesFitted = false := by
    rw [Bool.eq_false_iff]
    intro hmade
    obtain ⟨st, hpage, hwas⟩ := s.becomesFitted_iff.1 hmade
    have his := h st ((s.swapTaken_fitted st).trans hpage)
    rw [hwas] at his
    cases his
  rw [State.swapTaken_mark, hnone, Bool.or_false]

end swap

/-- Settles O44: a profile's outcome and a swap are filter changes, read stage by stage. -/
theorem profilesAndSwapsSetTheStages : Obligations.ProfilesAndSwapsSetTheStages := by
  intro s hheld
  refine ⟨fun o rs ho => exec_profileOutcome_other s rs hheld ho, fun rs => ?profile, fun rs st c hc hf => ?curve,
    fun b l Gain h => rise_largest b l fun g => (h g).trans mem_gains.symm, ?swap⟩
  case profile =>
    refine ⟨_, _, exec_profileOutcome_done s rs hheld, State.took_filterChange_frame _ _,
      filterPosts_news s ((s.took (.profileOutcome .done rs)).profileTaken rs), rfl,
      State.filterChange_derateSet _ (Filters.withDerate_set _), fun st h => State.profileTaken_unfitted rs st h,
      fun st h => State.profileTaken_fitted (s := s.took (.profileOutcome .done rs)) rs st h,
      fun st h => State.profileTaken_without rs st h⟩
  case curve =>
    obtain ⟨hbaseline, hlast, hverdict, hcharge⟩ :=
      State.profileTaken_curve (s := s.took (.profileOutcome .done rs)) rs st hc hf
    refine ⟨_, exec_profileOutcome_done s rs hheld, State.took_filterChange_frame _ _, fun hb => ?_, fun b hb => ?_, hcharge⟩
    · have htake := StageRecord.takeCurve_first hb (s.stageParams st).rise c
      exact ⟨hbaseline.trans (congrArg StageRecord.baseline htake :), hlast.trans (congrArg StageRecord.last htake :),
        hverdict.trans (congrArg StageRecord.verdict htake :)⟩
    · have htake := StageRecord.takeCurve_next hb (s.stageParams st).rise c
      have hafter := hverdict.trans (congrArg StageRecord.verdict htake :)
      obtain ⟨hspent, hworn, hnone⟩ := verdictAfter_cases (s.stageParams st).rise (rise b c) (s.filters.stage st).verdict
      exact ⟨(hbaseline.trans (congrArg StageRecord.baseline htake :)).trans hb,
        hlast.trans (congrArg StageRecord.last htake :), fun h => hafter.trans (hspent h),
        fun h h' => hafter.trans (hworn h h'), fun h => hafter.trans (hnone h)⟩
  case swap =>
    refine ⟨_, _, exec_filterSwapTaken s hheld, State.took_filterChange_frame _ _,
      filterPosts_news s (s.took .filterSwapTaken).swapTaken, rfl,
      State.filterChange_derateSet _ (Filters.derateSet_congr (Filters.withDerate_set _) rfl rfl rfl rfl),
      fun st h => State.swapTaken_stands (s := s.took .filterSwapTaken) st h, fun st h => State.swapTaken_unfitted st h,
      fun st => ?_, fun st => ?_, fun st h hwas => State.swapTaken_made st h hwas, State.swapTaken_unmade⟩
    · obtain ⟨-, hrun, -, -, hverdict⟩ := (s.took .filterSwapTaken).swapTaken_keeps st
      exact ⟨hverdict, hrun⟩
    · obtain ⟨hcharge, -, hbaseline, hlast, -⟩ := (s.took .filterSwapTaken).swapTaken_keeps st
      exact ⟨State.swapTaken_fitted st, hcharge, hbaseline, hlast⟩

end Sys2Proof.Machine
end

section
/-! The live bank and the swap (R157, R166, R167). -/

namespace Sys2Proof.Machine
open State

variable {b b' : Banks} {l l' : Loader} {s : State}

/-! ### The shadow and the live bank -/

theorem Banks.shadowId_eq (b : Banks) : b.shadowId = if b.live = some .a then .b else .a := by
  unfold Banks.shadowId
  cases h : b.live with
  | none => rfl
  | some id => cases id <;> rfl

theorem Banks.bank_committed (b : Banks) (p : Nat) (id : BankId) :
    (b.committed p).bank id = (b.putShadow p (b.builtPage p) .written).bank id := by
  cases id <;> rfl

/-- R157: what is written goes to the shadow. -/
theorem Banks.bank_putShadow_live {id : BankId} (h : b.live = some id) (p : Nat) (ws : List Word) (st : PageStatus) :
    (b.putShadow p ws st).bank id = b.bank id := b.putShadow_live p ws st id h

/-- R157: a command that leaves the selector at a bank leaves the bank. -/
theorem BanksStep.keeps_live_bank {id : BankId} (hstep : BanksStep b l b' l') (hlive : b.live = some id)
    (hlive' : b'.live = some id) : b'.bank id = b.bank id := by
  have hswap {x : Banks} (hx : x.live = b.live) (h : x.swapped.live = some id) : False :=
    x.shadowId_ne_of_live id (hx.trans hlive) (Option.some.inj h).symm
  cases hstep with
  | stays => rfl
  | stages o ws m => cases id <;> rfl
  | starts e => cases id <;> rfl
  | awaits => cases id <;> rfl
  | swaps => exact (hswap rfl hlive').elim
  | takes => exact (hswap rfl hlive').elim
  | refuses p o => exact b.bank_ends _ _ _ id
  | passes p => cases id <;> rfl
  | commits p => exact (b.bank_committed p id).trans (Banks.bank_putShadow_live hlive _ _ _)
  | copies =>
    exact ((Banks.advance_keeps _ _ _).1 id).trans (Banks.bank_putShadow_live hlive _ _ _)
  | erases keepCal =>
    exact ((Banks.advance_keeps _ _ _).1 id).trans (Banks.bank_putShadow_live hlive _ _ _)
  | walks w => rfl
  | rejects w p i o r => exact b.bank_ends _ _ _ id
  | writes i p image n =>
    exact ((b.putShadow p image .written).bank_ends _ _ _ id).trans (Banks.bank_putShadow_live hlive _ _ _)
  | loads w x hl hx =>
    refine (hswap ?_ hlive').elim
    obtain rfl | ⟨i, p, image, n, -, rfl⟩ := hx
    · rfl
    · exact b.live_putShadow p image .written
  | softResets index between => exact b.softReset_live_bank index between hlive
  | resets autold => cases hlive'

/-! ### The swap (R166, R167) -/

theorem Banks.generation_swapped (b : Banks) : b.swapped.generation = (b.generation + 1) % 65536 := rfl

theorem Banks.bank_swapped_eq (b : Banks) (id : BankId) : b.swapped.bank id =
    if id = b.shadowId then { b.bank id with stamp := some ((b.generation + 1) % 65536) } else b.bank id := by
  have h : b.swapped.bank id = (b.setBank b.shadowId { b.shadow with stamp := some ((b.generation + 1) % 65536) }).bank id := by
    cases id <;> rfl
  rw [h, Banks.bank_setBank]
  split
  · next e => rw [e]; rfl
  · rfl

/-- R166: the commands at which a pending swap is taken. -/
theorem exec_takePending {c : Instr} (hheld : s.held = false) (h : (∃ n, c = .banksSweepBegin n) ∨ c = .sweepsDisabled) :
    exec c s = .next (s.took c).takePending := by
  obtain ⟨n, rfl⟩ | rfl := h
  · exact taking_awake s (.banksSweepBegin n) State.takePending hheld
  · exact taking_awake s .sweepsDisabled State.takePending hheld

theorem State.banks_frame_trans {u v : State} (hu : (u.setBanks s.banks).setPosts s.posts = s)
    (hv : (v.setBanks u.banks).setPosts u.posts = u) : (v.setBanks s.banks).setPosts s.posts = s := by
  rw [← hv] at hu
  exact hu

theorem State.setBanks_setPosts_frame (u : State) (b : Banks) (es : List Instr) :
    (((u.setBanks b).setPosts es).setBanks u.banks).setPosts u.posts = u := rfl

theorem State.takeSwap_frame (u : State) : (u.takeSwap.setBanks u.banks).setPosts u.posts = u :=
  u.setBanks_setPosts_frame _ _

/-- Settles O45: the cases of `BanksStep`, and the one swap. -/
theorem swapsAloneReplaceTheLiveBank : Obligations.SwapsAloneReplaceTheLiveBank := by
  refine ⟨fun c s t id h hlive hlive' => (exec_banksTo h).keeps_live_bank hlive hlive', fun s c g hheld hc hg => ⟨fun hp => ?_,
    fun hp => ?_⟩⟩
  · exact (exec_takePending hheld hc).trans (congrArg _ (if_neg (by rw [State.setPosts_banks, hp]; decide)))
  · refine ⟨_, (exec_takePending hheld hc).trans (congrArg _ (if_pos hp)), congrArg some s.banks.shadowId_eq, hg.symm, rfl,
      fun id h => ?_, fun id h => ?_, rfl, State.banks_frame_trans (u := s.took c) rfl (State.takeSwap_frame _)⟩
    · refine (s.banks.bank_swapped_eq id).trans ((if_pos (Option.some.inj h).symm).trans ?_)
      rw [hg]
    · exact (s.banks.bank_swapped_eq id).trans (if_neg (s.banks.shadowId_ne_of_live id h))

end Sys2Proof.Machine
end

section
/-! The store engine, page by page (R159–R164), and the validation's answer (R161, R188). -/

namespace Sys2Proof.Machine
open State

variable {s : State} {b : Banks}

/-! ### The validation (R161, R188) -/

theorem firstFailure_eq_some_iff (p : Nat) (hp : p < 79) (ws : List Word) (o : Nat) :
    firstFailure p ws = some o ↔ o < 64 ∧ ¬ WordPasses p ws o ∧ ∀ j < o, WordPasses p ws j := by
  have hbad {j : Nat} (hj : j < 64) : (!wordOk p ws j) = true ↔ ¬ WordPasses p ws j := by
    rw [Bool.not_eq_true', ← wordOk_iff_wordPasses p hp ws j hj, Bool.not_eq_true]
  have hgood {j : Nat} (hj : j < 64) : (!!wordOk p ws j) = true ↔ WordPasses p ws j := by
    rw [Bool.not_not, wordOk_iff_wordPasses p hp ws j hj]
  rw [firstFailure, List.find?_range_eq_some]
  constructor
  · rintro ⟨hfail, hmem, hbefore⟩
    have ho := List.mem_range.1 hmem
    exact ⟨ho, (hbad ho).1 hfail, fun j hj => (hgood (hj.trans ho)).1 (hbefore j hj)⟩
  · rintro ⟨ho, hfail, hbefore⟩
    exact ⟨(hbad ho).2 hfail, List.mem_range.2 ho, fun j hj => (hgood (hj.trans ho)).2 (hbefore j hj)⟩

/-- R188: a page of zeros passes as a Translation or Scale page alone. -/
theorem firstFailure_zeros : ∀ p < 79, firstFailure p (List.replicate 64 0#16) = none ↔ p ≤ 63 ∨ 65 ≤ p ∧ p ≤ 68 := by
  decide +kernel

/-! ### Words and statuses of a page put -/

theorem Bank.word_putPage (x : Bank) {p q o : Nat} {ws : List Word} (st : PageStatus) (hwf : Memory.wf x.mem)
    (hlen : ws.length = 64) (ho : o < 64) : (x.putPage q ws st).word p o = if p = q then ws.getD o 0#16 else x.word p o := by
  rw [← Bank.getD_page _ _ _ ho, Bank.page_putPage x p q ws st hwf hlen, apply_ite (List.getD · o 0#16),
    Bank.getD_page _ _ _ ho]

theorem Bank.status_putPage_same (x : Bank) {p : Nat} (ws : List Word) (st : PageStatus) (h : p < x.status.length) :
    (x.putPage p ws st).status[p]? = some st := List.getElem?_set_self h

theorem Bank.status_putPage_other (x : Bank) {p q : Nat} (ws : List Word) (st : PageStatus) (h : q ≠ p) :
    (x.putPage p ws st).status[q]? = x.status[q]? := List.getElem?_set_ne h.symm

theorem Bank.pageStatus_written (x : Bank) (p : Nat) : x.pageStatus p = .written ↔ x.status[p]? = some .written := by
  rw [Bank.pageStatus, List.getD_eq_getElem?_getD]
  cases x.status[p]? <;> simp

theorem Banks.getD_builtPage (b : Banks) (p : Nat) {o : Nat} (ho : o < 64) : (b.builtPage p).getD o 0#16 =
    if b.marks.getD o false then b.staging.read o
    else if b.shadow.status[p]? = some .written then b.shadow.word p o else 0#16 := by
  rw [Banks.builtPage, List.getD_eq_getElem?_getD, List.getElem?_map, List.getElem?_range ho]
  show (if b.marks.getD o false then b.staging.read o
    else if b.shadow.pageStatus p = .written then b.shadow.word p o else 0#16) = _
  simp only [Bank.pageStatus_written]

theorem Banks.getD_livePage (b : Banks) (p : Nat) {o : Nat} (ho : o < 64) : (b.livePage p).getD o 0#16 = b.liveWord p o := by
  rw [Banks.livePage, List.getD_eq_getElem?_getD, List.getElem?_map, List.getElem?_range ho]
  rfl

theorem getD_blankPage (o : Nat) : blankPage.getD o 0#16 = 0#16 := by
  rw [blankPage, List.getD_eq_getElem?_getD, List.getElem?_replicate]
  split <;> rfl

/-! ### The completions (R160, R161, R163, R164) -/

section completions
variable (hheld : s.held = false)
include hheld

theorem exec_validationComplete {p : Nat} (h : s.banks.engine = .committing p false) :
    exec .validationComplete s = .next ((s.took .validationComplete).validated p) := by
  refine (taking_awake s .validationComplete (fun s => match s.banks.engine with
    | .committing p false => s.validated p
    | .committing _ true => s
    | .idle => s
    | .copying => s
    | .erasing _ => s) hheld).trans (congrArg _ ?_)
  rw [State.setPosts_banks, h]

theorem exec_commitComplete {p : Nat} (h : s.banks.engine = .committing p true) :
    exec .commitComplete s = .next ((s.took .commitComplete).setBanks (s.banks.committed p)) := by
  refine (taking_awake s .commitComplete (fun s => match s.banks.engine with
    | .committing p true => s.setBanks (s.banks.committed p)
    | .committing _ false => s
    | .idle => s
    | .copying => s
    | .erasing _ => s) hheld).trans (congrArg _ ?_)
  rw [State.setPosts_banks, h]

theorem exec_copyPageComplete (h : s.banks.engine = .copying) :
    exec .copyPageComplete s = .next ((s.took .copyPageComplete).setBanks s.banks.copied) := by
  refine (taking_awake s .copyPageComplete (fun s => match s.banks.engine with
    | .copying => s.setBanks s.banks.copied
    | .idle => s
    | .committing _ _ => s
    | .erasing _ => s) hheld).trans (congrArg _ ?_)
  rw [State.setPosts_banks, h]

theorem exec_erasePageComplete {keep : Bool} (h : s.banks.engine = .erasing keep) :
    exec .erasePageComplete s = .next ((s.took .erasePageComplete).setBanks (s.banks.erased keep)) := by
  refine (taking_awake s .erasePageComplete (fun s => match s.banks.engine with
    | .erasing keepCal => s.setBanks (s.banks.erased keepCal)
    | .idle => s
    | .committing _ _ => s
    | .copying => s) hheld).trans (congrArg _ ?_)
  rw [State.setPosts_banks, h]

/-- Log 6: a completion that the engine does not await changes nothing. -/
theorem exec_completion_idle (h : s.banks.engine = .idle) :
    ∀ c ∈ [Instr.validationComplete, .commitComplete, .copyPageComplete, .erasePageComplete],
      exec c s = .next (s.took c) := by
  intro c hc
  simp only [List.mem_cons, List.not_mem_nil, or_false] at hc
  obtain rfl | rfl | rfl | rfl := hc
  · show execValidationComplete s = _
    rw [execValidationComplete, taking_awake _ _ _ hheld, State.setPosts_banks, h]
  · show execCommitComplete s = _
    rw [execCommitComplete, taking_awake _ _ _ hheld, State.setPosts_banks, h]
  · show execCopyPageComplete s = _
    rw [execCopyPageComplete, taking_awake _ _ _ hheld, State.setPosts_banks, h]
  · show execErasePageComplete s = _
    rw [execErasePageComplete, taking_awake _ _ _ hheld, State.setPosts_banks, h]

end completions

/-! ### The engine after a page (R163, R164) -/

theorem Banks.advance_last (b : Banks) (op : StoreOp) {n : Nat} (h : 79 ≤ n) :
    b.advance op n = { b.ends op none .done with progress := 79 } := if_pos h

theorem Banks.advance_next (b : Banks) (op : StoreOp) {n : Nat} (h : n < 79) :
    b.advance op n = { b with progress := n } := if_neg (Nat.not_le.2 h)

theorem Banks.shadow_of_keeps {x y : Banks} (hbank : ∀ id, x.bank id = y.bank id) (hlive : x.live = y.live) :
    x.shadow = y.shadow := by
  have hid : x.shadowId = y.shadowId := by rw [Banks.shadowId, Banks.shadowId, hlive]
  rw [Banks.shadow, Banks.shadow, hid, hbank]

theorem Banks.shadow_advance (b : Banks) (op : StoreOp) (n : Nat) : (b.advance op n).shadow = b.shadow := by
  obtain ⟨hbank, hlive, -⟩ := b.advance_keeps op n
  exact Banks.shadow_of_keeps hbank hlive

theorem Banks.shadow_copied (b : Banks) : b.copied.shadow = b.shadow.putPage b.progress (b.livePage b.progress) .written := by
  rw [Banks.copied, Banks.shadow_advance, Banks.shadow_putShadow]

theorem Banks.shadow_erased (b : Banks) (keep : Bool) :
    (b.erased keep).shadow = b.shadow.putPage b.progress blankPage .empty := by
  rw [Banks.erased, Banks.shadow_advance, Banks.shadow_putShadow]

theorem Banks.shadow_committed (b : Banks) (p : Nat) :
    (b.committed p).shadow = b.shadow.putPage p (b.builtPage p) .written := by
  rw [← Banks.shadow_putShadow]
  exact Banks.shadow_of_keeps (b.bank_committed p) rfl

theorem Banks.copied_engine (b : Banks) (h : b.progress < 79) : b.copied.progress = b.progress + 1 ∧
    b.copied.engine = (if b.progress = 78 then .idle else b.engine) ∧
    (b.progress = 78 → b.copied.record = some { op := .copy, page := none, outcome := .done }) := by
  rw [Banks.copied]
  by_cases hlast : b.progress = 78
  · rw [Banks.advance_last _ _ (by omega), if_pos hlast, hlast]
    exact ⟨rfl, rfl, fun _ => rfl⟩
  · rw [Banks.advance_next _ _ (by omega), if_neg hlast]
    exact ⟨rfl, b.engine_putShadow _ _ _, fun h => absurd h hlast⟩

theorem Banks.erased_engine (b : Banks) (keep : Bool) (h : b.progress < 79) :
    (b.erased keep).progress = (if keep = true ∧ b.progress = 64 then 69 else b.progress + 1) ∧
    (b.erased keep).engine = (if b.progress = 78 then .idle else b.engine) := by
  have hnext : nextErase keep b.progress = if keep = true ∧ b.progress = 64 then 69 else b.progress + 1 := by
    simp only [nextErase, Nat.reduceEqDiff]
  rw [Banks.erased, hnext]
  by_cases hlast : b.progress = 78
  · have hkept : ¬ (keep = true ∧ b.progress = 64) := fun h => absurd (hlast.symm.trans h.2) (by decide)
    rw [if_neg hkept, Banks.advance_last _ _ (by omega), if_pos hlast, hlast]
    exact ⟨rfl, rfl⟩
  · rw [Banks.advance_next _ _ (by split <;> omega), if_neg hlast]
    exact ⟨rfl, b.engine_putShadow _ _ _⟩

/-- Settles O46: each completion is one page put into the shadow, or the validation's answer. -/
theorem storeEngineWorksPageByPage : Obligations.StoreEngineWorksPageByPage := by
  refine ⟨fun p ws hp hlen => ⟨fun o => firstFailure_eq_some_iff p hp ws o, firstFailure_eq_none_iff p hp ws,
    firstFailure_zeros p hp⟩, fun s hheld => ⟨fun p o he hf => ?fails, fun p he hf => ?passes,
    fun p he hp hwf hstatus => ?commits, fun he hp hwf hstatus => ?copies, fun keep he hp hwf hstatus => ?erases,
    exec_completion_idle hheld⟩⟩
  case fails =>
    rw [exec_validationComplete hheld he, State.validated, State.setPosts_banks, hf]
    rfl
  case passes => rw [exec_validationComplete hheld he, State.validated, State.setPosts_banks, hf]
  case commits =>
    have hwf := (s.memoriesWf_iff.1 hwf).bank s.banks.shadowId
    have hshadow := s.banks.shadow_committed p
    have hword {q o : Nat} (ho : o < 64) := s.banks.shadow.word_putPage (p := q) (q := p) .written hwf
      (s.banks.length_builtPage p) ho
    refine ⟨_, exec_commitComplete hheld he, rfl, rfl, rfl, rfl, s.banks.live_putShadow _ _ _, fun o ho => ?_,
      fun q o hq ho => ?_, ?_, fun q hq => ?_, s.banks.staging_putShadow _ _ _, rfl⟩
    · refine (congrArg (Bank.word · p o) hshadow).trans ((hword ho).trans ?_)
      rw [if_pos rfl, Banks.getD_builtPage _ _ ho]
    · exact (congrArg (Bank.word · q o) hshadow).trans ((hword ho).trans (if_neg hq))
    · exact (congrArg (fun x : Bank => x.status[p]?) hshadow).trans
        (Bank.status_putPage_same _ _ _ (hstatus.symm ▸ hp))
    · exact (congrArg (fun x : Bank => x.status[q]?) hshadow).trans (Bank.status_putPage_other _ _ _ hq)
  case copies =>
    have hwf := (s.memoriesWf_iff.1 hwf).bank s.banks.shadowId
    have hshadow := s.banks.shadow_copied
    obtain ⟨hprogress, hengine, hrecord⟩ := s.banks.copied_engine hp
    rw [he] at hengine
    refine ⟨_, exec_copyPageComplete hheld he, hprogress, hengine, hrecord, fun o ho => ?_, ?_, rfl⟩
    · refine (congrArg (Bank.word · s.banks.progress o) hshadow).trans ((s.banks.shadow.word_putPage .written hwf
        (s.banks.length_livePage _) ho).trans ?_)
      rw [if_pos rfl, Banks.getD_livePage _ _ ho]
    · exact (congrArg (fun x : Bank => x.status[s.banks.progress]?) hshadow).trans
        (Bank.status_putPage_same _ _ _ (hstatus.symm ▸ hp))
  case erases =>
    have hwf := (s.memoriesWf_iff.1 hwf).bank s.banks.shadowId
    have hshadow := s.banks.shadow_erased keep
    have hword {q o : Nat} (ho : o < 64) := s.banks.shadow.word_putPage (p := q) (q := s.banks.progress) .empty hwf
      (ws := blankPage) (by decide) ho
    obtain ⟨hprogress, hengine⟩ := s.banks.erased_engine keep hp
    rw [he] at hengine
    refine ⟨_, exec_erasePageComplete hheld he, hprogress, hengine, fun o ho => ?_, fun q o hq ho => ?_, ?_, rfl⟩
    · refine (congrArg (Bank.word · s.banks.progress o) hshadow).trans ((hword ho).trans ?_)
      rw [if_pos rfl, getD_blankPage]
    · exact (congrArg (Bank.word · q o) hshadow).trans ((hword ho).trans (if_neg hq))
    · exact (congrArg (fun x : Bank => x.status[s.banks.progress]?) hshadow).trans
        (Bank.status_putPage_same _ _ _ (hstatus.symm ▸ hp))

end Sys2Proof.Machine
end

section
/-! The walk of the configuration memory (R181, R182). -/

namespace Sys2Proof.Machine
open State

variable {s u : State} {ws : List Word} {i p : Nat} {image : List Word} {nxt : Word}

/-! ### The addresses it reads (R181, R188) -/

theorem State.cfgAddresses_loading {w : Walk} (h : s.rc.loader = .loading w) : s.cfgAddresses = w.addresses := by
  rw [State.cfgAddresses, h]

theorem State.cfgAddresses_other (h : ∀ w, s.rc.loader ≠ .loading w) : s.cfgAddresses = [] := by
  unfold State.cfgAddresses
  split
  · next w hw => exact absurd hw (h w)
  all_goals rfl

theorem addressesFrom_three (adr : Word) : addressesFrom adr 3 = [adr, adr + 1#16, adr + 2#16] := by
  show [adr + word 0, adr + word 1, adr + word 2] = _
  rw [show word 0 = 0#16 from rfl, BitVec.add_zero]
  rfl

theorem addressesFrom_get {adr w : Word} {k n : Nat} (h : (addressesFrom adr k)[n]? = some w) :
    w.toNat = (adr.toNat + n) % 65536 := by
  rw [addressesFrom, List.getElem?_map] at h
  obtain ⟨m, hm, rfl⟩ := Option.map_eq_some_iff.1 h
  obtain ⟨hlt, hget⟩ := List.getElem?_eq_some_iff.1 hm
  rw [List.getElem_range] at hget
  subst hget
  rw [BitVec.toNat_add, word, BitVec.toNat_ofNat]
  omega

/-! ### The completions the walk awaits (log 6) -/

section completions
variable (hheld : s.held = false)
include hheld

theorem exec_loaderReadComplete_header (h : s.rc.loader = .loading .header) :
    exec (.loaderReadComplete ws) s = .next ((s.took (.loaderReadComplete ws)).headerRead ws) := by
  show execLoaderReadComplete ws s = _
  rw [execLoaderReadComplete, taking_awake _ _ _ hheld, State.setPosts_rc, h]

theorem exec_loaderReadComplete_descriptor {adr : Word} (h : s.rc.loader = .loading (.descriptor i adr)) :
    exec (.loaderReadComplete ws) s = .next ((s.took (.loaderReadComplete ws)).descriptorRead i ws) := by
  show execLoaderReadComplete ws s = _
  rw [execLoaderReadComplete, taking_awake _ _ _ hheld, State.setPosts_rc, h]

theorem exec_loaderReadComplete_image {adr : Word} (h : s.rc.loader = .loading (.image i p adr nxt)) :
    exec (.loaderReadComplete ws) s = .next ((s.took (.loaderReadComplete ws)).imageRead i p nxt ws) := by
  show execLoaderReadComplete ws s = _
  rw [execLoaderReadComplete, taking_awake _ _ _ hheld, State.setPosts_rc, h]

theorem exec_loaderReadComplete_idle
    (h : (∃ i p image nxt, s.rc.loader = .loading (.write i p image nxt)) ∨ ∀ w, s.rc.loader ≠ .loading w) :
    exec (.loaderReadComplete ws) s = .next (s.took (.loaderReadComplete ws)) := by
  show execLoaderReadComplete ws s = _
  rw [execLoaderReadComplete, taking_awake _ _ _ hheld, State.setPosts_rc]
  obtain ⟨i, p, image, nxt, h⟩ | h := h
  · rw [h]
  · cases hl : s.rc.loader with
    | loading w => exact absurd hl (h w)
    | notRun => rfl
    | loaded => rfl
    | failed _ _ => rfl

theorem exec_loaderWriteComplete_write (h : s.rc.loader = .loading (.write i p image nxt)) :
    exec .loaderWriteComplete s = .next ((s.took .loaderWriteComplete).imageWritten i p image nxt) := by
  show execLoaderWriteComplete s = _
  rw [execLoaderWriteComplete, taking_awake _ _ _ hheld, State.setPosts_rc, h]

theorem exec_loaderWriteComplete_idle (h : ∀ w, s.rc.loader ≠ .loading w) :
    exec .loaderWriteComplete s = .next (s.took .loaderWriteComplete) := by
  show execLoaderWriteComplete s = _
  rw [execLoaderWriteComplete, taking_awake _ _ _ hheld, State.setPosts_rc]
  cases hl : s.rc.loader with
  | loading w => exact absurd hl (h w)
  | notRun => rfl
  | loaded => rfl
  | failed _ _ => rfl

end completions

/-! ### The end of the chain -/

theorem State.walkEnd_incomplete (h : u.banks.shadow.complete = false) : u.walkEnd i = u.loadFailed .incomplete i :=
  if_pos (by rw [h]; rfl)

theorem State.walkEnd_unchecked (h : u.banks.shadow.complete = true) (hc : u.banks.shadow.swapCheck u.ring.own = false) :
    u.walkEnd i = u.loadFailed .swapCheck i :=
  (if_neg (by rw [h]; decide)).trans (if_pos (by rw [hc]; rfl))

theorem State.walkEnd_loaded (h : u.banks.shadow.complete = true) (hc : u.banks.shadow.swapCheck u.ring.own = true) :
    u.walkEnd i = (u.setLoader .loaded).takeSwap :=
  (if_neg (by rw [h]; decide)).trans (if_neg (by rw [hc]; decide))

/-! ### What was read -/

section read
variable {a b c : Word}

theorem State.headerRead_blank (ha : a = 0xFFFF#16) (hb : b = 0xFFFF#16) (hc : c = 0xFFFF#16) :
    u.headerRead [a, b, c] = u.loadFailed .noMemory 0 := if_pos ⟨ha, hb, hc⟩

theorem State.headerRead_bad (hsig : a ≠ 0x2808#16 ∨ b ≠ 1#16) (hblank : ¬ (a = 0xFFFF#16 ∧ b = 0xFFFF#16 ∧ c = 0xFFFF#16)) :
    u.headerRead [a, b, c] = u.loadFailed .badSignature 0 := (if_neg hblank).trans (if_pos hsig)

theorem State.headerRead_good (ha : a = 0x2808#16) (hb : b = 1#16) : u.headerRead [a, b, c] =
    if c = 0#16 then u.walkEnd 0 else u.setLoader (.loading (.descriptor 1 c)) := by
  subst ha hb
  have hsig : readWord [0x2808#16, 1#16, c] 0 = 0x2808#16 := rfl
  have hversion : readWord [0x2808#16, 1#16, c] 1 = 1#16 := rfl
  rw [State.headerRead, hsig, hversion]
  refine (if_neg ?_).trans (if_neg ?_)
  · rintro ⟨h, -⟩
    exact absurd h (by decide)
  · rintro (h | h)
    · exact h rfl
    · exact h rfl

theorem State.descriptorRead_eq : u.descriptorRead i [a, b, c] =
    if 79 ≤ a.toNat then u.loadFailed .badPage i else u.setLoader (.loading (.image i a.toNat b c)) := rfl

end read

theorem map_readWord (h : ws.length = 64) : (List.range 64).map (readWord ws) = ws := by
  refine List.ext_getElem (by simp [h]) fun j h1 h2 => ?_
  simp [readWord, h2]

theorem State.imageRead_fails {o : Nat} (hlen : ws.length = 64) (h : firstFailure p ws = some o) : u.imageRead i p nxt ws =
    (u.setBanks (u.banks.ends .load (some p) (.failed o))).loadFailed .validate i := by
  rw [State.imageRead, map_readWord hlen, h]

theorem State.imageRead_passes (hlen : ws.length = 64) (h : firstFailure p ws = none) :
    u.imageRead i p nxt ws = u.setLoader (.loading (.write i p ws nxt)) := by
  rw [State.imageRead, map_readWord hlen, h]

/-! ### A page written -/

/-- R181: the page written, before the walk goes on. -/
def State.loadedPage (p : Nat) (image : List Word) (u : State) : State :=
  u.setBanks ((u.banks.putShadow p image .written).ends .load (some p) .done)

theorem State.loadedPage_shadow (u : State) :
    (u.loadedPage p image).banks.shadow = u.banks.shadow.putPage p image .written := by
  show ((u.banks.putShadow p image .written).ends .load (some p) .done).shadow = _
  rw [Banks.shadow_ends, Banks.shadow_putShadow]

theorem State.loadedPage_live (u : State) : (u.loadedPage p image).banks.live = u.banks.live :=
  u.banks.live_putShadow p image .written

theorem State.loadedPage_generation (u : State) : (u.loadedPage p image).banks.generation = u.banks.generation :=
  u.banks.generation_putShadow p image .written

theorem State.loadedPage_bank (u : State) (id : BankId) : (u.loadedPage p image).banks.bank id =
    if id = u.banks.shadowId then (u.banks.bank id).putPage p image .written else u.banks.bank id :=
  (Banks.bank_ends _ _ _ _ id).trans (u.banks.bank_putShadow id p image .written)

theorem Banks.record_swapped (b : Banks) : b.swapped.record = b.record := by
  unfold Banks.swapped
  cases b.shadowId <;> rfl

theorem State.walkEnd_banks (u : State) :
    (u.walkEnd i).banks = u.banks ∨ (u.walkEnd i).banks = u.banks.swapped := by
  unfold State.walkEnd
  split
  · exact .inl rfl
  · split
    · exact .inl rfl
    · exact .inr rfl

theorem State.imageWritten_eq (u : State) : u.imageWritten i p image nxt =
    if nxt = 0#16 then (u.loadedPage p image).walkEnd i
    else if 128 ≤ i then (u.loadedPage p image).loadFailed .chainLimit i
    else (u.loadedPage p image).setLoader (.loading (.descriptor (i + 1) nxt)) := rfl

/-- R181: the banks after a write: the page put, and the swap where the walk took it. -/
theorem State.imageWritten_banks (u : State) : (u.imageWritten i p image nxt).banks = (u.loadedPage p image).banks ∨
    (u.imageWritten i p image nxt).banks = (u.loadedPage p image).banks.swapped := by
  rw [State.imageWritten_eq]
  split
  · exact State.walkEnd_banks _
  · split
    · exact .inl rfl
    · exact .inl rfl

theorem State.imageWritten_record (u : State) :
    (u.imageWritten i p image nxt).banks.record = some { op := .load, page := some p, outcome := .done } := by
  obtain h | h := u.imageWritten_banks (i := i) (p := p) (image := image) (nxt := nxt) <;> rw [h]
  · rfl
  · exact Banks.record_swapped _

theorem State.imageWritten_bank (u : State) (id : BankId) :
    ((u.imageWritten i p image nxt).banks.bank id).mem = ((u.loadedPage p image).banks.bank id).mem ∧
      ((u.imageWritten i p image nxt).banks.bank id).status = ((u.loadedPage p image).banks.bank id).status := by
  obtain h | h := u.imageWritten_banks (i := i) (p := p) (image := image) (nxt := nxt) <;> rw [h]
  · exact ⟨rfl, rfl⟩
  · exact Banks.bank_swapped _ id

theorem State.loadedPage_shadowId (u : State) : (u.loadedPage p image).banks.shadowId = u.banks.shadowId := by
  rw [Banks.shadowId, Banks.shadowId, State.loadedPage_live]

theorem BankId.other_ne (id : BankId) : id.other ≠ id := by cases id <;> decide

/-- R157, R181: the live bank is not written. -/
theorem State.imageWritten_other (u : State) :
    (u.imageWritten i p image nxt).banks.bank u.banks.shadowId.other = u.banks.bank u.banks.shadowId.other := by
  have hother := BankId.other_ne u.banks.shadowId
  have hpage : (u.loadedPage p image).banks.bank u.banks.shadowId.other = u.banks.bank u.banks.shadowId.other :=
    (u.loadedPage_bank _).trans (if_neg hother)
  obtain h | h := u.imageWritten_banks (i := i) (p := p) (image := image) (nxt := nxt) <;> rw [h]
  · exact hpage
  · rw [Banks.bank_swapped_eq, if_neg (by rw [State.loadedPage_shadowId]; exact hother), hpage]

/-- R181: the page written into the shadow. -/
theorem State.imageWritten_page (u : State) (hwf : Memory.wf u.banks.shadow.mem) (hlen : image.length = 64) :
    (∀ q o, o < 64 → ((u.imageWritten i p image nxt).banks.bank u.banks.shadowId).word q o =
      if q = p then image.getD o 0#16 else u.banks.shadow.word q o) ∧
    ((u.imageWritten i p image nxt).banks.bank u.banks.shadowId).status = u.banks.shadow.status.set p .written := by
  obtain ⟨hmem, hstatus⟩ := u.imageWritten_bank (i := i) (p := p) (image := image) (nxt := nxt) u.banks.shadowId
  have hpage : (u.loadedPage p image).banks.bank u.banks.shadowId = u.banks.shadow.putPage p image .written :=
    (u.loadedPage_bank _).trans (if_pos rfl)
  rw [hpage] at hmem hstatus
  refine ⟨fun q o ho => ?_, hstatus⟩
  rw [← Bank.word_putPage _ .written hwf hlen ho, Bank.word, hmem]
  rfl

/-- R166: the banks and the posts as the chain's end takes the swap. -/
theorem State.takeSwap_loaded (u : State) : ((u.setLoader .loaded).takeSwap).rc.loader = .loaded ∧
    ((u.setLoader .loaded).takeSwap).banks.live = some (if u.banks.live = some .a then .b else .a) ∧
    ((u.setLoader .loaded).takeSwap).banks.generation = (u.banks.generation + 1) % 65536 ∧
    ((u.setLoader .loaded).takeSwap).posts = swapPosts ++ u.posts :=
  ⟨rfl, congrArg some u.banks.shadowId_eq, rfl, rfl⟩

theorem State.loadFailed_post (u : State) (r : LoadFailure) : .flagSetClaim .storeFail ∈ (u.loadFailed r i).posts :=
  List.mem_append_right _ (List.mem_singleton_self _)

/-- Settles O47, a completion at a time. -/
theorem loaderWalksTheChain : Obligations.LoaderWalksTheChain := by
  rintro s ws u hheld rfl
  refine ⟨fun hl => ⟨?_, ?header⟩, fun i adr hl => ⟨?_, ?descriptor⟩, fun i p adr nxt hl => ⟨?_, fun n w h => ?_, fun hlen =>
    ⟨fun o hf => ?invalid, fun hf => ?valid⟩⟩, fun i p image nxt hl => ⟨?_, ?_, ?write⟩,
    fun hl => ⟨exec_loaderReadComplete_idle hheld (.inr hl), State.cfgAddresses_other hl,
      exec_loaderWriteComplete_idle hheld hl⟩⟩
  · rw [State.cfgAddresses_loading hl]
    exact addressesFrom_three 0#16
  case header =>
    rintro a b c rfl
    have hexec := exec_loaderReadComplete_header (ws := [a, b, c]) hheld hl
    refine ⟨fun ha hb hc => hexec.trans (congrArg _ (State.headerRead_blank ha hb hc)),
      fun hsig hblank => hexec.trans (congrArg _ (State.headerRead_bad hsig hblank)), fun ha hb hc => ?_, fun ha hb hc =>
      ⟨fun hcomplete => ?_, fun hcomplete hcheck => ?_, fun hcomplete hcheck => ?_⟩⟩
    · exact hexec.trans (congrArg _ ((State.headerRead_good ha hb).trans (if_neg hc)))
    all_goals
      refine hexec.trans (congrArg _ ((State.headerRead_good ha hb).trans ((if_pos hc).trans ?_)))
    · exact State.walkEnd_incomplete (u := s.took _) hcomplete
    · exact State.walkEnd_unchecked (u := s.took _) hcomplete hcheck
    · exact State.walkEnd_loaded (u := s.took _) hcomplete hcheck
  · rw [State.cfgAddresses_loading hl]
    exact addressesFrom_three adr
  case descriptor =>
    rintro a b c rfl
    have hexec := exec_loaderReadComplete_descriptor (ws := [a, b, c]) hheld hl
    exact ⟨fun h => hexec.trans (congrArg _ (State.descriptorRead_eq.trans (if_pos h))),
      fun h => hexec.trans (congrArg _ (State.descriptorRead_eq.trans (if_neg (Nat.not_le.2 h))))⟩
  · rw [State.cfgAddresses_loading hl]
    exact (List.length_map ..).trans List.length_range
  · rw [State.cfgAddresses_loading hl] at h
    exact addressesFrom_get h
  case invalid =>
    exact ⟨_, (exec_loaderReadComplete_image hheld hl).trans (congrArg _ (State.imageRead_fails hlen hf)), rfl, rfl, rfl⟩
  case valid => exact (exec_loaderReadComplete_image hheld hl).trans (congrArg _ (State.imageRead_passes hlen hf))
  · rw [State.cfgAddresses_loading hl]
    rfl
  · exact exec_loaderReadComplete_idle hheld (.inl ⟨i, p, image, nxt, hl⟩)
  case write =>
    obtain ⟨u, hu⟩ : ∃ u, u = s.took .loaderWriteComplete := ⟨_, rfl⟩
    have hbanks : u.banks = s.banks := by rw [hu]; rfl
    have hring : u.ring = s.ring := by rw [hu]; rfl
    have hposts : u.posts = s.posts.erase .loaderWriteComplete := by rw [hu]; rfl
    refine ⟨_, (exec_loaderWriteComplete_write hheld hl).trans (by rw [← hu]), u.imageWritten_record,
      fun hwf _ _ hlen id hid => ?page, fun hn hi => ?next, fun hn hi => ?limit, fun hn b hb => ?ends⟩
    case page =>
      rw [← s.banks.shadowId_eq] at hid
      subst hid
      obtain ⟨hword, hstatus⟩ := u.imageWritten_page (i := i) (p := p) (nxt := nxt) (image := image)
        (by rw [hbanks]; exact (s.memoriesWf_iff.1 hwf).bank _) hlen
      have hother := u.imageWritten_other (i := i) (p := p) (nxt := nxt) (image := image)
      rw [hbanks] at hword hstatus hother
      exact ⟨fun o ho => (hword p o ho).trans (if_pos rfl), fun q o hq ho => (hword q o ho).trans (if_neg hq), hstatus,
        hother⟩
    case next =>
      rw [State.imageWritten_eq, if_neg hn, if_neg (Nat.not_le.2 hi)]
      exact ⟨rfl, u.loadedPage_live.trans (by rw [hbanks])⟩
    case limit =>
      rw [State.imageWritten_eq, if_neg hn, if_pos hi]
      exact ⟨rfl, State.loadFailed_post _ _⟩
    case ends =>
      have hshadow : (u.loadedPage p image).banks.shadow = b := by rw [State.loadedPage_shadow, hbanks, hb]
      have hown : (u.loadedPage p image).ring.own = s.ring.own := congrArg Ring.own hring
      have hlive : (u.loadedPage p image).banks.live = s.banks.live := u.loadedPage_live.trans (by rw [hbanks])
      rw [State.imageWritten_eq, if_pos hn]
      refine ⟨fun hc => ?_, fun hc hcheck => ?_, fun hc hcheck => ?_⟩ <;> rw [← hshadow] at hc
      · rw [State.walkEnd_incomplete hc]
        exact ⟨rfl, State.loadFailed_post _ _, hlive⟩
      · rw [← hshadow, ← hown] at hcheck
        rw [State.walkEnd_unchecked hc hcheck]
        exact ⟨rfl, State.loadFailed_post _ _, hlive⟩
      · rw [← hshadow, ← hown] at hcheck
        obtain ⟨hloaded, hnow, hgeneration, hnews⟩ := (u.loadedPage p image).takeSwap_loaded
        rw [State.walkEnd_loaded hc hcheck, hnow, hgeneration, hnews, hlive, State.loadedPage_generation, hbanks]
        exact ⟨hloaded, rfl, rfl, congrArg _ hposts⟩

end Sys2Proof.Machine
end

section
/-! The run level (R183, R184). -/

namespace Sys2Proof.Machine
open State

variable {s : State}

theorem State.setLevel_other {u : State} {l : RunLevel} (h : u.rc.level ≠ l) : u.setLevel l =
    (u.setRc { u.rc with level := l }).post
      (levelInhibits u.rc.level l ++ levelNews l ++ levelCondition u.rc.level l) := if_neg h

/-- A flag claimed before a change of level goes ahead of its posts. -/
theorem State.claimFlag_setRc_post (u : State) (f : StickyFlag) (x : RunControl) (es : List Instr) :
    ((u.claimFlag f).setRc x).post es = (u.setRc x).post (.flagSetClaim f :: es) :=
  congrArg (u.setRc x).setPosts (List.append_assoc u.posts [.flagSetClaim f] es)

theorem exec_wakeEvent (f : ZoneField) (v : Int) (hheld : s.held = false) : exec (.wakeEvent f v) s =
    .next (if s.rc.level = .watch ∧ s.rc.wake = true then ((s.took (.wakeEvent f v)).claimFlag .wake).setLevel .active
      else (s.took (.wakeEvent f v)).claimFlag .wake) :=
  taking_awake s (.wakeEvent f v) (fun s => if (s.claimFlag .wake).rc.level = .watch ∧ (s.claimFlag .wake).rc.wake
    then (s.claimFlag .wake).setLevel .active else s.claimFlag .wake) hheld

theorem exec_rcSwapTaken (hheld : s.held = false) : exec .rcSwapTaken s =
    .next (if s.rc.level = .unconfigured then (s.took .rcSwapTaken).setLevel s.startLevel else s.took .rcSwapTaken) :=
  taking_awake s .rcSwapTaken (fun s => if s.rc.level = .unconfigured then s.setLevel s.startLevel else s) hheld

theorem State.startLevel_live (h : s.isLive = true) : s.startLevel = (levelOfCode (s.param 78 10)).getD .unconfigured :=
  if_pos h

/-- R183: a swap taken in UNCONFIGURED takes the start level. -/
theorem exec_rcSwapTaken_start {l : RunLevel} (hheld : s.held = false) (hlevel : s.rc.level = .unconfigured)
    (hlive : s.isLive = true) (hl : (levelOfCode (s.param 78 10)).getD .unconfigured = l) (hne : l ≠ .unconfigured) :
    exec .rcSwapTaken s = .next (((s.took .rcSwapTaken).setRc { s.rc with level := l }).post
      (levelInhibits .unconfigured l ++ levelNews l ++ levelCondition .unconfigured l)) := by
  have hchange : (s.took .rcSwapTaken).rc.level ≠ l := fun h => hne (h.symm.trans hlevel)
  rw [exec_rcSwapTaken hheld, if_pos hlevel, State.startLevel_live hlive, hl, State.setLevel_other hchange,
    State.setPosts_rc, hlevel]

/-- Settles O48, by the level before the event. -/
theorem runLevelWakesAndStarts : Obligations.RunLevelWakesAndStarts := by
  intro s f v hheld
  refine ⟨fun h => ?asleep, fun hlevel hwake => ?wakes, fun h => (exec_rcSwapTaken hheld).trans (congrArg _ (if_neg h)),
    fun hlevel hlive hcode => ?active, fun hlevel hlive hcode => ?watch, fun hlevel hlive hcode => ?halt⟩
  case asleep =>
    refine (exec_wakeEvent f v hheld).trans (congrArg _ (if_neg ?_))
    rintro ⟨hlevel, hwake⟩
    obtain h | h := h
    · exact h hlevel
    · rw [hwake] at h
      cases h
  case wakes =>
    have hchange : ((s.took (.wakeEvent f v)).claimFlag .wake).rc.level ≠ .active := fun h => by
      have h : s.rc.level = .active := h
      rw [hlevel] at h
      cases h
    have hold : ((s.took (.wakeEvent f v)).claimFlag .wake).rc.level = .watch := hlevel
    rw [exec_wakeEvent f v hheld, if_pos ⟨hlevel, hwake⟩, State.setLevel_other hchange, hold]
    exact congrArg _ (State.claimFlag_setRc_post _ _ _ _)
  case active => exact exec_rcSwapTaken_start hheld hlevel hlive (by rw [hcode]; rfl) nofun
  case watch => exact exec_rcSwapTaken_start hheld hlevel hlive (by rw [hcode]; rfl) nofun
  case halt => exact exec_rcSwapTaken_start hheld hlevel hlive (by rw [hcode]; rfl) nofun

end Sys2Proof.Machine
end

section
/-! The flag record and its NOTEs (R176, R177). -/

namespace Sys2Proof.Machine
open State

variable {s : State}

/-! ### One bit of a word -/

theorem getLsbD_one_shift {i : Nat} (hi : i < 16) (j : Nat) : (1#16 <<< i).getLsbD j = decide (j = i) := by
  simp only [BitVec.getLsbD_shiftLeft, BitVec.getLsbD_one]
  by_cases h : j = i
  · subst h
    simp [hi]
  · simp only [h, decide_false]
    by_cases hlt : j < i
    · simp [hlt]
    · have hne : j - i ≠ 0 := by omega
      simp [hne]

theorem or_bit_eq_iff (w : Word) {i : Nat} (hi : i < 16) : w ||| (1#16 <<< i) = w ↔ w.getLsbD i = true := by
  constructor
  · intro h
    rw [← h, BitVec.getLsbD_or, getLsbD_one_shift hi]
    simp
  · intro h
    refine BitVec.eq_of_getLsbD_eq fun j _ => ?_
    rw [BitVec.getLsbD_or, getLsbD_one_shift hi]
    by_cases hj : j = i
    · rw [hj, h]
      rfl
    · simp [hj]

theorem and_not_bit_eq_iff (w : Word) {i : Nat} (hi : i < 16) : w &&& ~~~(1#16 <<< i) = w ↔ w.getLsbD i = false := by
  constructor
  · intro h
    rw [← h, BitVec.getLsbD_and, BitVec.getLsbD_not, getLsbD_one_shift hi]
    simp
  · intro h
    refine BitVec.eq_of_getLsbD_eq fun j hj => ?_
    rw [BitVec.getLsbD_and, BitVec.getLsbD_not, getLsbD_one_shift hi]
    by_cases hji : j = i
    · rw [hji, h]
      rfl
    · simp [hji, hj]

theorem stickyBit_lt (f : StickyFlag) : stickyBit f < 16 := by cases f <;> decide

theorem conditionBit_lt (d : Condition) : conditionBit d < 16 := by cases d <;> decide

/-! ### A change of the record (R176, R177) -/

/-- R176, R177: the record m after a command, and whether its change calls for a NOTE. -/
inductive RecordChange (s : State) : Instr → Management → Bool → Prop
  | flag (f : StickyFlag) : RecordChange s (.flagSetClaim f) { s.mu with flags := s.mu.flags ||| (1#16 <<< stickyBit f) }
      (s.mu.maskFlags.getLsbD (stickyBit f))
  | rises (d : Condition) : RecordChange s (.conditionPost d true)
      { s.mu with conditions := s.mu.conditions ||| (1#16 <<< conditionBit d) } (s.mu.maskConditions.getLsbD (conditionBit d))
  | falls (d : Condition) : RecordChange s (.conditionPost d false)
      { s.mu with conditions := s.mu.conditions &&& ~~~(1#16 <<< conditionBit d) } false
  | level (l : RunLevel) : RecordChange s (.muRunLevelChange l) { s.mu with level := l } (s.mu.maskFlags.getLsbD 15)

variable {c : Instr} {m : Management} {called : Bool}

/-- R176, R177: no change does nothing; a change goes on to its NOTE. -/
theorem RecordChange.exec_eq (h : RecordChange s c m called) (hheld : s.held = false) :
    (m = s.mu → exec c s = .next (s.took c)) ∧
      (m ≠ s.mu → exec c s = .next (((s.took c).setMu m).noteAfter called)) := by
  cases h with
  | flag f =>
    have hexec := taking_awake s (.flagSetClaim f) (State.setFlag f) hheld
    have hsame := or_bit_eq_iff s.mu.flags (stickyBit_lt f)
    refine ⟨fun h => hexec.trans (congrArg _ (if_pos (hsame.1 (congrArg Management.flags h)))), fun h =>
      hexec.trans (congrArg _ (if_neg fun hbit => h ?_))⟩
    rw [hsame.2 hbit]
  | rises d =>
    have hexec := taking_awake s (.conditionPost d true) (State.setCondition d true) hheld
    have hsame := or_bit_eq_iff s.mu.conditions (conditionBit_lt d)
    refine ⟨fun h => hexec.trans (congrArg _ (if_pos (hsame.1 (congrArg Management.conditions h)))), fun h =>
      hexec.trans (congrArg _ (if_neg fun hbit => h ?_))⟩
    rw [hsame.2 hbit]
  | falls d =>
    have hexec := taking_awake s (.conditionPost d false) (State.setCondition d false) hheld
    have hsame := and_not_bit_eq_iff s.mu.conditions (conditionBit_lt d)
    refine ⟨fun h => hexec.trans (congrArg _ (if_pos (hsame.1 (congrArg Management.conditions h)))), fun h =>
      hexec.trans (congrArg _ (if_neg fun hbit => h ?_))⟩
    rw [hsame.2 hbit]
  | level l =>
    have hexec := taking_awake s (.muRunLevelChange l) (State.setMuLevel l) hheld
    refine ⟨fun h => hexec.trans (congrArg _ (if_pos (congrArg Management.level h).symm)), fun h =>
      hexec.trans (congrArg _ (if_neg fun hlevel => h ?_))⟩
    rw [← hlevel]
    rfl

/-! ### The NOTE (R177) -/

theorem Ring.refreshNote_length (r : Ring) (flags conditions : Word) (l : RunLevel) :
    (r.refreshNote flags conditions l).origin.length = r.origin.length := List.length_map _

/-- Settles O49: the change of the record, then its NOTE. -/
theorem flagRecordCallsForNotes : Obligations.FlagRecordCallsForNotes := by
  intro s c m called hheld h
  have hchange : RecordChange s c m called := by
    obtain ⟨f, rfl, rfl, rfl⟩ | ⟨d, rfl, rfl, rfl⟩ | ⟨d, rfl, rfl, rfl⟩ | ⟨l, rfl, rfl, rfl⟩ := h
    · exact .flag f
    · exact .rises d
    · exact .falls d
    · exact .level l
  obtain ⟨hsame, hnew⟩ := hchange.exec_eq hheld
  refine ⟨hsame, fun hm => ⟨fun hnote => ?_, fun hnote hcalled hfree => ?_, fun hnote hcalled hfree => ?_,
    fun hnote hcalled => ?_⟩⟩
  · exact ⟨_, (hnew hm).trans (congrArg _ (if_pos hnote)), rfl, Ring.refreshNote_length _ _ _ _,
      fun f hf hn => Ring.refreshNote_note _ _ _ _ hf hn, rfl⟩
  · exact (hnew hm).trans (congrArg _ ((if_neg (by simp [hnote])).trans ((if_pos hcalled).trans (if_pos hfree))))
  · exact (hnew hm).trans (congrArg _ ((if_neg (by simp [hnote])).trans ((if_pos hcalled).trans (if_neg (by simp [hfree])))))
  · exact (hnew hm).trans (congrArg _ ((if_neg (by simp [hnote])).trans (if_neg (by simp [hcalled]))))

end Sys2Proof.Machine
end

section
/-! Requests served, and the store requests (R158–R165, R171–R173). -/

namespace Sys2Proof.Machine
open State

variable {s x : State} {r : Request} {rest : List Request} {result : Result} {data : List Word}

/-! ### The answer (R171, R173) -/

/-- The state a request's rule ran to keeps what the answer is made of. -/
structure State.Answerable (s : State) (rest : List Request) (x : State) : Prop where
  queue : x.mu.queue = rest
  soft : x.mu.softWait = false
  answering : x.answering = s.answering

theorem State.Answerable.response (h : s.Answerable rest x) :
    x.response r { result := result, data := data } = s.answerFrame r result data := by
  rw [State.response, h.soft, h.answering]

theorem State.Answerable.answer_eq (h : s.Answerable rest x) (hring : x.ring = { s.ring with reserved := true }) :
    x.answerWith r { result := result, data := data } =
      x.setRing { s.ring.join (s.answerFrame r result data) with reserved := false } := by
  rw [State.answerWith, h.response, hring]
  rfl

theorem State.Answerable.answers (h : s.Answerable rest x) :
    (x.answerWith r { result := result, data := data }).mu.queue = rest ∧
      (x.answerWith r { result := result, data := data }).ring.reserved = false ∧
      (x.answerWith r { result := result, data := data }).ring.origin.getLast? = some (s.answerFrame r result data) := by
  refine ⟨h.queue, rfl, ?_⟩
  rw [State.answerWith, h.response]
  exact List.getLast?_concat

/-- R171: the request taken and its place reserved. -/
theorem State.answerable_reserve (c : Instr) (hsoft : s.mu.softWait = false) :
    s.Answerable rest ((s.took c).reserve rest) := ⟨rfl, hsoft, rfl⟩

/-- The fields of a request that is served to its last step. -/
theorem State.Serves.awake {code : Nat} (h : s.Serves code r rest) : s.held = false ∧ s.mu.softWait = false := by
  obtain ⟨hheld, -, hsoft, -⟩ := h
  exact ⟨hheld, hsoft⟩

/-! ### Store requests (R159) -/

theorem State.storeRequest_idle {u : State} (he : u.banks.engine = .idle) (hp : u.banks.swapPending = false)
    (f : State → State × Answer) : u.storeRequest f = f u := by
  refine if_neg ?_
  rw [(Banks.busy_eq_false _).2 ⟨he, hp⟩]
  decide

/-- A request whose rule changes the banks alone. -/
theorem requestRow_banks (c : Instr) (code : Nat) (ok : Request → Bool) (run : Request → State → State × Answer) (b : Banks)
    (h : s.Serves code r rest) (hc : assignedCode (some code) = true) (hok : ok r = true)
    (hrun : run r ((s.took c).reserve rest) = (((s.took c).reserve rest).setBanks b, { result := result, data := data })) :
    requestRow c code ok run s = .next (((s.took c).served r rest result data).setBanks b) := by
  have hans : s.Answerable rest (((s.took c).reserve rest).setBanks b) := ⟨rfl, h.awake.2, rfl⟩
  rw [requestRow_serves s c code ok run r rest h hc hok, hrun]
  exact congrArg _ (hans.answer_eq rfl)

/-- A request whose rule samples CAL_EN and changes the banks alone. -/
theorem requestRow_sampled (c : Instr) (code : Nat) (ok : Request → Bool) (run : Request → State → State × Answer)
    (cal : Bool) (b : Banks) (h : s.Serves code r rest) (hc : assignedCode (some code) = true) (hok : ok r = true)
    (hrun : run r ((s.took c).reserve rest) =
      ((((s.took c).reserve rest).sampleCal cal).setBanks b, { result := result, data := data })) :
    requestRow c code ok run s =
      .next ((((s.took c).served r rest result data).setBanks b).setLines { s.lines with calEn := cal }) := by
  have hans : s.Answerable rest ((((s.took c).reserve rest).sampleCal cal).setBanks b) := ⟨rfl, h.awake.2, rfl⟩
  rw [requestRow_serves s c code ok run r rest h hc hok, hrun]
  exact congrArg _ (hans.answer_eq rfl)

/-! ### The swap check (R165) -/

/-- Page 64 of a bank maps the ring address a with a class. -/
def Bank.Maps (b : Bank) (a k : Nat) : Prop :=
  a < 32 ∧ bits (b.word 64 (2 * a)) 15 1 = 1 ∧ bits (b.word 64 (2 * a)) 8 4 = k

theorem Bank.maps_iff (b : Bank) (a k : Nat) :
    b.Maps a k ↔ a < 32 ∧ ((b.node a).mapped && (b.node a).cls == k) = true := by
  rw [Bank.Maps, Bool.and_eq_true, beq_iff_eq]
  exact and_congr_right fun _ => and_congr_left fun _ => (bit_eq_true_iff _ _).symm

theorem Bank.countClass_le_one (b : Bank) (k : Nat) :
    b.countNodes (fun e => e.cls == k) ≤ 1 ↔ ∀ x y, b.Maps x k → b.Maps y k → x = y := by
  simp only [b.countNodes_le_one, b.maps_iff]
  exact ⟨fun h x y ⟨hx, hx'⟩ ⟨hy, hy'⟩ => h x y hx hy hx' hy', fun h x y hx hy hx' hy' => h x y ⟨hx, hx'⟩ ⟨hy, hy'⟩⟩

theorem Bank.countHeads_le_one (b : Bank) {z : Nat} (hz : z < 8) :
    b.countNodes (fun e => e.cls == classHead && e.zone == some z) ≤ 1 ↔
      ∀ x y, b.Maps x 2 → b.Maps y 2 → bits (b.word 64 (2 * x)) 0 4 = z → bits (b.word 64 (2 * y)) 0 4 = z → x = y := by
  have hzone (a : Nat) : ((b.node a).zone == some z) = true ↔ bits (b.word 64 (2 * a)) 0 4 = z := by
    rw [beq_iff_eq]
    exact zoneField_eq_some hz
  simp only [b.countNodes_le_one, b.maps_iff, ← Bool.and_assoc, Bool.and_eq_true ((b.node _).mapped && _), hzone]
  exact ⟨fun h x y ⟨hx, hx'⟩ ⟨hy, hy'⟩ hzx hzy => h x y hx hy ⟨hx', hzx⟩ ⟨hy', hzy⟩,
    fun h x y hx hy ⟨hx', hzx⟩ ⟨hy', hzy⟩ => h x y ⟨hx, hx'⟩ ⟨hy, hy'⟩ hzx hzy⟩

/-- R165: the swap check of a bank, by its Node Map and its controller address. -/
theorem Bank.swapCheck_iff (b : Bank) (own : Nat) : b.swapCheck own = true ↔
    (∀ k ∈ [3, 5, 6, 7], ∀ x y, b.Maps x k → b.Maps y k → x = y) ∧
    (∀ x y, b.Maps x 2 → b.Maps y 2 → bits (b.word 64 (2 * x)) 0 4 = bits (b.word 64 (2 * y)) 0 4 →
      bits (b.word 64 (2 * x)) 0 4 ≤ 7 → x = y) ∧ (b.word 78 3).toNat ≠ own := by
  have hclasses : ([classBlower, classComp, classHeater, classTank].all
      fun c => decide (b.countNodes (fun e => e.cls == c) ≤ 1)) = true ↔
      ∀ k ∈ [3, 5, 6, 7], ∀ x y, b.Maps x k → b.Maps y k → x = y := by
    rw [List.all_eq_true]
    simp only [decide_eq_true_eq, b.countClass_le_one]
    exact ⟨fun h k hk => h k (by simpa [or_comm, or_left_comm] using hk), fun h k hk => h k (by simpa [or_comm, or_left_comm] using hk)⟩
  have hheads : ((List.range 8).all fun z =>
      decide (b.countNodes (fun e => e.cls == classHead && e.zone == some z) ≤ 1)) = true ↔
      ∀ x y, b.Maps x 2 → b.Maps y 2 → bits (b.word 64 (2 * x)) 0 4 = bits (b.word 64 (2 * y)) 0 4 →
        bits (b.word 64 (2 * x)) 0 4 ≤ 7 → x = y := by
    rw [List.all_eq_true]
    simp only [decide_eq_true_eq, List.mem_range]
    constructor
    · intro h x y hx hy he hle
      exact (b.countHeads_le_one (by omega)).1 (h _ (by omega)) x y hx hy rfl he.symm
    · intro h z hz
      exact (b.countHeads_le_one hz).2 fun x y hx hy hzx hzy => h x y hx hy (hzx.trans hzy.symm) (by omega)
  rw [Bank.swapCheck, Bool.and_eq_true, Bool.and_eq_true, hclasses, hheads, decide_eq_true_eq, and_assoc]

end Sys2Proof.Machine
end

section
/-! Store requests work on the shadow (R158–R165). -/

namespace Sys2Proof.Machine
open State

variable {s : State} {r : Request} {rest : List Request}

theorem Request.hasArgs_of {n : Nat} (h : r.args.length = n) : r.hasArgs n = true := decide_eq_true h

/-! ### Staging (R158) -/

theorem stagingArgs_of (hlo : 2 ≤ r.args.length) (hhi : r.args.length ≤ 7) (hfits : r.arg 0 + (r.args.length - 1) ≤ 64)
    (hoffset : r.arg 0 ≤ 63) : stagingArgs r = true := by
  simp only [stagingArgs, decide_eq_true hlo, decide_eq_true hhi, decide_eq_true hfits, decide_eq_true hoffset, Bool.and_self]

/-- R158: the banks with the words in the staging buffer. -/
def Banks.staged (b : Banks) (offset : Nat) (ws : List Word) : Banks :=
  { b with
    staging := b.staging.writeList offset ws
    marks := b.marks.zipIdx.map fun m => m.1 || decide (offset ≤ m.2 ∧ m.2 < offset + ws.length) }

theorem Banks.staged_mark (b : Banks) (offset : Nat) (ws : List Word) {o : Nat} {m : Bool} (h : b.marks[o]? = some m) :
    (b.staged offset ws).marks[o]? = some (m || decide (offset ≤ o ∧ o < offset + ws.length)) := by
  show (b.marks.zipIdx.map _)[o]? = _
  rw [List.getElem?_map, List.getElem?_zipIdx, h]
  simp

theorem exec_loadStaging (h : s.Serves 0x0F r rest) (hok : stagingArgs r = true) (he : s.banks.engine = .idle)
    (hp : s.banks.swapPending = false) :
    exec .loadStaging s =
      .next (((s.took .loadStaging).served r rest .ok []).setBanks (s.banks.staged (r.arg 0) r.args.tail)) :=
  requestRow_banks .loadStaging 0x0F stagingArgs _ _ h rfl hok
    (State.storeRequest_idle (u := (s.took .loadStaging).reserve rest) he hp _)

/-! ### The engine's operations (R160, R163, R164) -/

section start
variable (he : s.banks.engine = .idle) (hp : s.banks.swapPending = false)
include he hp

theorem exec_clearStaging (h : s.Serves 0x10 r rest) (hargs : r.args.length = 0) : exec .clearStaging s =
    .next (((s.took .clearStaging).served r rest .ok []).setBanks { s.banks with marks := noMarks }) :=
  requestRow_banks .clearStaging 0x10 (·.hasArgs 0) _ _ h rfl (Request.hasArgs_of hargs)
    (State.storeRequest_idle (u := (s.took .clearStaging).reserve rest) he hp _)

theorem exec_commitPage (cal : Bool) (h : s.Serves 0x11 r rest) (hargs : r.args.length = 1) {b : Banks} {a : Answer}
    (hrun : ∀ u : State, u.banks = s.banks → u.commitPage (r.arg 0) cal = (u.setBanks b, a)) :
    exec (.commitPage cal) s = .next ((((s.took (.commitPage cal)).served r rest a.result a.data).setBanks b).setLines
      { s.lines with calEn := cal }) :=
  requestRow_sampled (.commitPage cal) 0x11 (·.hasArgs 1) _ cal b h rfl (Request.hasArgs_of hargs)
    ((State.storeRequest_idle (u := ((s.took (.commitPage cal)).reserve rest).sampleCal cal) he hp _).trans
      (hrun (((s.took (.commitPage cal)).reserve rest).sampleCal cal) rfl))

theorem exec_copyLive (h : s.Serves 0x12 r rest) (hargs : r.args.length = 0) {b : Banks} {a : Answer}
    (hrun : ∀ u : State, u.banks = s.banks → u.copyLive = (u.setBanks b, a)) :
    exec .copyLive s = .next (((s.took .copyLive).served r rest a.result a.data).setBanks b) :=
  requestRow_banks .copyLive 0x12 (·.hasArgs 0) _ _ h rfl (Request.hasArgs_of hargs)
    ((State.storeRequest_idle (u := (s.took .copyLive).reserve rest) he hp _).trans
      (hrun ((s.took .copyLive).reserve rest) rfl))

theorem exec_eraseShadow (cal : Bool) (h : s.Serves 0x13 r rest) (hargs : r.args.length = 0) :
    exec (.eraseShadow cal) s = .next ((((s.took (.eraseShadow cal)).served r rest .started []).setBanks
      { s.banks with engine := .erasing (!cal), progress := 0 }).setLines { s.lines with calEn := cal }) :=
  requestRow_sampled (.eraseShadow cal) 0x13 (·.hasArgs 0) _ cal _ h rfl (Request.hasArgs_of hargs)
    (State.storeRequest_idle (u := ((s.took (.eraseShadow cal)).reserve rest).sampleCal cal) he hp _)

/-! ### The swap (R165) -/

theorem exec_swapBanks (h : s.Serves 0x14 r rest) (hargs : r.args.length = 0) {b : Banks} {a : Answer}
    (hrun : ∀ u : State, u.banks = s.banks → u.ring.own = s.ring.own → u.ring.enabled = s.ring.enabled →
      u.swapBanks = (u.setBanks b, a)) :
    exec .swapBanks s = .next (((s.took .swapBanks).served r rest a.result a.data).setBanks b) :=
  requestRow_banks .swapBanks 0x14 (·.hasArgs 0) _ _ h rfl (Request.hasArgs_of hargs)
    ((State.storeRequest_idle (u := (s.took .swapBanks).reserve rest) he hp _).trans
      (hrun ((s.took .swapBanks).reserve rest) rfl rfl rfl))

/-- R165: with sweeps disabled the swap is taken at once. -/
theorem exec_swapBanks_taken (h : s.Serves 0x14 r rest) (hargs : r.args.length = 0)
    (hcomplete : s.banks.shadow.complete = true) (hcheck : s.banks.shadow.swapCheck s.ring.own = true)
    (hring : s.ring.enabled = false) : exec .swapBanks s =
      .next (((s.took .swapBanks).reserve rest).takeSwap.answerWith r (.plain .ok)) := by
  have hrun : ((s.took .swapBanks).reserve rest).swapBanks = (((s.took .swapBanks).reserve rest).takeSwap, .plain .ok) :=
    (if_neg (show ¬ (!s.banks.shadow.complete) = true by rw [hcomplete]; decide)).trans
      ((if_neg (show ¬ (!s.banks.shadow.swapCheck s.ring.own) = true by rw [hcheck]; decide)).trans
        (if_neg (show ¬ s.ring.enabled = true by rw [hring]; decide)))
  have hserves := requestRow_serves s .swapBanks 0x14 (·.hasArgs 0) (fun _ => State.storeRequest State.swapBanks) r rest h rfl
    (Request.hasArgs_of hargs)
  rw [State.storeRequest_idle (u := (s.took .swapBanks).reserve rest) he hp, hrun] at hserves
  exact hserves

end start

/-- Settles O53, a request at a time. -/
theorem storeRequestsWorkOnTheShadow : Obligations.StoreRequestsWorkOnTheShadow := by
  refine ⟨fun b own Mapped hmapped => ?check, fun s r rest he hp => ⟨fun h hlo hhi hfits hoffset hwf => ?stage,
    exec_clearStaging he hp, fun cal h hargs hlt hfree => ?commit, fun h hargs hlo hhi => ?locked,
    fun cal h hargs hge => ?address, fun h hargs hlive => ?copyNone, fun h hargs hlive => ?copy,
    fun cal => exec_eraseShadow he hp cal, fun h hargs => ⟨fun hc => ?notComplete, fun hc hk => ?swapCheck,
      fun hc hk hring => ?pending, fun hc hk hring => ?taken⟩⟩⟩
  case check =>
    obtain rfl : Mapped = b.Maps := funext fun a => funext fun cls => propext (hmapped a cls)
    exact b.swapCheck_iff own
  case stage =>
    have hread (x : Nat) := Memory.read_writeList r.args.tail s.banks.staging (r.arg 0) x hwf
    have htail : r.args.tail.length = r.args.length - 1 := List.length_tail
    rw [htail] at hread
    refine ⟨_, exec_loadStaging h (stagingArgs_of hlo hhi hfits hoffset) he hp, fun i hi => ?_, fun o ho => ?_,
      fun o m hm => ?_, rfl⟩
    · refine (hread _).trans ((if_pos ⟨by omega, by omega⟩).trans ?_)
      rw [Nat.add_sub_cancel_left, List.getD_eq_getElem?_getD, List.getElem?_tail, ← List.getD_eq_getElem?_getD]
    · exact (hread _).trans (if_neg (by omega))
    · rw [← htail]
      exact s.banks.staged_mark _ _ hm
  case commit =>
    refine exec_commitPage (b := { s.banks with engine := .committing (r.arg 0) false, progress := 0 })
      (a := .plain .started) he hp cal h hargs fun u hu => ?_
    rw [← hu]
    refine (if_neg (by omega)).trans (if_neg ?_)
    rintro ⟨hlo, hhi, hcal⟩
    obtain hfree | hfree | hfree := hfree
    · rw [hfree] at hcal
      cases hcal
    · omega
    · omega
  case locked =>
    exact exec_commitPage (b := s.banks) (a := .refuse .locked) he hp false h hargs fun u hu => by
      rw [← hu]
      exact (if_neg (by omega)).trans (if_pos ⟨hlo, hhi, rfl⟩)
  case address =>
    exact exec_commitPage (b := s.banks) (a := .refuse .address) he hp cal h hargs fun u hu => by
      rw [← hu]
      exact if_pos hge
  case copyNone =>
    exact exec_copyLive (b := s.banks) (a := .refuse .condition) he hp h hargs fun u hu => by
      have hlive : u.isLive = false := by rw [State.isLive, hu]; exact hlive
      rw [← hu, State.copyLive, hlive]
      rfl
  case copy =>
    refine exec_copyLive (b := { s.banks with engine := .copying, progress := 0 }) (a := .plain .started) he hp h hargs
      fun u hu => ?_
    have hlive : u.isLive = true := by rw [State.isLive, hu]; exact hlive
    rw [← hu]
    exact if_pos hlive
  case notComplete =>
    exact exec_swapBanks (b := s.banks) (a := .refuse .notComplete) he hp h hargs fun u hu _ _ => by
      rw [← hu] at hc ⊢
      exact if_pos (by rw [hc]; rfl)
  case swapCheck =>
    exact exec_swapBanks (b := s.banks) (a := .refuse .swapCheck) he hp h hargs fun u hu hown _ => by
      rw [← hown, ← hu] at hk
      rw [← hu] at hc ⊢
      exact (if_neg (by rw [hc]; decide)).trans (if_pos (by rw [hk]; rfl))
  case pending =>
    refine exec_swapBanks (b := { s.banks with swapPending := true }) (a := .plain .started) he hp h hargs
      fun u hu hown hen => ?_
    rw [← hown, ← hu] at hk
    rw [← hu] at hc ⊢
    rw [← hen] at hring
    exact (if_neg (by rw [hc]; decide)).trans ((if_neg (by rw [hk]; decide)).trans (if_pos hring))
  case taken =>
    have hans : s.Answerable rest ((s.took .swapBanks).reserve rest).takeSwap := ⟨rfl, h.awake.2, rfl⟩
    exact ⟨_, exec_swapBanks_taken he hp h hargs hc hk hring, congrArg some s.banks.shadowId_eq, rfl,
      List.mem_append_left _ (by simp [swapPosts]), hans.answers.2.2⟩

end Sys2Proof.Machine
end

section
/-! The rows of the requests, and the six steps that settle one (R7, R8, R171, R172). -/

namespace Sys2Proof.Machine
open State

variable {s : State} {r p : Request} {rest : List Request} {cal : Bool}

/-! ### Argument checks (§13.3, R187) -/

theorem hasArgs_iff (n : Nat) : r.hasArgs n = true ↔ r.args.length = n := decide_eq_true_iff

theorem oneArg_iff (n : Nat) : oneArg n r = true ↔ r.args.length = 1 ∧ r.arg 0 ≤ n := by
  rw [oneArg, Bool.and_eq_true, hasArgs_iff, decide_eq_true_iff]

theorem cycleKindOfCode_isSome (n : Nat) : (cycleKindOfCode n).isSome = true ↔ 1 ≤ n ∧ n ≤ 4 := by
  match n with
  | 0 | 1 | 2 | 3 | 4 => decide
  | n + 5 => simp [cycleKindOfCode]

theorem kindArg_iff : kindArg r = true ↔ r.args.length = 1 ∧ 1 ≤ r.arg 0 ∧ r.arg 0 ≤ 4 := by
  rw [kindArg, Bool.and_eq_true, hasArgs_iff, cycleKindOfCode_isSome]

theorem stagingArgs_iff : stagingArgs r = true ↔
    2 ≤ r.args.length ∧ r.args.length ≤ 7 ∧ r.arg 0 ≤ 63 ∧ r.arg 0 + (r.args.length - 1) ≤ 64 := by
  simp only [stagingArgs, Bool.and_eq_true, decide_eq_true_eq, and_assoc]

theorem tableArgs_iff : tableArgs r = true ↔ r.args.length = 4 ∧ r.arg 0 ≤ 1 ∧ r.arg 2 ≤ 63 ∧ 1 ≤ r.arg 3 ∧ r.arg 3 ≤ 5 ∧
    r.arg 2 + r.arg 3 ≤ 64 := by
  simp only [tableArgs, Bool.and_eq_true, decide_eq_true_eq, hasArgs_iff, and_assoc]

/-! ### The rows -/

/-- A request's command depends on its code alone. -/
theorem commandOf_congr (h : r.code = p.code) : commandOf cal r = commandOf cal p := by
  rw [commandOf, commandOf, h]

/-- The row that serves a code: its arguments are those of §13.3, SET ADDRESS and the store requests run as their rules say. -/
structure ServesCode (cal : Bool) (n : Nat) (c : Instr) (ok : Request → Bool) (run : Request → State → State × Answer) :
    Prop where
  exec_eq : ∀ s, exec c s = requestRow c n ok run s
  fits : ∀ r, r.code = some n → (ok r = true ↔ r.Fits)
  address : n = 0x16 → run = runSetAddress
  store : 0x0F ≤ n → n ≤ 0x14 → ∃ f : Request → State → State × Answer, ∀ r u,
    run r u = (if n = 0x11 ∨ n = 0x13 then u.sampleCal cal else u).storeRequest (f r)

section rows
variable {n : Nat} {c : Instr} {ok : Request → Bool} {run : Request → State → State × Answer}

/-- A row of neither SET ADDRESS nor a store request. -/
theorem ServesCode.plain (hexec : ∀ s, exec c s = requestRow c n ok run s)
    (hfits : ∀ r, r.code = some n → (ok r = true ↔ r.Fits) := by
      intro r h
      simp only [Request.Fits, h, oneArg_iff, hasArgs_iff, kindArg_iff, stagingArgs_iff, tableArgs_iff, Bool.and_eq_true,
        decide_eq_true_eq, cycleKindOfCode_isSome, and_assoc])
    (hn : n < 0x0F ∨ n = 0x15 ∨ n = 0x17 := by decide) : ServesCode cal n c ok run :=
  ⟨hexec, hfits, fun h => by omega, fun h h' => by omega⟩

/-- A store request's row. -/
theorem ServesCode.storing {f : Request → State → State × Answer} (hexec : ∀ s, exec c s = requestRow c n ok run s)
    (hrun : ∀ r u, run r u = (if n = 0x11 ∨ n = 0x13 then u.sampleCal cal else u).storeRequest (f r))
    (hfits : ∀ r, r.code = some n → (ok r = true ↔ r.Fits) := by
      intro r h
      simp only [Request.Fits, h, oneArg_iff, hasArgs_iff, kindArg_iff, stagingArgs_iff, tableArgs_iff, Bool.and_eq_true,
        decide_eq_true_eq, cycleKindOfCode_isSome, and_assoc])
    (hn : n ≤ 0x14 := by decide) : ServesCode cal n c ok run :=
  ⟨hexec, hfits, fun h => by omega, fun _ _ => ⟨f, hrun⟩⟩

end rows

/-- §13.3: every assigned code has its row. -/
theorem commandOf_row {n : Nat} (hp : p.code = some n) (hlo : 1 ≤ n) (hhi : n ≤ 0x17) :
    ∃ ok run, ServesCode cal n (commandOf cal p) ok run := by
  rw [commandOf, hp]
  interval_cases n
  iterate 14 exact ⟨_, _, .plain fun s => rfl⟩
  iterate 6 exact ⟨_, _, .storing (fun s => rfl) fun r u => rfl⟩
  · exact ⟨_, _, .plain fun s => rfl⟩
  · exact ⟨_, _, fun s => rfl, fun r h => by simp only [Request.Fits, h, oneArg_iff], fun _ => rfl, fun _ h => by omega⟩
  · exact ⟨_, _, .plain fun s => rfl⟩

/-! ### The head request settled (R171, R172) -/

/-- R171, R172: what the settling of the head request leaves. -/
def Settled.finish (r : Request) (u : State) : Settled → State
  | .dropped => u.dropRequest
  | .answered t a => t.answerWith r a

theorem taking_serve_head {c : Instr} {mine ok : Request → Bool} {run : Request → State → State × Answer}
    (h : s.MayStart r rest) (hmine : mine r = true) : taking c s (State.serve mine ok run) =
      .next ((((s.took c).reserve rest).settleRequest r ok run).finish r ((s.took c).reserve rest)) := by
  obtain ⟨hheld, hq, hsoft, hfree⟩ := h
  have hhead : (s.took c).headRequest = some (r, rest) := by
    simp [State.headRequest, hq, hsoft, hfree]
  rw [taking_awake _ _ _ hheld, State.serve, hhead]
  dsimp only
  rw [if_pos hmine]
  cases ((s.took c).reserve rest).settleRequest r ok run <;> rfl

theorem taking_serve_none {c : Instr} {mine ok : Request → Bool} {run : Request → State → State × Answer}
    (hheld : s.held = false) (h : s.headRequest = none) : taking c s (State.serve mine ok run) = .next (s.took c) := by
  have hhead : (s.took c).headRequest = none := h
  rw [taking_awake _ _ _ hheld, State.serve, hhead]

theorem taking_serve_other {c : Instr} {mine ok : Request → Bool} {run : Request → State → State × Answer}
    (hheld : s.held = false) (h : s.headRequest = some (r, rest)) (hmine : mine r = false) :
    taking c s (State.serve mine ok run) = .next (s.took c) := by
  have hhead : (s.took c).headRequest = some (r, rest) := h
  rw [taking_awake _ _ _ hheld, State.serve, hhead]
  exact congrArg _ (if_neg (by simp [hmine]))

/-! ### The six steps (R172) -/

section steps
variable {u : State} {ok : Request → Bool} {run : Request → State → State × Answer}

theorem State.checkAndRun_pos (h : ok r = true) : u.checkAndRun r ok run = .answered (run r u).1 (run r u).2 := if_pos h

theorem State.checkAndRun_neg (h : ok r = false) : u.checkAndRun r ok run = .answered u (.refuse .badArg) :=
  if_neg (by simp [h])

theorem State.settleRequest_setup (hsetup : u.lines.setup = true) : u.settleRequest r ok run =
    if setupAllows r.code then u.checkAndRun r ok run else .dropped := if_pos hsetup

theorem State.settleRequest_unassigned (hsetup : u.lines.setup = false) (h : assignedCode r.code = false) :
    u.settleRequest r ok run = .answered u (.refuse .badArg) :=
  (if_neg (by simp [hsetup])).trans (if_pos (by simp [h]))

variable (hsetup : u.lines.setup = false) (h : assignedCode r.code = true)
include hsetup h

theorem State.settleRequest_loading (hcode : r.code ≠ some 0x01) (hl : u.rc.loader.isLoading = true) :
    u.settleRequest r ok run = .answered u (.plain .notReady) :=
  (if_neg (by simp [hsetup])).trans ((if_neg (by simp [h])).trans (if_pos (by simp [hl, hcode])))

theorem State.settleRequest_source (hl : r.code = some 0x01 ∨ u.rc.loader.isLoading = false) (hlive : u.isLive = true)
    (hsrc : r.src ≠ u.param 78 3) : u.settleRequest r ok run = .answered u (.refuse .source) :=
  (if_neg (by simp [hsetup])).trans ((if_neg (by simp [h])).trans ((if_neg (by
    obtain hl | hl := hl <;> simp [hl])).trans (if_pos (by simp [hlive, hsrc]))))

theorem State.settleRequest_last (hl : r.code = some 0x01 ∨ u.rc.loader.isLoading = false)
    (hsrc : u.isLive = true → r.src = u.param 78 3) : u.settleRequest r ok run = u.checkAndRun r ok run :=
  (if_neg (by simp [hsetup])).trans ((if_neg (by simp [h])).trans ((if_neg (by
    obtain hl | hl := hl <;> simp [hl])).trans (if_neg (by
      cases hlive : u.isLive
      · simp
      · simp [hsrc hlive]))))

end steps

theorem assignedCode_iff (code : Option Nat) : assignedCode code = true ↔ ∃ n, code = some n ∧ 1 ≤ n ∧ n ≤ 0x17 := by
  cases code with
  | none => simp [assignedCode]
  | some n => simp [assignedCode]

theorem commandOf_unassigned (h : assignedCode r.code = false) : commandOf cal r = .unassignedRequest := by
  unfold commandOf
  split
  all_goals simp_all [assignedCode]

end Sys2Proof.Machine
end

section
/-! Refusals, setup mode and rows that are not the head's (R7, R8, R12, R159, R172, R173, R187). -/

namespace Sys2Proof.Machine
open State

variable {s : State} {r p : Request} {rest : List Request} {cal : Bool} {c : Instr}

/-! ### The head request's row -/

/-- R171, R172: the head request is settled by its row. -/
theorem exec_commandOf_head (cal : Bool) (h : s.MayStart r rest) : ∃ ok run,
    exec (commandOf cal r) s = .next ((((s.took (commandOf cal r)).reserve rest).settleRequest r ok run).finish r
      ((s.took (commandOf cal r)).reserve rest)) ∧
    ∀ n, r.code = some n → 1 ≤ n → n ≤ 0x17 → ServesCode cal n (commandOf cal r) ok run := by
  cases ha : assignedCode r.code with
  | false =>
    rw [commandOf_unassigned ha]
    refine ⟨_, _, taking_serve_head (c := .unassignedRequest) h (by rw [ha]; rfl), fun n hn hlo hhi => ?_⟩
    rw [(assignedCode_iff _).2 ⟨n, hn, hlo, hhi⟩] at ha
    cases ha
  | true =>
    obtain ⟨n, hn, hlo, hhi⟩ := (assignedCode_iff _).1 ha
    obtain ⟨ok, run, hrow⟩ := commandOf_row (cal := cal) hn hlo hhi
    refine ⟨ok, run, (hrow.exec_eq s).trans (taking_serve_head h (by rw [hn]; exact beq_self_eq_true (some n))),
      fun m hm _ _ => ?_⟩
    rw [hn] at hm
    cases hm
    exact hrow

/-! ### How the settling ends -/

theorem finish_answered (hsoft : s.mu.softWait = false) (result : Result) (data : List Word) :
    (Settled.answered ((s.took c).reserve rest) { result := result, data := data }).finish r ((s.took c).reserve rest) =
      (s.took c).served r rest result data := answerWith_read s c r rest result data hsoft

theorem finish_dropped : Settled.dropped.finish r ((s.took c).reserve rest) =
    (((s.took c).setMu { s.mu with queue := rest }).setRing { s.ring with reserved := false }).post
      ((if ∃ x ∈ s.inter.rows ++ s.inter.leaving, x.dirty = true then [.dirtyRowOffer] else []) ++
        (if s.mu.owed = true then [.noteOwedOffer] else [])) :=
  congrArg (State.post _) (State.freedPosts_eq _)

/-! ### SET ADDRESS (R7) -/

theorem runSetAddress_setup {u : State} (h : u.lines.setup = true) :
    runSetAddress r u = (u.setRing { u.ring with own := r.arg 0 }, .plain .ok) := if_pos h

theorem runSetAddress_refused {u : State} (h : u.lines.setup = false) : runSetAddress r u = (u, .refuse .condition) :=
  if_neg (by simp [h])

/-- R7, R8: in setup mode the new own address is answered from address 30. -/
theorem answerWith_setAddress (hsetup : s.lines.setup = true) (hsoft : s.mu.softWait = false) (own : Nat) :
    (((s.took c).reserve rest).setRing { ((s.took c).reserve rest).ring with own := own }).answerWith r (.plain .ok) =
      ((s.took c).setMu { s.mu with queue := rest }).setRing
        { s.ring.join (.mrsp r.src 30 [r.payload.headD 0#16, 0x0000#16] false) with own := own, reserved := false } := by
  have hanswering : (((s.took c).reserve rest).setRing
      { ((s.took c).reserve rest).ring with own := own }).answering = 30 := if_pos hsetup
  have hwait : (((s.took c).reserve rest).setRing
      { ((s.took c).reserve rest).ring with own := own }).mu.softWait = false := hsoft
  rw [State.answerWith, State.response, hanswering, hwait]
  rfl

/-! ### A busy engine (R159) -/

theorem State.sampled_eq (u : State) (cal : Bool) (q : Prop) [Decidable q] :
    (if q then u.sampleCal cal else u) = u.setLines (if q then { u.lines with calEn := cal } else u.lines) := by
  split <;> rfl

theorem State.storeRequest_busy {u : State} (h : u.banks.engine ≠ .idle ∨ u.banks.swapPending = true)
    (f : State → State × Answer) : u.storeRequest f = (u, u.banks.busyAnswer) := by
  refine if_pos ?_
  rw [Banks.busy, Bool.or_eq_true, bne_iff_ne]
  exact h

theorem Banks.busyAnswer_eq (b : Banks) : b.busyAnswer = { result := .busy, data := [word ((match b.engine with
    | .idle => 0
    | .committing _ _ => 1
    | .copying => 2
    | .erasing _ => 3) + b.progress * 256 + flag b.swapPending * 32768)] } := by
  rw [Banks.busyAnswer, Banks.engineWord]
  cases b.engine <;> rfl

/-- R159: the BUSY answer of a store request, CAL_EN sampled where its rule samples it. -/
theorem finish_busy {run : Request → State → State × Answer} {f : Request → State → State × Answer} {n : Nat}
    (hrun : ∀ r u, run r u = (if n = 0x11 ∨ n = 0x13 then u.sampleCal cal else u).storeRequest (f r))
    (hcode : r.code = some n) (hsoft : s.mu.softWait = false)
    (h : s.banks.engine ≠ .idle ∨ s.banks.swapPending = true) :
    (Settled.answered (run r ((s.took c).reserve rest)).1 (run r ((s.took c).reserve rest)).2).finish r
        ((s.took c).reserve rest) =
      ((s.took c).served r rest .busy s.banks.busyAnswer.data).setLines
        (if r.code = some 0x11 ∨ r.code = some 0x13 then { s.lines with calEn := cal } else s.lines) := by
  obtain ⟨x, hx⟩ : ∃ x : Lines, x = if n = 0x11 ∨ n = 0x13 then { s.lines with calEn := cal } else s.lines := ⟨_, rfl⟩
  have hlines : (if r.code = some 0x11 ∨ r.code = some 0x13 then { s.lines with calEn := cal } else s.lines) = x := by
    rw [hcode, hx]
    simp only [Option.some.injEq]
  have hran : run r ((s.took c).reserve rest) = (((s.took c).reserve rest).setLines x, s.banks.busyAnswer) := by
    rw [hrun, State.sampled_eq]
    exact (State.storeRequest_busy (u := ((s.took c).reserve rest).setLines _) h (f r)).trans
      (by rw [hx]; rfl)
  have hsetup : x.setup = s.lines.setup := by
    rw [hx]
    split <;> rfl
  have hans : s.Answerable rest (((s.took c).reserve rest).setLines x) := by
    refine ⟨rfl, hsoft, ?_⟩
    show (if x.setup then Config.setupAddress else s.ring.own) = _
    rw [hsetup]
    rfl
  rw [hran, hlines]
  exact hans.answer_eq rfl

/-! ### Rows that are not the head's -/

theorem exec_commandOf_idle (hheld : s.held = false)
    (h : s.headRequest = none ∨ ∃ r rest, s.headRequest = some (r, rest) ∧ ∀ cal', commandOf cal p ≠ commandOf cal' r) :
    exec (commandOf cal p) s = .next (s.took (commandOf cal p)) := by
  cases ha : assignedCode p.code with
  | false =>
    have hc := commandOf_unassigned (cal := cal) ha
    rw [hc] at h ⊢
    obtain h | ⟨r, rest, h, hne⟩ := h
    · exact taking_serve_none (c := .unassignedRequest) hheld h
    · refine taking_serve_other (c := .unassignedRequest) hheld h ?_
      cases hr : assignedCode r.code with
      | true => rfl
      | false => exact absurd (commandOf_unassigned (cal := cal) hr).symm (hne cal)
  | true =>
    obtain ⟨n, hn, hlo, hhi⟩ := (assignedCode_iff _).1 ha
    obtain ⟨ok, run, hrow⟩ := commandOf_row (cal := cal) hn hlo hhi
    obtain h | ⟨r, rest, h, hne⟩ := h
    · exact (hrow.exec_eq s).trans (taking_serve_none hheld h)
    · refine (hrow.exec_eq s).trans (taking_serve_other hheld h (beq_eq_false_iff_ne.2 fun hr => hne cal ?_))
      exact commandOf_congr (hn.trans hr.symm)

/-- §13.3: the result words. -/
theorem resultWords : Result.ok.word = 0x0000#16 ∧ Result.started.word = 0x0100#16 ∧ Result.busy.word = 0x0200#16 ∧
    Result.merged.word = 0x0300#16 ∧ Result.notReady.word = 0x0400#16 ∧
    ∀ k x, (x, k) ∈ [(Reason.source, 1), (.address, 2), (.locked, 3), (.notComplete, 5), (.swapCheck, 6),
      (.notServiced, 7), (.notPresent, 8), (.fault, 9), (.condition, 10), (.badArg, 11)] →
      (Result.refused x).word = word (0x0500 + k) := by
  refine ⟨rfl, rfl, rfl, rfl, rfl, fun k x h => ?_⟩
  have hcode : x.code = k := by
    revert h
    cases x <;> simp +contextual [Reason.code]
  rw [← hcode]
  rfl

/-- Settles O52: the six steps of R172 at the head request, and the rows that do nothing. -/
theorem refusalsAndSetupModeChangeNothing : Obligations.RefusalsAndSetupModeChangeNothing := by
  refine ⟨?head, ?other, resultWords⟩
  case other =>
    rintro s c hheld ⟨cal, p, rfl⟩
    exact ⟨fun h => exec_commandOf_idle hheld (.inl h), fun r rest h hne => exec_commandOf_idle hheld (.inr ⟨r, rest, h, hne⟩)⟩
  case head =>
    rintro s r rest cal c hmay rfl
    obtain ⟨ok, run, hexec, hrow⟩ := exec_commandOf_head cal hmay
    obtain ⟨-, -, hsoft, -⟩ := hmay
    obtain ⟨c, hc⟩ : ∃ c, c = commandOf cal r := ⟨_, rfl⟩
    rw [← hc] at hexec hrow ⊢
    have hfits {n : Nat} (hn : r.code = some n) (hlo : 1 ≤ n) (hhi : n ≤ 0x17) (hbad : ¬ r.Fits) : ok r = false :=
      Bool.eq_false_iff.2 fun hok => hbad (((hrow n hn hlo hhi).fits r hn).1 hok)
    refine ⟨fun hsetup => ⟨fun hcode hargs harg => ?address, fun hcode hbad => ?setupBad, fun h1 h2 => ?dropped⟩,
      fun hsetup Assigned hassigned => ⟨fun hno => ⟨?_, ?unassigned⟩, fun hyes h1 hload => ?loading,
        fun hyes hload hlive hsrc => ?source, fun hyes hload hsrc => ⟨fun hbad => ?badArg, fun hfit hcode => ?condition,
          fun hfit hcode hbusy => ?busy⟩⟩⟩
    case address =>
      have hserves := hrow 0x16 hcode (by decide) (by decide)
      have hok : ok r = true := (hserves.fits r hcode).2 (by simp only [Request.Fits, hcode]; exact ⟨hargs, harg⟩)
      rw [hexec, State.settleRequest_setup (u := (s.took c).reserve rest) hsetup,
        if_pos (by rw [hcode]; rfl), State.checkAndRun_pos hok,
        hserves.address rfl, runSetAddress_setup (u := (s.took c).reserve rest) hsetup]
      exact congrArg _ (answerWith_setAddress hsetup hsoft (r.arg 0))
    case setupBad =>
      have hok : ok r = false := by
        obtain hcode | hcode := hcode
        · exact hfits hcode (by decide) (by decide) hbad
        · exact hfits hcode (by decide) (by decide) hbad
      rw [hexec, State.settleRequest_setup (u := (s.took c).reserve rest) hsetup,
        if_pos (by obtain h | h := hcode <;> rw [h] <;> rfl),
        State.checkAndRun_neg hok]
      exact congrArg _ (finish_answered hsoft _ _)
    case dropped =>
      rw [hexec, State.settleRequest_setup (u := (s.took c).reserve rest) hsetup,
        if_neg (by simp [setupAllows, h1, h2])]
      exact congrArg _ finish_dropped
    all_goals rw [← assignedCode_iff] at hassigned
    · rw [hc]
      exact commandOf_unassigned (Bool.eq_false_iff.2 fun h => hno (hassigned.2 h))
    case unassigned =>
      rw [hexec, State.settleRequest_unassigned (u := (s.took c).reserve rest) hsetup
        (Bool.eq_false_iff.2 fun h => hno (hassigned.2 h))]
      exact congrArg _ (finish_answered hsoft _ _)
    case loading =>
      rw [hexec, State.settleRequest_loading (u := (s.took c).reserve rest) hsetup (hassigned.1 hyes) h1 hload]
      exact congrArg _ (finish_answered hsoft _ _)
    case source =>
      rw [hexec, State.settleRequest_source (u := (s.took c).reserve rest) hsetup (hassigned.1 hyes) hload hlive hsrc]
      exact congrArg _ (finish_answered hsoft _ _)
    all_goals rw [hexec, State.settleRequest_last (u := (s.took c).reserve rest) hsetup (hassigned.1 hyes) hload hsrc]
    case badArg =>
      obtain ⟨n, hn, hlo, hhi⟩ := (assignedCode_iff _).1 (hassigned.1 hyes)
      rw [State.checkAndRun_neg (hfits hn hlo hhi hbad)]
      exact congrArg _ (finish_answered hsoft _ _)
    case condition =>
      have hserves := hrow 0x16 hcode (by decide) (by decide)
      rw [State.checkAndRun_pos ((hserves.fits r hcode).2 hfit), hserves.address rfl,
        runSetAddress_refused (u := (s.took c).reserve rest) hsetup]
      exact congrArg _ (finish_answered hsoft _ _)
    case busy =>
      obtain ⟨n, hn, hlo, hhi⟩ := hcode
      have hserves := hrow n hn (by omega) (by omega)
      obtain ⟨f, hrun⟩ := hserves.store hlo hhi
      rw [State.checkAndRun_pos ((hserves.fits r hn).2 hfit)]
      exact congrArg _ ((finish_busy hrun hn hsoft hbusy).trans
        (congrArg (fun a : Answer => ((s.took c).served r rest .busy a.data).setLines _) s.banks.busyAnswer_eq))

end Sys2Proof.Machine
end

section
/-! The reads served, and the words of their parts (R168, R173, R174, §13.7). -/

namespace Sys2Proof.Machine
open State

variable {s : State} {r : Request} {rest : List Request}

/-! ### Reads served (R173, R174) -/

/-- R174, §13.7: READ STATUS is served while LOADING too, and in setup mode. -/
theorem exec_readStatus (h : s.MayStart r rest) (hcode : r.code = some 0x01) (hargs : r.args.length = 1)
    (hpart : r.arg 0 ≤ 7) (hsrc : s.lines.setup = false → s.isLive = true → r.src = s.param 78 3) :
    exec .readStatus s = .next ((s.took .readStatus).served r rest .ok (s.statusPart (r.arg 0))) := by
  have hok : oneArg 7 r = true := (oneArg_iff 7).2 ⟨hargs, hpart⟩
  have hexec := taking_serve_head (c := .readStatus) (mine := fun r => r.code == some 0x01) (ok := oneArg 7)
    (run := readWith fun r s => s.statusPart (r.arg 0)) h (by rw [hcode]; rfl)
  obtain ⟨-, -, hsoft, -⟩ := h
  have hsettled : ((s.took .readStatus).reserve rest).settleRequest r (oneArg 7)
      (readWith fun r s => s.statusPart (r.arg 0)) =
        .answered ((s.took .readStatus).reserve rest) { result := .ok, data := s.statusPart (r.arg 0) } := by
    cases hsetup : s.lines.setup with
    | true =>
      exact (State.settleRequest_setup (u := (s.took .readStatus).reserve rest) hsetup).trans
        ((if_pos (by rw [hcode]; rfl)).trans (State.checkAndRun_pos hok))
    | false =>
      exact (State.settleRequest_last (u := (s.took .readStatus).reserve rest) hsetup (by rw [hcode]; rfl) (.inl hcode)
        (hsrc hsetup)).trans (State.checkAndRun_pos hok)
  rw [hsettled] at hexec
  exact hexec.trans (congrArg _ (finish_answered hsoft _ _))

theorem exec_readZone (h : s.Serves 0x05 r rest) (hargs : r.args.length = 2) (hz : r.arg 0 ≤ 7) (hpart : r.arg 1 ≤ 3) :
    exec .readZone s = .next ((s.took .readZone).served r rest .ok (s.zonePart (r.arg 0) (r.arg 1))) :=
  requestRow_settled s .readZone 0x05 _ _ r rest .ok _ h rfl
    (by simp only [Request.hasArgs_of hargs, hz, hpart, decide_true, Bool.and_self]) rfl

theorem exec_readFilter (h : s.Serves 0x06 r rest) (hargs : r.args.length = 2) (hst : r.arg 0 ≤ 2) (hpart : r.arg 1 ≤ 5) :
    exec .readFilter s = .next ((s.took .readFilter).served r rest .ok (s.filterPart r.stage (r.arg 1))) :=
  requestRow_settled s .readFilter 0x06 _ _ r rest .ok _ h rfl
    (by simp only [Request.hasArgs_of hargs, hst, hpart, decide_true, Bool.and_self]) rfl

theorem exec_readTank (h : s.Serves 0x09 r rest) (hargs : r.args.length = 1) (hpart : r.arg 0 ≤ 1) :
    exec .readTank s = .next ((s.took .readTank).served r rest .ok (s.tankPart (r.arg 0))) :=
  requestRow_settled s .readTank 0x09 _ _ r rest .ok _ h rfl ((oneArg_iff 1).2 ⟨hargs, hpart⟩) rfl

theorem exec_readCycle {k : CycleKind} (h : s.Serves 0x0A r rest) (hargs : r.args.length = 2)
    (hk : cycleKindOfCode (r.arg 0) = some k) (hpart : r.arg 1 ≤ 2) :
    exec .readCycle s = .next ((s.took .readCycle).served r rest .ok (s.cyclePart k (r.arg 1))) := by
  have hkind : r.kind = k := by rw [Request.kind, hk, Option.getD_some]
  rw [← hkind]
  exact requestRow_settled s .readCycle 0x0A _ _ r rest .ok _ h rfl
    (by simp only [Request.hasArgs_of hargs, hk, hpart, Option.isSome_some, decide_true, Bool.and_self]) rfl

theorem exec_readTable {a : Answer} (h : s.Serves 0x15 r rest) (hok : tableArgs r = true)
    (ha : s.readTable (r.arg 0) (r.arg 1) (r.arg 2) (r.arg 3) = a) :
    exec .readTable s = .next ((s.took .readTable).served r rest a.result a.data) :=
  requestRow_settled s .readTable 0x15 _ _ r rest a.result a.data h rfl hok
    (show ((s.took .readTable).reserve rest, s.readTable (r.arg 0) (r.arg 1) (r.arg 2) (r.arg 3)) = _ by rw [ha])

/-! ### Fields -/

theorem words_congr {x y : Word} {xs ys : List Word} (h : x = y) (hs : xs = ys) : x :: xs = y :: ys :=
  congrArg₂ List.cons h hs

/-- §13.7: the code of the shadow's status: 0 all EMPTY, 2 all WRITTEN, else 1. -/
theorem Bank.statusCode_eq (b : Bank) : b.statusCode =
    if ∀ x ∈ b.status, x = .empty then 0 else if ∀ x ∈ b.status, x = .written then 2 else 1 := by
  have hall (y : PageStatus) : (b.status.all (· == y)) = true ↔ ∀ x ∈ b.status, x = y := by
    simp only [List.all_eq_true, beq_iff_eq]
  simp only [Bank.statusCode, Bank.isBlank, Bank.complete, hall]

theorem Request.stage_of {st : Stage} (h : stageOfCode (r.arg 0) = some st) :
    r.stage = st ∧ r.arg 0 = Stage.index st ∧ r.arg 0 ≤ 2 := by
  have hstage : r.stage = st := by rw [Request.stage, h, Option.getD_some]
  have hindex : r.arg 0 = Stage.index st := by
    unfold stageOfCode at h
    split at h <;> cases h <;> assumption
  exact ⟨hstage, hindex, by rw [hindex]; cases st <;> decide⟩

/-- The points of a curve, by what each gives. -/
theorem curveWords_eq {point : Option Curve → Nat → Word} (hnone : ∀ k, point none k = 0xFFFF#16)
    (hsome : ∀ c k, point (some c) k = wordOrNone (Curve.at c k)) (c : Option Curve) (steps : List Nat) :
    curveWords c steps = steps.map (point c) := by
  refine List.map_congr_left fun k _ => ?_
  cases c with
  | none => exact (hnone k).symm
  | some c => exact (hsome c k).symm

/-! ### The instance of a kind (R124, §13.7) -/

section instances
variable {e : CycleEngine} {c : Cycle} {k : CycleKind}

theorem find?_kind_none {q : List Cycle} (h : ∀ x ∈ q, x.kind ≠ k) : q.find? (fun x => x.kind == k) = none :=
  List.find?_eq_none.2 fun x hx => by rw [beq_iff_eq]; exact h x hx

theorem filter_kind_none {o : Option Cycle} (h : ∀ x, o = some x → x.kind ≠ k) : o.filter (fun x => x.kind == k) = none := by
  cases o with
  | none => rfl
  | some x => exact Option.filter_some_neg (beq_eq_false_iff_ne.2 (h x rfl))

theorem filter_kind_some (h : c.kind = k) : (some c).filter (fun x => x.kind == k) = some c :=
  Option.filter_some_pos (beq_iff_eq.2 h)

theorem CycleEngine.instanceOf_absent (h : e.has k = false) : e.instanceOf k = none := by
  have habsent : k ∉ e.kinds := fun hk => by
    rw [(e.has_iff k).2 hk] at h
    cases h
  rw [e.mem_kinds, not_or, not_or] at habsent
  obtain ⟨hq, hr, hs⟩ := habsent
  rw [CycleEngine.instanceOf, find?_kind_none fun x hx hk => hq ⟨x, hx, hk⟩,
    filter_kind_none fun x hx hk => hr ⟨x, hx, hk⟩, filter_kind_none fun x hx hk => hs ⟨x, hx, hk⟩]
  rfl

/-- R124: no kind is in two places. -/
theorem CycleEngine.kinds_apart (h : e.kinds.Nodup) : (e.queue.map (·.kind)).Nodup ∧
    (∀ x ∈ e.queue, ∀ y, e.running = some y ∨ e.suspended = some y → x.kind ≠ y.kind) ∧
    ∀ x y, e.running = some x → e.suspended = some y → x.kind ≠ y.kind := by
  rw [CycleEngine.kinds, List.append_assoc, List.nodup_append] at h
  obtain ⟨hq, hrest, hapart⟩ := h
  rw [List.nodup_append] at hrest
  obtain ⟨-, -, hplaces⟩ := hrest
  refine ⟨hq, fun x hx y hy => hapart _ (List.mem_map_of_mem hx) _ ?_, fun x y hx hy => hplaces _ ?_ _ ?_⟩
  · obtain hy | hy := hy
    · exact List.mem_append_left _ (by rw [hy]; exact List.mem_singleton_self _)
    · exact List.mem_append_right _ (by rw [hy]; exact List.mem_singleton_self _)
  · rw [hx]
    exact List.mem_singleton_self _
  · rw [hy]
    exact List.mem_singleton_self _

theorem CycleEngine.instanceOf_queued (h : e.kinds.Nodup) (hc : c ∈ e.queue) (hk : c.kind = k) :
    e.instanceOf k = some (0, c) := by
  obtain ⟨hq, -, -⟩ := e.kinds_apart h
  have hfind : e.queue.find? (fun x => x.kind == k) = some c := by
    cases hf : e.queue.find? (fun x => x.kind == k) with
    | none => exact absurd (beq_iff_eq.2 hk) (List.find?_eq_none.1 hf c hc)
    | some x =>
      have hx := List.find?_some hf
      rw [List.inj_on_of_nodup_map hq (List.mem_of_find?_eq_some hf) hc ((beq_iff_eq.1 hx).trans hk.symm)]
  rw [CycleEngine.instanceOf, hfind]

theorem CycleEngine.instanceOf_running (h : e.kinds.Nodup) (hc : e.running = some c) (hk : c.kind = k) :
    e.instanceOf k = some (1, c) := by
  obtain ⟨-, hq, -⟩ := e.kinds_apart h
  rw [CycleEngine.instanceOf, find?_kind_none fun x hx hxk => hq x hx c (.inl hc) (hxk.trans hk.symm), hc,
    filter_kind_some hk]

theorem CycleEngine.instanceOf_suspended (h : e.kinds.Nodup) (hc : e.suspended = some c) (hk : c.kind = k) :
    e.instanceOf k = some (2, c) := by
  obtain ⟨-, hq, hr⟩ := e.kinds_apart h
  rw [CycleEngine.instanceOf, find?_kind_none fun x hx hxk => hq x hx c (.inr hc) (hxk.trans hk.symm),
    filter_kind_none fun x hx hxk => hr x c hx hc (hxk.trans hk.symm), hc, filter_kind_some hk]
  rfl

end instances

/-! ### Tables (R168) -/

section tables
variable {page offset count : Nat}

theorem State.readTable_address (bank : Nat) (h : 79 ≤ page) : s.readTable bank page offset count = .refuse .address :=
  if_pos h

theorem State.readTable_live {id : BankId} (h : page < 79) (hlive : s.banks.live = some id) :
    s.readTable 0 page offset count = { result := .ok, data := word ((s.banks.bank id).stamp.getD 0) ::
      ((List.range count).map fun i => (s.banks.bank id).word page (offset + i)) } := by
  have hone : s.isLive = true := by rw [State.isLive, hlive]; rfl
  rw [State.readTable, if_neg (by omega), if_pos rfl, State.readLive, if_pos hone]
  simp only [Banks.liveStamp, Banks.liveWord, hlive]

theorem State.readTable_none (h : page < 79) (hlive : s.banks.live = none) :
    s.readTable 0 page offset count = .refuse .condition := by
  have hnone : s.isLive = false := by rw [State.isLive, hlive]; rfl
  rw [State.readTable, if_neg (by omega), if_pos rfl, State.readLive, if_neg (by rw [hnone]; decide)]

theorem State.readTable_busy (h : page < 79) (he : s.banks.engine ≠ .idle) :
    s.readTable 1 page offset count = s.banks.busyAnswer := by
  rw [State.readTable, if_neg (by omega), if_neg (by decide), State.readShadow, if_neg he]

theorem State.readTable_shadow {x : PageStatus} (h : page < 79) (he : s.banks.engine = .idle)
    (hx : s.banks.shadow.status[page]? = some x) : s.readTable 1 page offset count =
      { result := .ok, data := word x.code :: ((List.range count).map fun i =>
        if x = .empty then 0#16 else s.banks.shadow.word page (offset + i)) } := by
  have hstatus : s.banks.shadow.pageStatus page = x := by rw [Bank.pageStatus, List.getD_eq_getElem?_getD, hx, Option.getD_some]
  rw [State.readTable, if_neg (by omega), if_neg (by decide), State.readShadow, if_pos he]
  simp only [Bank.shownWord, hstatus]

end tables

end Sys2Proof.Machine
end

section
/-! The reads answer and change nothing (R168, R173, R174, §13.7). -/

namespace Sys2Proof.Machine
open State

/-- Settles O50, a read at a time. -/
theorem readsAnswerAndChangeNothing : Obligations.ReadsAnswerAndChangeNothing := by
  intro s r rest Out row place q kind hOut hrow hplace hq hdefrost hpump hregen hprofile
  have hkind (k : CycleKind) : kind k = CycleKind.priority k := by
    cases k
    · exact hdefrost
    · exact hpump
    · exact hregen
    · exact hprofile
  refine ⟨fun hmay hcode hargs hsrc => ?status, fun z x h hargs hz hz7 hx => ?zone,
    fun st x i h hargs hst hx hi life threshold point hlife hthreshold hnone hsome => ?filter, fun h hargs => ?tank,
    fun k h hargs hk => ?cycle, fun h hargs hbank hoffset hlo hhi hfits => ?table⟩
  case status =>
    have hread {n : Nat} {ds : List Word} (h : r.arg 0 = n) (hn : n ≤ 7) (hds : s.statusPart n = ds) :
        Out .readStatus ds := by
      rw [hOut, ← hds, ← h]
      exact exec_readStatus hmay hcode hargs (by omega) hsrc
    have houtput (k : RowKind) : s.outputWord k = row k := by
      rw [hrow, State.outputWord]
      cases s.inter.row k <;> rfl
    have hposition (z : Nat) : s.positionField z = place z := by
      rw [hplace, State.positionField]
      cases s.inter.row (.damper z) <;> rfl
    refine ⟨fun h => hread h (by decide) ?part0, fun h => hread h (by decide) rfl, fun h => hread h (by decide) ?part2,
      fun h => hread h (by decide) ?part3, fun h => hread h (by decide) ?part4,
      fun h method hm0 hm1 hm2 => hread h (by decide) ?part5, fun h => hread h (by decide) ?part6,
      fun h => hread h (by decide) ?part7⟩
    case part0 =>
      refine words_congr ?_ (words_congr ?_ (words_congr ?_ (words_congr rfl (words_congr ?_ rfl))))
      · cases s.rc.level <;> rfl
      · cases s.rc.loader with
        | notRun => exact (rfl : word (0 + 0 * 256) = _)
        | loading w => exact (rfl : word (1 + 0 * 256) = _)
        | loaded => exact (rfl : word (2 + 0 * 256) = _)
        | failed reason i =>
          cases reason with
          | noMemory => exact (rfl : word (3 + 1 * 256) = _)
          | badSignature => exact (rfl : word (3 + 2 * 256) = _)
          | badPage => exact (rfl : word (3 + 3 * 256) = _)
          | validate => exact (rfl : word (3 + 4 * 256) = _)
          | chainLimit => exact (rfl : word (3 + 5 * 256) = _)
          | incomplete => exact (rfl : word (3 + 6 * 256) = _)
          | swapCheck => exact (rfl : word (3 + 7 * 256) = _)
      · cases s.rc.loader <;> rfl
      · cases s.ring.outstanding <;> rfl
    case part2 =>
      show s.status2 = _
      rw [State.status2]
      cases s.alloc.record with
      | none => rfl
      | some a =>
        refine words_congr rfl (words_congr ?_ (words_congr rfl (words_congr rfl (words_congr ?_ rfl))))
        · cases a.idle <;> rfl
        · cases a.applied <;> rfl
    case part3 =>
      rw [← houtput, ← houtput, ← houtput, ← houtput]
      rfl
    case part4 =>
      simp only [← hposition]
      rfl
    case part5 =>
      have hmethod (m : Option Method) : methodCode m = method m := by
        match m with
        | none => exact hm0.symm
        | some .compressor => exact hm1.symm
        | some .desiccant => exact hm2.symm
      rw [← hmethod, ← hmethod]
      refine words_congr ?_ rfl
      cases s.dry.state <;> rfl
    case part6 =>
      refine words_congr ?_ (words_congr ?_ (words_congr ?_ (words_congr ?_ rfl)))
      · cases s.banks.live with
        | none => rfl
        | some id => cases id <;> rfl
      · rw [Banks.liveStamp]
        cases s.banks.live <;> rfl
      · rw [Bank.statusCode_eq]
        rfl
      · rw [Banks.engineWord]
        cases s.banks.engine <;> rfl
    case part7 =>
      show s.status7 = _
      rw [State.status7]
      cases s.banks.record with
      | none => rfl
      | some x =>
        refine words_congr ?_ (words_congr ?_ (words_congr ?_ rfl))
        · refine congrArg word (congrArg₂ (· + ·) ?_ ?_)
          · cases x.op <;> rfl
          · cases x.outcome with
            | done => exact (rfl : 0 * 256 = 0)
            | failed o => exact (rfl : 1 * 256 = 256)
            | torn => exact (rfl : 2 * 256 = 512)
        · cases x.page <;> rfl
        · cases x.outcome <;> rfl
  case zone =>
    subst hz hx
    have hread {n : Nat} {ds : List Word} (hn : r.arg 1 = n) (h3 : n ≤ 3) (hds : s.zonePart (r.arg 0) n = ds) :
        Out .readZone ds := by
      rw [hOut, ← hds, ← hn]
      exact exec_readZone h hargs hz7 (by omega)
    have hquality (f : ZoneField) : qualityCode ((s.zone (r.arg 0)).readings.get f).quality = q f (r.arg 0) := by
      rw [hq]
      cases ((s.zone (r.arg 0)).readings.get f).quality <;> rfl
    refine ⟨fun hp => hread hp (by decide) ?_, fun hp => hread hp (by decide) rfl, fun hp => hread hp (by decide) ?_,
      fun hp => hread hp (by decide) ?_⟩
    · refine words_congr ?_ (words_congr rfl (words_congr rfl (words_congr rfl (words_congr ?_
        (words_congr ?_ rfl)))))
      · cases (s.zone (r.arg 0)).state <;> rfl
      · cases (s.zone (r.arg 0)).boost <;> rfl
      · cases (s.zone (r.arg 0)).window <;> rfl
    · simp only [← hquality]
      rfl
    · show s.zonePart3 (r.arg 0) = _
      rw [State.zonePart3]
      cases s.alloc.record <;> rfl
  case filter =>
    obtain ⟨hstage, hindex, hle⟩ := Request.stage_of hst
    subst hx
    have hparams : (s.stageParams st).life = life ∧ (s.stageParams st).threshold = threshold ∧
        (s.stageParams st).rise = s.param 76 (i + 4) := by
      rw [hthreshold, hlife, hi, hindex]
      exact ⟨rfl, rfl, rfl⟩
    obtain ⟨hl, ht, hr⟩ := hparams
    have hpoint := curveWords_eq hnone hsome
    have hread {n : Nat} {ds : List Word} (hn : r.arg 1 = n) (h5 : n ≤ 5) (hds : s.filterPart st n = ds) :
        Out .readFilter ds := by
      rw [hOut, ← hds, ← hn, ← hstage]
      exact exec_readFilter h hargs hle (by omega)
    refine ⟨fun hp => hread hp (by decide) ?_, fun hp => hread hp (by decide) ?_, fun hp => hread hp (by decide) (hpoint _ _),
      fun hp => hread hp (by decide) (hpoint _ _), fun hp => hread hp (by decide) (hpoint _ _),
      fun hp => hread hp (by decide) (hpoint _ _)⟩
    · show s.filterPart0 st = _
      rw [State.filterPart0, ht, State.liveOr24]
      cases (s.filters.stage st).state <;> cases (s.filters.stage st).verdict <;> rfl
    · show s.filterPart1 st = _
      rw [State.filterPart1, hl, hr, State.liveOr24, State.liveOr]
      cases s.isLive <;> rfl
  case tank =>
    have hread {n : Nat} {ds : List Word} (hn : r.arg 0 = n) (h1 : n ≤ 1) (hds : s.tankPart n = ds) :
        Out .readTank ds := by
      rw [hOut, ← hds, ← hn]
      exact exec_readTank h hargs (by omega)
    refine ⟨fun hp => hread hp (by decide) ?_, fun hp => hread hp (by decide) rfl⟩
    refine words_congr ?_ (words_congr ?_ rfl)
    · cases s.water.kind with
      | none => rfl
      | some x => cases x <;> rfl
    · cases s.water.state <;> rfl
  case cycle =>
    have hcode : cycleKindOfCode (r.arg 0) = some k := by
      rw [hk, hkind]
      cases k <;> rfl
    have hread {n : Nat} {ds : List Word} (hn : r.arg 1 = n) (h2 : n ≤ 2) (hds : s.cyclePart k n = ds) :
        Out .readCycle ds := by
      rw [hOut, ← hds, ← hn]
      exact exec_readCycle h hargs hcode (by omega)
    refine ⟨fun hp => hread hp (by decide) ?_, fun hp hlaw => ⟨fun hno => hread hp (by decide) ?_,
      fun c n hc hin => hread hp (by decide) ?_⟩, fun hp of hof hofs => hread hp (by decide) ?_⟩
    · refine words_congr ?_ rfl
      cases (s.cycles.record k).outcome with
      | failed x => cases x <;> rfl
      | aborted x => cases x <;> rfl
      | _ => rfl
    · show s.cycles.part1 k = _
      rw [CycleEngine.part1, CycleEngine.instanceOf_absent hno]
    · obtain ⟨hnodup, -⟩ := hlaw
      have hinstance : s.cycles.instanceOf k = some (n, c) := by
        obtain ⟨hin, rfl⟩ | ⟨hin, rfl⟩ | ⟨hin, rfl⟩ := hin
        · exact CycleEngine.instanceOf_queued hnodup hin hc
        · exact CycleEngine.instanceOf_running hnodup hin hc
        · exact CycleEngine.instanceOf_suspended hnodup hin hc
      show s.cycles.part1 k = _
      rw [CycleEngine.part1, hinstance]
      refine words_congr rfl (words_congr ?_ rfl)
      cases c.step <;> rfl
    · have hcodes (x : Option Cycle) : kindCode x = of x := by
        cases x with
        | none => exact hof.symm
        | some c => exact ((hofs c).trans (hkind _)).symm
      simp only [← hcodes]
      refine words_congr ?_ rfl
      cases s.cycles.running <;> rfl
  case table =>
    have hok : tableArgs r = true := tableArgs_iff.2 ⟨hargs, hbank, hoffset, hlo, hhi, hfits⟩
    refine ⟨fun hp => exec_readTable h hok (State.readTable_address _ hp), fun hp => ⟨fun id h0 hlive => ?_,
      fun h0 hlive => exec_readTable (a := .refuse .condition) h hok ?_, fun h1 he x hx => ?_, fun h1 he => ?_⟩⟩
    · rw [hOut]
      exact exec_readTable h hok ((congrArg (fun n => s.readTable n _ _ _) h0).trans (State.readTable_live hp hlive))
    · rw [h0]
      exact State.readTable_none hp hlive
    · rw [hOut]
      refine (exec_readTable h hok ((congrArg (fun n => s.readTable n _ _ _) h1).trans (State.readTable_shadow hp he hx))).trans ?_
      cases x <;> rfl
    · refine (exec_readTable h hok ((congrArg (fun n => s.readTable n _ _ _) h1).trans (State.readTable_busy hp he))).trans ?_
      exact congrArg (fun a : Answer => Host.Outcome.next ((s.took .readTable).served r rest a.result a.data)) s.banks.busyAnswer_eq

end Sys2Proof.Machine
end

section
/-! Requests of the host that run: flags, latches, the regime, the run level and SOFT RESET (R21, R85, R119, R175, R178, R183). -/

namespace Sys2Proof.Machine
open State

variable {s x : State} {r : Request} {rest : List Request} {result : Result} {data : List Word}

/-! ### A request's rule run (R171, R173) -/

/-- R171, R172: the rule runs in the state with the request taken, and its answer joins the Origin Queue. -/
theorem requestRow_ran (c : Instr) (code : Nat) (ok : Request → Bool) (run : Request → State → State × Answer)
    (h : s.Serves code r rest) (hc : assignedCode (some code) = true) (hok : ok r = true)
    (hrun : run r ((s.took c).reserve rest) = (x, { result := result, data := data })) :
    requestRow c code ok run s = .next (x.answerWith r { result := result, data := data }) := by
  rw [requestRow_serves s c code ok run r rest h hc hok, hrun]

/-- R173: a rule that leaves the lines, the queue of requests and the own address leaves what the answer is made of. -/
theorem State.Within.answerable {c : Instr} {bs : List Block} (hw : ((s.took c).reserve rest).Within bs x)
    (hsoft : s.mu.softWait = false) (hmu : .mu ∉ bs) (hlines : .lines ∉ bs) (hown : x.ring.own = s.ring.own) :
    s.Answerable rest x := by
  have hm : x.mu = { s.mu with queue := rest } := hw.same .mu hmu
  have hl : x.lines = s.lines := hw.same .lines hlines
  refine ⟨by rw [hm], by rw [hm]; exact hsoft, ?_⟩
  rw [State.answering, State.answering, hl, hown]

/-- A rule that leaves the ring too. -/
theorem State.Within.answerable_ring {c : Instr} {bs : List Block} (hw : ((s.took c).reserve rest).Within bs x)
    (hsoft : s.mu.softWait = false) (hmu : .mu ∉ bs) (hlines : .lines ∉ bs) (hring : .ring ∉ bs) :
    s.Answerable rest x := by
  have hsame : x.ring = { s.ring with reserved := true } := hw.same .ring hring
  exact hw.answerable hsoft hmu hlines (by rw [hsame])

/-! ### ACK FLAGS (R175) -/

/-- R175, R177: the flags of the mask clear; a queued NOTE may be refreshed. -/
theorem State.ackFlags_eq (u : State) (mask : Word) : ∃ g : Ring, g.own = u.ring.own ∧
    u.ackFlags mask = (u.setMu { u.mu with flags := u.mu.flags &&& ~~~mask }).setRing g := by
  by_cases h : u.mu.flags &&& ~~~mask = u.mu.flags
  · exact ⟨u.ring, rfl, (if_pos h).trans (by rw [h]; rfl)⟩
  · refine (em (u.ring.hasNote = true)).elim (fun hn => ⟨_, ?_, (if_neg h).trans (if_pos hn)⟩)
      fun hn => ⟨u.ring, rfl, (if_neg h).trans (if_neg hn)⟩
    rfl

theorem exec_ackFlags (h : s.Serves 0x02 r rest) (hargs : r.args.length = 2) : ∃ g : Ring, g.own = s.ring.own ∧
    exec .ackFlags s = .next (((((s.took .ackFlags).reserve rest).setMu
      { s.mu with queue := rest, flags := s.mu.flags &&& ~~~(r.args.getD 0 0#16) }).setRing g).answerWith r
        { result := .ok, data := [s.mu.flags &&& ~~~(r.args.getD 0 0#16), s.mu.conditions] }) := by
  obtain ⟨g, hown, heq⟩ := ((s.took .ackFlags).reserve rest).ackFlags_eq (r.args.getD 0 0#16)
  refine ⟨g, hown, requestRow_ran .ackFlags 0x02 (·.hasArgs 2) runAckFlags h rfl (Request.hasArgs_of hargs) ?_⟩
  rw [runAckFlags, heq]
  rfl

/-! ### CLEAR FAULT (R85, R119) -/

/-- R82, R84: a resolution leaves proof, the mismatch count and the settle timer, or the blower's change restarts them. -/
theorem Interlock.resolve_blown (p : PlantLimits) (i : Interlock) :
    ((i.resolve p).proof = i.proof ∧ (i.resolve p).mismatch = i.mismatch ∧ (i.resolve p).settle = i.settle) ∨
      (i.resolve p).proof = false ∧ (i.resolve p).mismatch = 0 ∧ (i.resolve p).settle = some p.settle := by
  unfold Interlock.resolve
  extract_lets d blown
  split
  · exact .inr ⟨rfl, rfl, rfl⟩
  · exact .inl ⟨rfl, rfl, rfl⟩

/-- R85: the interlock with the latch clear. -/
def Interlock.unlatched (p : PlantLimits) (i : Interlock) : Interlock :=
  { i with
    fault := false
    inhibits := { i.inhibits with airflow := false }
    mismatch := 0
    settle := if (i.row .blower).isSome then some p.settle else none }

/-- R85: the resolution of an interlock with the latch clear. -/
theorem Interlock.resolve_unlatched (p : PlantLimits) (i : Interlock) :
    ((i.unlatched p).resolve p).fault = false ∧ ((i.unlatched p).resolve p).inhibits = { i.inhibits with airflow := false } ∧
      ((i.unlatched p).resolve p).mismatch = 0 ∧
      (i.row .blower ≠ none → ((i.unlatched p).resolve p).settle = some p.settle) ∧
      (i.proof = false → ((i.unlatched p).resolve p).proof = false) := by
  refine ⟨Interlock.resolve_fault _ _, Interlock.resolve_inhibits _ _, ?_⟩
  have hsettle (hb : i.row .blower ≠ none) : (i.unlatched p).settle = some p.settle :=
    if_pos (Option.isSome_iff_ne_none.2 hb)
  obtain ⟨hp, hm, hs⟩ | ⟨hp, hm, hs⟩ := (i.unlatched p).resolve_blown p
  · exact ⟨hm, fun hb => hs.trans (hsettle hb), fun h => hp.trans h⟩
  · exact ⟨hm, fun _ => hs, fun _ => hp⟩

theorem State.clearBlowerFault_latched {u : State} (h : u.inter.fault = true) : u.clearBlowerFault =
    (u.resolving (Interlock.unlatched u.plant)).post [.conditionPost .blowerFault false] := if_pos h

theorem State.clearBlowerFault_clear {u : State} (h : u.inter.fault = false) : u.clearBlowerFault = u :=
  if_neg (by rw [h]; decide)

theorem runClearFault_blower {u : State} (h : r.arg 0 = 0) : runClearFault r u = (u.clearBlowerFault, .plain .ok) := by
  rw [runClearFault, if_pos h]

theorem runClearFault_pump {u : State} (h : r.arg 0 = 1) : runClearFault r u = (u.clearPumpFault, .plain .ok) := by
  rw [runClearFault, if_neg (by omega)]

theorem State.clearPumpFault_latched {u : State} (h : u.water.pumpFault = true) : ∃ p : TankReport,
    p.state = u.water.state ∧ p.probe = none ∧ u.clearPumpFault =
      (u.setWater { u.water with pumpFault := false }).setPosts (u.posts ++ [.inhibitRelease .pump,
        .conditionPost .pumpFault false] ++ (if TankState.wantsPump u.water.state && u.pumpFitted then
          [.cycleRequest .pumpOut] else []) ++ [.tankReport p]) := by
  obtain ⟨v, hv⟩ : ∃ v, v = (u.setWater { u.water with pumpFault := false }).post
      [.inhibitRelease .pump, .conditionPost .pumpFault false] := ⟨_, rfl⟩
  have hpump : v.pumpOutPost v.water.state = if TankState.wantsPump u.water.state && u.pumpFitted then
      [.cycleRequest .pumpOut] else [] := by
    have hfitted : v.pumpFitted = u.pumpFitted := by rw [hv]; rfl
    have hwater : v.water = { u.water with pumpFault := false } := by rw [hv]; rfl
    rw [State.pumpOutPost, hfitted, hwater, Bool.not_false, Bool.and_true]
  refine ⟨v.reportOf v.water none, by rw [hv]; rfl, rfl, ?_⟩
  have hclear : u.clearPumpFault = (v.post (v.pumpOutPost v.water.state)).reportOnly none := by
    rw [hv]
    exact if_pos h
  rw [← hpump, hclear]
  rw [hv]
  rfl

theorem State.clearPumpFault_clear {u : State} (h : u.water.pumpFault = false) : u.clearPumpFault = u.reportOnly none :=
  if_neg (by rw [h]; decide)

section clear
variable (h : s.Serves 0x04 r rest) (hargs : r.args.length = 1)
include h hargs

/-- R85, R119: CLEAR FAULT runs one of its two rules. -/
theorem exec_clearFault (hle : r.arg 0 ≤ 1)
    (hrun : runClearFault r ((s.took .clearFault).reserve rest) = (x, .plain .ok)) :
    exec .clearFault s = .next (x.answerWith r (.plain .ok)) :=
  requestRow_ran .clearFault 0x04 (oneArg 1) runClearFault h rfl ((oneArg_iff 1).2 ⟨hargs, hle⟩) hrun

theorem exec_clearFault_blower (h0 : r.arg 0 = 0) (hfault : s.inter.fault = true) :
    exec .clearFault s = .next (((((s.took .clearFault).reserve rest).resolving (Interlock.unlatched s.plant)).post
      [.conditionPost .blowerFault false]).answerWith r (.plain .ok)) :=
  exec_clearFault h hargs (by omega) ((runClearFault_blower h0).trans
    (congrArg (·, Answer.plain .ok) (State.clearBlowerFault_latched (u := (s.took .clearFault).reserve rest) hfault)))

theorem exec_clearFault_blower_idle (h0 : r.arg 0 = 0) (hfault : s.inter.fault = false) :
    exec .clearFault s = .next ((s.took .clearFault).served r rest .ok []) :=
  (exec_clearFault h hargs (by omega) ((runClearFault_blower h0).trans
    (congrArg (·, Answer.plain .ok) (State.clearBlowerFault_clear (u := (s.took .clearFault).reserve rest) hfault)))).trans
      (congrArg _ (answerWith_read s .clearFault r rest .ok [] h.awake.2))

theorem exec_clearFault_pump (h1 : r.arg 0 = 1) :
    exec .clearFault s = .next (((s.took .clearFault).reserve rest).clearPumpFault.answerWith r (.plain .ok)) :=
  exec_clearFault h hargs (by omega) (runClearFault_pump h1)

end clear

/-! ### SET REGIME (R21) -/

/-- R21: the regime record takes the value; a change is posted ahead of the events in flight. -/
theorem State.setNight_eq (u : State) (b : Bool) : u.setNight b =
    (u.setTrans { u.trans with night := b }).setPosts
      (if u.trans.night = b then u.posts else .regimeChanged :: u.posts) := by
  by_cases h : u.trans.night = b
  · rw [State.setNight, if_pos h, if_pos h, ← h]
    rfl
  · rw [State.setNight, if_neg h, if_neg h]

theorem exec_setRegime (b : Bool) (h : s.Serves 0x0D r rest) (hargs : r.args.length = 1)
    (hb : r.arg 0 = if b then 1 else 0) :
    exec .setRegime s = .next ((((s.took .setRegime).reserve rest).setNight b).answerWith r (.plain .ok)) := by
  refine requestRow_ran .setRegime 0x0D (oneArg 1) runSetRegime h rfl ((oneArg_iff 1).2 ⟨hargs, ?_⟩) ?_
  · rw [hb]
    cases b <;> decide
  · have hnight : decide (r.arg 0 = 1) = b := by
      rw [hb]
      cases b <;> rfl
    rw [runSetRegime, hnight]
    rfl

/-! ### SET RUN LEVEL (R183) -/

theorem levelOfCode_bounds {n : Nat} {l : RunLevel} (h : levelOfCode n = some l) (hl : l ≠ .unconfigured) : 1 ≤ n ∧ n ≤ 3 := by
  unfold levelOfCode at h
  split at h <;> cases h
  · exact absurd rfl hl
  all_goals decide

section level
variable {l : RunLevel} (h : s.Serves 0x0E r rest) (hargs : r.args.length = 2) (hlo : 1 ≤ r.arg 0) (hhi : r.arg 0 ≤ 3)
  (hwake : r.arg 1 ≤ 1)
include h hargs hlo hhi hwake

theorem exec_setRunLevel {a : Answer} (hrun : runSetRunLevel r ((s.took .setRunLevel).reserve rest) = (x, a)) :
    exec .setRunLevel s = .next (x.answerWith r a) :=
  requestRow_ran .setRunLevel 0x0E _ runSetRunLevel h rfl
    (by simp only [Request.hasArgs_of hargs, hlo, hhi, hwake, decide_true, Bool.and_self]) hrun

theorem exec_setRunLevel_refused (hlevel : s.rc.level = .unconfigured) :
    exec .setRunLevel s = .next ((s.took .setRunLevel).served r rest (.refused .condition) []) :=
  (exec_setRunLevel h hargs hlo hhi hwake (if_pos hlevel)).trans
    (congrArg _ (answerWith_read s .setRunLevel r rest (.refused .condition) [] h.awake.2))

theorem exec_setRunLevel_taken (w : Bool) (hlevel : s.rc.level ≠ .unconfigured) (hl : levelOfCode (r.arg 0) = some l)
    (hw : decide (r.arg 1 = 1) = w) : exec .setRunLevel s =
      .next (((((s.took .setRunLevel).reserve rest).setRc { s.rc with wake := w }).setLevel l).answerWith r (.plain .ok)) := by
  refine exec_setRunLevel h hargs hlo hhi hwake ?_
  rw [runSetRunLevel, hl, hw]
  exact if_neg hlevel

end level

/-- R183: the level taken, and its posts when it changed. -/
theorem State.setLevel_rc (u : State) (l : RunLevel) : (u.setLevel l).rc = { u.rc with level := l } := by
  by_cases h : u.rc.level = l
  · rw [State.setLevel, if_pos h, ← h]
  · rw [State.setLevel_other h]
    rfl

/-- R183: a change of level is told to the Cycle Engine, the Ring Interface and the Management Unit, and claims RUN in
WATCH and HALT in HALT. -/
theorem State.setLevel_posts {u : State} {l : RunLevel} (h : u.rc.level ≠ l) :
    .cycleRunLevelChange l ∈ (u.setLevel l).posts ∧ .ringRunLevelChange l ∈ (u.setLevel l).posts ∧
      .muRunLevelChange l ∈ (u.setLevel l).posts ∧ (l = .watch → .inhibitClaim .run ∈ (u.setLevel l).posts) ∧
      (l = .halt → .inhibitClaim .halt ∈ (u.setLevel l).posts) := by
  rw [State.setLevel_other h]
  have hnews {e : Instr} (he : e ∈ levelNews l) : e ∈ ((u.setRc { u.rc with level := l }).post
      (levelInhibits u.rc.level l ++ levelNews l ++ levelCondition u.rc.level l)).posts :=
    List.mem_append_right _ (List.mem_append_left _ (List.mem_append_right _ he))
  have hclaim {e : Instr} (he : e ∈ levelInhibits u.rc.level l) : e ∈ ((u.setRc { u.rc with level := l }).post
      (levelInhibits u.rc.level l ++ levelNews l ++ levelCondition u.rc.level l)).posts :=
    List.mem_append_right _ (List.mem_append_left _ (List.mem_append_left _ he))
  refine ⟨hnews (by simp [levelNews]), hnews (by simp [levelNews]), hnews (by simp [levelNews]), fun hl => hclaim ?_,
    fun hl => hclaim ?_⟩
  · rw [hl] at h ⊢
    simp [levelInhibits, h]
  · rw [hl] at h ⊢
    simp [levelInhibits, h]

end Sys2Proof.Machine
end

section
/-! SET FILTER CHARGE and FILTER RESET (R142, R143, R149, R151, R152). -/

namespace Sys2Proof.Machine
open State

variable {s u : State} {r : Request} {rest : List Request} {st g : Stage}

theorem State.filterChange_posts (u : State) (f : Filters → Filters) :
    (u.filterChange f).posts = u.posts ++ filterPosts u.filters (u.filterChange f).filters := rfl

theorem Filters.setStage_derate (f : Filters) (st : Stage) (x : StageRecord) : (f.setStage st x).derate = f.derate := by
  cases st <;> rfl

/-! ### SET FILTER CHARGE (R152) -/

/-- R152: the stage's charge is set, and every stage is evaluated. -/
def State.chargeSet (st : Stage) (v : Nat) (u : State) : State :=
  u.filterChange fun f => f.setStage st { f.stage st with charge := v }

theorem State.setCharge_fitted (v : Nat) (h : (u.filters.stage st).fitted = true) :
    u.setCharge st v = (u.chargeSet st v, .ok) := if_pos h

theorem State.setCharge_unfitted (v : Nat) (h : (u.filters.stage st).fitted = false) :
    u.setCharge st v = (u, .refused .condition) := if_neg (by rw [h]; decide)

theorem State.chargeSet_stage (v : Nat) : (u.chargeSet st v).filters.stage g =
    (if g = st then { u.filters.stage st with charge := v } else u.filters.stage g).evaluate (u.stageParams g) := by
  rw [State.chargeSet, State.filterChange_stage, Filters.stage_setStage]

theorem State.chargeSet_other (v : Nat) (h : g ≠ st) :
    ((u.chargeSet st v).filters.stage g).charge = (u.filters.stage g).charge := by
  rw [State.chargeSet_stage, if_neg h]
  exact (StageRecord.evaluate_keeps _ _).2.1

theorem State.chargeSet_derate (v : Nat) : (u.chargeSet st v).filters.derate = u.filters.derate :=
  (State.filterChange_derate u _).trans (Filters.setStage_derate _ _ _)

/-- R142, R152: the stage with its charge set stands by the live page, and keeps the rest of its record. -/
theorem State.chargeSet_own (v : Nat) (h : (u.filters.stage st).fitted = true) {x : StageRecord}
    (hx : x = (u.chargeSet st v).filters.stage st) :
    x.charge = v ∧ x.fitted = true ∧ x.verdict = (u.filters.stage st).verdict ∧
      x.baseline = (u.filters.stage st).baseline ∧ x.last = (u.filters.stage st).last ∧
      x.runSweeps = (u.filters.stage st).runSweeps ∧ u.StageStands st x ∧
      (x.state = .worn ∨ x.state = .spent → x.doorOpened = (u.filters.stage st).doorOpened) := by
  obtain ⟨y, hy⟩ : ∃ y : StageRecord, y = { u.filters.stage st with charge := v } := ⟨_, rfl⟩
  have hfitted : y.fitted = true := by rw [hy]; exact h
  rw [State.chargeSet_stage, if_pos rfl, ← hy] at hx
  rw [hx]
  obtain ⟨hf, hcharge, hrun⟩ := y.evaluate_keeps (u.stageParams st)
  obtain ⟨hbaseline, hlast, hverdict⟩ := y.evaluate_seen (u.stageParams st)
  rw [hf, hcharge, hrun, hbaseline, hlast, hverdict]
  refine ⟨by rw [hy], hfitted, by rw [hy], by rw [hy], by rw [hy], by rw [hy],
    StageRecord.evaluate_stands u st y hfitted, fun hloaded => ?_⟩
  rw [StageRecord.evaluate_door _ hfitted hloaded, hy]

theorem exec_setFilterCharge {x : State} {result : Result} (h : s.Serves 0x07 r rest) (hargs : r.args.length = 3)
    (hst : stageOfCode (r.arg 0) = some st) (hhi : r.arg 1 ≤ 255)
    (hrun : ((s.took .setFilterCharge).reserve rest).setCharge st (r.arg 1 * 65536 + r.arg 2) = (x, result)) :
    exec .setFilterCharge s = .next (x.answerWith r (.plain result)) := by
  obtain ⟨hstage, -, hle⟩ := Request.stage_of hst
  refine requestRow_ran .setFilterCharge 0x07 _ runSetFilterCharge h rfl
    (by simp only [Request.hasArgs_of hargs, hle, hhi, decide_true, Bool.and_self]) ?_
  rw [runSetFilterCharge, hstage, hrun]
  rfl

/-! ### FILTER RESET (R151) -/

/-- R151: the stage's record is fresh, the derate is recomputed, and every stage is evaluated. -/
def State.stageRenewed (st : Stage) (u : State) : State :=
  u.filterChange fun f => (f.setStage st (f.stage st).renewed).withDerate

/-- R151: FILTER RESET as it is accepted: the run sweeps restart, and a PROFILE is requested. -/
def State.stageReset (st : Stage) (u : State) : State :=
  ((u.stageRenewed st).setFilters (u.stageRenewed st).filters.restartRun).post [.cycleRequest .profile]

theorem State.mayReset_iff : u.mayReset st = true ↔ (u.filters.stage st).fitted = true ∧
    ((u.filters.stage st).state = .worn ∨ (u.filters.stage st).state = .spent) ∧
    (u.filters.stage st).doorOpened = true ∧ u.filters.door = false := by
  have hloaded (x : StageState) : isLoaded x = true ↔ x = .worn ∨ x = .spent := by cases x <;> simp [isLoaded]
  rw [State.mayReset, Bool.and_eq_true, Bool.and_eq_true, Bool.and_eq_true, hloaded, Bool.not_eq_true', and_assoc, and_assoc]

theorem State.filterReset_accepted (h : u.mayReset st = true) : u.filterReset st = (u.stageReset st, .ok) := if_pos h

theorem State.filterReset_refused (h : ¬ u.mayReset st = true) : u.filterReset st = (u, .refused .notServiced) := if_neg h

theorem exec_filterReset {x : State} {result : Result} (h : s.Serves 0x08 r rest) (hargs : r.args.length = 1)
    (hst : stageOfCode (r.arg 0) = some st)
    (hrun : ((s.took .filterReset).reserve rest).filterReset st = (x, result)) :
    exec .filterReset s = .next (x.answerWith r (.plain result)) := by
  obtain ⟨hstage, -, hle⟩ := Request.stage_of hst
  refine requestRow_ran .filterReset 0x08 (oneArg 2) runFilterReset h rfl ((oneArg_iff 2).2 ⟨hargs, hle⟩) ?_
  rw [runFilterReset, hstage, hrun]
  rfl

theorem State.stageRenewed_stage : (u.stageRenewed st).filters.stage g =
    (if g = st then (u.filters.stage st).renewed else u.filters.stage g).evaluate (u.stageParams g) := by
  rw [State.stageRenewed, State.filterChange_stage, Filters.stage_withDerate, Filters.stage_setStage]

theorem State.stageReset_stage : (u.stageReset st).filters.stage g =
    ((u.stageRenewed st).filters.stage g).ifFitted fun x => { x with runSweeps := 0 } :=
  Filters.stage_mapStages _ _ g

/-- Restarting the run sweeps leaves the rest of a record. -/
theorem StageRecord.rested_keeps (x : StageRecord) : ∃ n, (x.ifFitted fun x => { x with runSweeps := 0 }) =
    { x with runSweeps := n } ∧ (x.fitted = true → n = 0) := by
  by_cases h : x.fitted = true
  · exact ⟨0, StageRecord.ifFitted_pos h _, fun _ => rfl⟩
  · exact ⟨x.runSweeps, StageRecord.ifFitted_neg (Bool.eq_false_iff.2 h) _, fun h' => absurd h' h⟩

/-- R151: each stage after the reset of one, its run sweeps apart. -/
theorem State.stageReset_record (u : State) (st g : Stage) : ∃ n, (u.stageReset st).filters.stage g =
    { (u.stageRenewed st).filters.stage g with runSweeps := n } ∧ ((u.filters.stage g).fitted = true → n = 0) := by
  obtain ⟨n, hn, hzero⟩ := ((u.stageRenewed st).filters.stage g).rested_keeps
  refine ⟨n, State.stageReset_stage.trans hn, fun h => hzero ?_⟩
  rw [State.stageRenewed_stage, (StageRecord.evaluate_keeps _ _).1]
  split
  · next he =>
    rw [he] at h
    exact h
  · exact h

theorem State.stageReset_runSweeps (h : (u.filters.stage g).fitted = true) :
    ((u.stageReset st).filters.stage g).runSweeps = 0 := by
  obtain ⟨n, hn, hzero⟩ := u.stageReset_record st g
  rw [hn, hzero h]

theorem State.stageReset_other (h : g ≠ st) :
    ((u.stageReset st).filters.stage g).charge = (u.filters.stage g).charge ∧
      ((u.stageReset st).filters.stage g).verdict = (u.filters.stage g).verdict ∧
      ((u.stageReset st).filters.stage g).baseline = (u.filters.stage g).baseline ∧
      ((u.stageReset st).filters.stage g).last = (u.filters.stage g).last := by
  obtain ⟨n, hn, -⟩ := u.stageReset_record st g
  rw [hn, State.stageRenewed_stage, if_neg h]
  obtain ⟨hbaseline, hlast, hverdict⟩ := (u.filters.stage g).evaluate_seen (u.stageParams g)
  exact ⟨((u.filters.stage g).evaluate_keeps _).2.1, hverdict, hbaseline, hlast⟩

/-- R142, R151: the stage reset has a fresh record that stands by the live page. -/
theorem State.stageReset_own (h : (u.filters.stage st).fitted = true) {x : StageRecord}
    (hx : x = (u.stageReset st).filters.stage st) :
    x.charge = 0 ∧ x.verdict = .none ∧ x.baseline = none ∧ x.last = none ∧ x.doorOpened = false ∧ x.fitted = true ∧
      u.StageStands st x := by
  obtain ⟨n, hn, -⟩ := u.stageReset_record st st
  obtain ⟨y, hy⟩ : ∃ y : StageRecord, y = (u.filters.stage st).renewed := ⟨_, rfl⟩
  have hfitted : y.fitted = true := by rw [hy]; exact h
  have hdoor : (y.evaluate (u.stageParams st)).doorOpened = false := by
    rw [StageRecord.evaluate_pos _ hfitted, hy]
    rfl
  have hstands : u.StageStands st (y.evaluate (u.stageParams st)) := StageRecord.evaluate_stands u st y hfitted
  rw [State.stageRenewed_stage, if_pos rfl, ← hy] at hn
  obtain ⟨hf, hcharge, -⟩ := y.evaluate_keeps (u.stageParams st)
  obtain ⟨hbaseline, hlast, hverdict⟩ := y.evaluate_seen (u.stageParams st)
  obtain ⟨z, hz⟩ : ∃ z, z = y.evaluate (u.stageParams st) := ⟨_, rfl⟩
  rw [← hz] at hn hdoor hstands hf hcharge hbaseline hlast hverdict
  rw [hx, hn]
  exact ⟨hcharge.trans (by rw [hy]; rfl), hverdict.trans (by rw [hy]; rfl), hbaseline.trans (by rw [hy]; rfl),
    hlast.trans (by rw [hy]; rfl), hdoor, hf.trans hfitted, hstands⟩

theorem State.stageReset_derateSet : (u.stageReset st).filters.DerateSet := by
  have hset : (u.stageRenewed st).filters.DerateSet := State.filterChange_derateSet u (Filters.withDerate_set _)
  obtain ⟨n, hn, -⟩ := u.stageReset_record st .fine
  exact Filters.derateSet_congr hset (congrArg StageRecord.fitted hn :) (congrArg StageRecord.baseline hn :)
    (congrArg StageRecord.last hn :) rfl

theorem State.stageReset_news :
    u.FilterNews (u.stageReset st) (filterPosts u.filters (u.stageRenewed st).filters) := by
  refine State.filterNews_congr (filterPosts_news u (u.stageRenewed st)) fun g => ?_
  obtain ⟨n, hn, -⟩ := u.stageReset_record st g
  rw [hn]
  exact ⟨rfl, rfl⟩

theorem State.stageReset_posts : (u.stageReset st).posts =
    u.posts ++ filterPosts u.filters (u.stageRenewed st).filters ++ [.cycleRequest .profile] := rfl

end Sys2Proof.Machine
end

section
/-! A cycle request takes its course whatever requests and events wait (R125–R128, R132, R136). -/

namespace Sys2Proof.Machine
open State

/-- What the Cycle Engine neither reads nor changes: the queued requests, the reserved place, and the events in flight ahead of
its own. -/
structure Waiting where
  queue    : List Request
  reserved : Bool
  posts    : List Instr

/-- The device with other requests and events waiting. -/
def State.dressed (w : Waiting) (u : State) : State :=
  ((u.setMu { u.mu with queue := w.queue }).setRing { u.ring with reserved := w.reserved }).setPosts (w.posts ++ u.posts)

section dressed
variable (w : Waiting) (u : State)

/-! ### What the engine reads -/

@[simp] theorem State.dressed_cycles : (u.dressed w).cycles = u.cycles := rfl

@[simp] theorem State.dressed_planOf (step : CycleStep) : (u.dressed w).planOf step = u.planOf step := rfl

@[simp] theorem State.dressed_launch (fresh : Bool) (c : Cycle) : (u.dressed w).launch fresh c = u.launch fresh c := rfl

@[simp] theorem State.dressed_cycleRefusal (k : CycleKind) : (u.dressed w).cycleRefusal k = u.cycleRefusal k := rfl

/-! ### What the engine does -/

@[simp] theorem State.setCycles_dressed (x : CycleEngine) :
    (u.dressed w).setCycles x = (u.setCycles x).dressed w := rfl

@[simp] theorem State.setRunning_dressed (c : Option Cycle) :
    (u.dressed w).setRunning c = (u.setRunning c).dressed w := rfl

@[simp] theorem State.post_dressed (es : List Instr) : (u.dressed w).post es = (u.post es).dressed w :=
  congrArg (((u.setMu { u.mu with queue := w.queue }).setRing { u.ring with reserved := w.reserved }).setPosts ·)
    (List.append_assoc w.posts u.posts es)

@[simp] theorem State.beginStep_dressed (c : Cycle) : (u.dressed w).beginStep c = (u.beginStep c).dressed w := by
  simp only [State.beginStep, State.dressed_planOf, State.setRunning_dressed, State.post_dressed]

@[simp] theorem State.ended_dressed (c : Cycle) (planned : Bool) (o : CycleOutcome) (result : List (Option Curve)) :
    (u.dressed w).ended c planned o result = (u.ended c planned o result).dressed w :=
  (u.writeOutcome c o).post_dressed w _

theorem State.ite_dressed (p : Prop) [Decidable p] (a b : State) :
    (if p then a else b).dressed w = if p then a.dressed w else b.dressed w := apply_ite _ _ _ _

@[simp] theorem State.run_dressed (fresh : Bool) (c : Cycle) : (u.dressed w).run fresh c = (u.run fresh c).dressed w := by
  simp only [State.run, State.dressed_cycles, State.dressed_planOf, State.setRunning_dressed, State.beginStep_dressed,
    State.post_dressed, State.ite_dressed]

/-- R127: an instance picked starts, or ends at its start, as it would with nothing waiting. -/
theorem State.startPicked_dressed (fresh : Bool) (c : Cycle) : (u.dressed w).startPicked fresh c =
    ((u.startPicked fresh c).1.dressed w, (u.startPicked fresh c).2) := by
  rw [State.startPicked, State.startPicked, State.dressed_launch]
  cases u.launch fresh c with
  | ends d o => exact congrArg (·, false) (u.ended_dressed w d false o [])
  | runs d => exact congrArg (·, true) (u.run_dressed w fresh d)

theorem State.takeHighest_dressed : (u.dressed w).takeHighest =
    u.takeHighest.map fun x => (x.1, x.2.1, x.2.2.dressed w) := by
  simp only [State.takeHighest, State.dressed_cycles]
  split
  · rfl
  · rfl
  · rfl
  · split <;> rfl

theorem State.pickLoop_dressed (n : Nat) : (u.dressed w).pickLoop n = (u.pickLoop n).dressed w := by
  induction n generalizing u with
  | zero => rfl
  | succ n ih =>
    rw [State.pickLoop, State.pickLoop, State.takeHighest_dressed]
    cases u.takeHighest with
    | none => rfl
    | some x =>
      obtain ⟨fresh, c, t⟩ := x
      simp only [Option.map_some, State.startPicked_dressed, ih, State.ite_dressed]

@[simp] theorem State.pick_dressed : (u.dressed w).pick = u.pick.dressed w := by
  simp only [State.pick, State.dressed_cycles, State.pickLoop_dressed, State.ite_dressed]

@[simp] theorem State.endRunning_dressed (c : Cycle) (o : CycleOutcome) (result : List (Option Curve)) :
    (u.dressed w).endRunning c o result = (u.endRunning c o result).dressed w := by
  simp only [State.endRunning, State.setRunning_dressed, State.ended_dressed, State.pick_dressed]

theorem State.preempt_dressed (k : CycleKind) : (u.dressed w).preempt k = (u.preempt k).dressed w := by
  rw [State.preempt, State.preempt, State.dressed_cycles]
  cases u.cycles.running with
  | none => rfl
  | some c =>
    simp only [State.setCycles_dressed, State.post_dressed, State.pick_dressed, State.endRunning_dressed,
      State.ite_dressed]

theorem State.heldTest_dressed : (u.dressed w).heldTest = u.heldTest.dressed w := by
  rw [State.heldTest, State.heldTest, State.dressed_cycles]
  cases u.cycles.running with
  | none => rfl
  | some c => simp only [State.endRunning_dressed, State.ite_dressed]

/-- R125: a cycle request makes the same change and the same posts, whatever else waits. -/
theorem State.requestCycle_dressed (k : CycleKind) : (u.dressed w).requestCycle k =
    ((u.requestCycle k).1.dressed w, (u.requestCycle k).2) := by
  rw [State.requestCycle, State.requestCycle, State.dressed_cycleRefusal, State.dressed_cycles]
  cases u.cycleRefusal k with
  | some x => rfl
  | none =>
    by_cases hhas : u.cycles.has k = true
    · simp only [if_pos hhas]
    · simp only [if_neg hhas, State.setCycles_dressed, State.dressed_cycles, State.preempt_dressed,
        State.heldTest_dressed, State.pick_dressed, ← State.ite_dressed]

end dressed

/-! ### The request and the event -/

variable {s : State} {r : Request} {rest : List Request} {k : CycleKind}

/-- The device with no event in flight. -/
def State.quiet (s : State) : State := s.setPosts []

theorem State.took_dressed (s : State) (c : Instr) :
    s.took c = s.quiet.dressed { queue := s.mu.queue, reserved := s.ring.reserved, posts := s.posts.erase c } :=
  congrArg s.setPosts (List.append_nil _).symm

theorem State.reserve_dressed (s : State) (c : Instr) (rest : List Request) : (s.took c).reserve rest =
    s.quiet.dressed { queue := rest, reserved := true, posts := s.posts.erase c } :=
  congrArg (((s.setMu { s.mu with queue := rest }).setRing { s.ring with reserved := true }).setPosts ·)
    (List.append_nil _).symm

end Sys2Proof.Machine
end

section
/-! REQUEST CYCLE (R125). -/

namespace Sys2Proof.Machine
open State

variable {s u : State} {r : Request} {rest : List Request} {k : CycleKind}

/-! ### Refusals (R125.1) -/

theorem State.cycleRefusal_fault (h : k = .pumpOut ∧ u.water.pumpFault = true) : u.cycleRefusal k = some .fault :=
  (if_pos h.1).trans (if_pos h.2)

/-- R125.1: the conditions a cycle request needs, but for the pump-fault latch. -/
theorem State.cycleRefusal_other (h : ¬ (k = .pumpOut ∧ u.water.pumpFault = true)) : u.cycleRefusal k =
    if u.isLive = false ∨ (if k = .pumpOut then
      u.cycles.level = .unconfigured ∨ u.cycles.level = .halt ∨ u.param 75 7 ≠ 1
      else u.cycles.level ≠ .active ∨ u.cycles.door = true) then some .condition else none := by
  by_cases hk : k = .pumpOut
  · have hfault : u.water.pumpFault = false := Bool.eq_false_iff.2 fun hf => h ⟨hk, hf⟩
    have hfitted : (!u.pumpFitted) = true ↔ u.isLive = false ∨ u.param 75 7 ≠ 1 := by
      rw [Bool.not_eq_true', ← Bool.not_eq_true, u.pumpFitted_iff, not_and_or, Bool.not_eq_true]
    rw [State.cycleRefusal, if_pos hk, if_neg (by rw [hfault]; decide)]
    refine if_congr ?_ rfl rfl
    rw [if_pos hk, hfitted, Bool.not_eq_true']
    tauto
  · rw [State.cycleRefusal, if_neg hk]
    refine if_congr ?_ rfl rfl
    rw [if_neg hk, Bool.not_eq_true']

/-! ### What a request comes to (R125–R127) -/

theorem State.requestCycle_refused {x : Reason} (hr : u.cycleRefusal k = some x) : u.requestCycle k = (u, .refused x) := by
  rw [State.requestCycle, hr]

theorem State.requestCycle_merged (hr : u.cycleRefusal k = none) (hh : u.cycles.has k = true) :
    u.requestCycle k = (u, .merged) := by
  rw [State.requestCycle, hr]
  exact if_pos hh

/-- R125: the engine after a request that is taken, the preemption and the hold tested or an instance picked. -/
def State.afterRequest (k : CycleKind) (u : State) : State :=
  if u.cycles.running.isSome then ((u.queuedWith k).preempt k).heldTest else (u.queuedWith k).pick

theorem State.requestCycle_taken (hr : u.cycleRefusal k = none) (hh : u.cycles.has k = false) : u.requestCycle k =
    (u.afterRequest k, if (u.afterRequest k).cycles.queuedKind k then .ok else .started) := by
  rw [State.requestCycle, hr]
  exact if_neg (by rw [hh]; decide)

/-- R127: a request alone is picked at once, and leaves the queue. -/
theorem State.afterRequest_alone (hfree : u.cycles.running = none) (hq : u.cycles.queue = [])
    (hs : u.cycles.suspended = none) : (u.afterRequest k).cycles.queue = [] := by
  rw [State.afterRequest, if_neg (by rw [hfree]; decide)]
  exact (State.pick_last (v := u.queuedWith k) hfree (u.queuedWith_alone hq) hs).1

/-- R126: a request that does not preempt waits. -/
theorem State.afterRequest_waits {c : Cycle} (hc : u.cycles.running = some c) (hrun : c.held = false)
    (hstays : outranks k c.kind = false ∨ c.kind = .defrost ∨ c.kind = .pumpOut ∨ u.cycles.suspended ≠ none) :
    u.afterRequest k = u.queuedWith k := by
  rw [State.afterRequest, if_pos (by rw [hc]; rfl), State.preempt_stays (u := u.queuedWith k) hc hstays,
    State.heldTest_stays (u := u.queuedWith k) hc (.inl hrun)]

theorem CycleEngine.queuedKind_iff (e : CycleEngine) (k : CycleKind) : e.queuedKind k = true ↔ ∃ c ∈ e.queue, c.kind = k := by
  simp only [CycleEngine.queuedKind, List.any_eq_true, beq_iff_eq]

theorem State.queuedWith_queued (u : State) (k : CycleKind) : (u.queuedWith k).cycles.queuedKind k = true :=
  (CycleEngine.queuedKind_iff _ _).2
    ⟨Cycle.queued k, (enqueue_perm (Cycle.queued k) u.cycles.queue).symm.subset List.mem_cons_self, rfl⟩

/-! ### The row -/

theorem kindArg_of (hargs : r.args.length = 1) (hk : cycleKindOfCode (r.arg 0) = some k) : kindArg r = true ∧ r.kind = k := by
  refine ⟨?_, by rw [Request.kind, hk, Option.getD_some]⟩
  rw [kindArg, hk, Request.hasArgs_of hargs]
  rfl

section row
variable (h : s.Serves 0x0B r rest) (hargs : r.args.length = 1) (hk : cycleKindOfCode (r.arg 0) = some k)
include h hargs hk

theorem exec_requestCycle {x : State} {result : Result}
    (hrun : ((s.took .requestCycle).reserve rest).requestCycle k = (x, result)) :
    exec .requestCycle s = .next (x.answerWith r (.plain result)) := by
  obtain ⟨hok, hkind⟩ := kindArg_of hargs hk
  refine requestRow_ran .requestCycle 0x0B kindArg runRequestCycle h rfl hok ?_
  rw [runRequestCycle, hkind, hrun]
  rfl

/-- R125: a request that is refused or merged changes nothing. -/
theorem exec_requestCycle_idle {result : Result} (hrun : ((s.took .requestCycle).reserve rest).requestCycle k =
    ((s.took .requestCycle).reserve rest, result)) :
    exec .requestCycle s = .next ((s.took .requestCycle).served r rest result []) :=
  (exec_requestCycle h hargs hk hrun).trans
    (congrArg _ (answerWith_read s .requestCycle r rest result [] h.awake.2))

/-- R125: the request of the host and the cycle request event make the same of the engine. -/
theorem exec_requestCycle_taken (hr : s.cycleRefusal k = none) (hh : s.cycles.has k = false) :
    ∃ (t v : State) (made : List Instr), exec .requestCycle s = .next t ∧ exec (.cycleRequest k) s = .next v ∧
      t.cycles = v.cycles ∧ t.posts = s.posts.erase .requestCycle ++ made ∧
      v.posts = s.posts.erase (.cycleRequest k) ++ made ∧ v.cycles = (s.quiet.afterRequest k).cycles ∧
      t.mu.queue = rest ∧ t.ring.reserved = false ∧ t.ring.origin.getLast? =
        some (s.answerFrame r (if t.cycles.queuedKind k then .ok else .started) []) := by
  have htaken := State.requestCycle_taken (u := s.quiet) hr hh
  obtain ⟨v, hv⟩ : ∃ v, v = s.quiet.afterRequest k := ⟨_, rfl⟩
  obtain ⟨w, hw⟩ : ∃ w : Waiting, w = { queue := rest, reserved := true, posts := s.posts.erase .requestCycle } := ⟨_, rfl⟩
  rw [← hv] at htaken
  have hran : ((s.took .requestCycle).reserve rest).requestCycle k =
      (v.dressed w, if v.cycles.queuedKind k then .ok else .started) := by
    rw [State.reserve_dressed, State.requestCycle_dressed, htaken, hw]
  have hwithin : ((s.took .requestCycle).reserve rest).Within [.cycles] (v.dressed w) := by
    have hfirst := ((s.took .requestCycle).reserve rest).requestCycle_within k
    rwa [hran] at hfirst
  have hans := (hwithin.answerable_ring h.awake.2 (by simp) (by simp) (by simp)).answers (r := r)
    (result := if v.cycles.queuedKind k then .ok else .started) (data := [])
  have hevent : exec (.cycleRequest k) s = .next (v.dressed
      { queue := s.mu.queue, reserved := s.ring.reserved, posts := s.posts.erase (.cycleRequest k) }) := by
    rw [exec_cycleRequest k h.awake.1, State.took_dressed, State.requestCycle_dressed, htaken]
  rw [← hv]
  refine ⟨_, _, v.posts, exec_requestCycle h hargs hk hran, hevent, rfl, ?_, rfl, rfl, hans⟩
  rw [hw]
  rfl

end row

end Sys2Proof.Machine
end

section
/-! ABORT CYCLE (R126, R136, R137). -/

namespace Sys2Proof.Machine
open State

variable {s t u : State} {r : Request} {rest : List Request} {k : CycleKind} {x : OutcomeRecord} {c : Cycle}

/-! ### A kind that is gone stays gone -/

/-- No instance of the kind is present, and its record stands. -/
structure State.Gone (k : CycleKind) (x : OutcomeRecord) (u : State) : Prop where
  absent : k ∉ u.cycles.kinds
  record : u.cycles.record k = x

/-- No instance of the kind waits or runs. -/
theorem CycleEngine.absent_iff (e : CycleEngine) :
    k ∉ e.kinds ↔ ¬ e.Waits k ∧ ∀ c, e.running = some c → c.kind ≠ k := by
  rw [CycleEngine.mem_kinds_iff, not_or]
  simp only [not_exists, not_and, ne_eq]

theorem State.Gone.running (h : u.Gone k x) (hc : u.cycles.running = some c) : c.kind ≠ k :=
  (u.cycles.absent_iff.1 h.absent).2 c hc

/-- The end of an instance of another kind, out of its place. -/
theorem State.Gone.ended (h : u.Gone k x) (hc : c.kind ≠ k) (planned : Bool) (o : CycleOutcome)
    (result : List (Option Curve)) : (u.ended c planned o result).Gone k x := by
  obtain ⟨hq, hr, hs⟩ := u.ended_places c planned o result
  refine ⟨?_, (u.ended_record_other c planned o result hc.symm).trans h.record⟩
  rw [CycleEngine.kinds, hq, hr, hs]
  exact h.absent

theorem State.Gone.of_running (h : u.Gone k x) (hq : t.cycles.queue = u.cycles.queue)
    (hs : t.cycles.suspended = u.cycles.suspended) (hr : ∀ c, t.cycles.running = some c → c.kind ≠ k)
    (hrecord : t.cycles.record k = u.cycles.record k) : t.Gone k x := by
  refine ⟨t.cycles.absent_iff.2 ⟨?_, hr⟩, hrecord.trans h.record⟩
  rw [CycleEngine.Waits, hq, hs]
  exact (u.cycles.absent_iff.1 h.absent).1

/-- R127: a free engine picks among the kinds that wait. -/
theorem State.Gone.pickLoop (n : Nat) (h : u.Gone k x) : (u.pickLoop n).Gone k x := by
  induction n generalizing u with
  | zero => exact h
  | succ n ih =>
    unfold State.pickLoop
    split
    · exact h
    · next fresh c t ht =>
      obtain ⟨hwaits, hrunning⟩ := u.cycles.absent_iff.1 h.absent
      obtain ⟨hc, hback, -, hrun, hrecord, -⟩ := u.takeHighest_waits ht
      have hne : c.kind ≠ k := fun he => hwaits (he ▸ hc)
      have htaken : t.Gone k x :=
        ⟨t.cycles.absent_iff.2 ⟨fun hw => hwaits (hback k hw), by rw [hrun]; exact hrunning⟩, (hrecord k).trans h.record⟩
      unfold State.startPicked
      split
      · next d o hl => exact ih (htaken.ended ((t.launch_kind hl).1 ▸ hne) false o [])
      · next d hl =>
        show (t.run fresh d).Gone k x
        refine htaken.of_running (by rw [State.run_cycles]) (by rw [State.run_cycles]) (fun y hy => ?_)
          (t.run_record fresh d)
        rw [State.run_cycles] at hy
        cases hy
        exact (t.launch_runs_kind hl : d.kind = c.kind) ▸ hne

theorem State.Gone.pick (h : u.Gone k x) : u.pick.Gone k x := by
  unfold State.pick
  split
  · exact h
  · exact h.pickLoop _

theorem State.setRunning_record (u : State) (o : Option Cycle) (k : CycleKind) :
    (u.setRunning o).cycles.record k = u.cycles.record k := by
  cases k <;> rfl

theorem State.aside_record (u : State) (c : Cycle) (k : CycleKind) : (u.aside c).cycles.record k = u.cycles.record k := by
  cases k <;> rfl

/-- R136: the running cycle ends, and the engine picks. -/
theorem State.Gone.endRunning (h : u.Gone k x) (hc : u.cycles.running = some c) (o : CycleOutcome)
    (result : List (Option Curve)) : (u.endRunning c o result).Gone k x :=
  have hfree : (u.setRunning none).Gone k x :=
    h.of_running rfl rfl (fun y (hy : none = some y) => nomatch hy) (u.setRunning_record none k)
  (hfree.ended (h.running hc) true o result).pick

/-- R126: the running cycle set aside keeps its kind. -/
theorem State.Gone.preempt (k' : CycleKind) (h : u.Gone k x) : (u.preempt k').Gone k x := by
  unfold State.preempt
  split
  · exact h
  · next c hc =>
    split
    · split
      · obtain ⟨hwaits, -⟩ := u.cycles.absent_iff.1 h.absent
        have haside : (u.aside c).Gone k x := by
          refine ⟨(u.aside c).cycles.absent_iff.2 ⟨?_, fun y (hy : none = some y) => nomatch hy⟩,
            (u.aside_record c k).trans h.record⟩
          rintro (hq | ⟨y, hy, hk⟩)
          · exact hwaits (.inl hq)
          · cases hy
            exact h.running hc hk
        exact haside.pick
      · exact h.endRunning hc _ _
    · exact h

theorem State.Gone.afterAborts (before : Option Cycle) (h : u.Gone k x) : (u.afterAborts before).Gone k x := by
  unfold State.afterAborts
  split
  · exact h.pick
  · split
    · unfold State.preemptTest
      split
      · exact h
      · exact h.preempt _
    · exact h

/-! ### The instances of one kind end (R137) -/

/-- R137: the kind aborted is in no place. -/
theorem State.aborted_absent (u : State) (k : CycleKind) (a : AbortReason) : k ∉ (u.aborted (· == k) a).cycles.kinds := by
  obtain ⟨hq, hr, hs⟩ := u.aborted_places (· == k) a
  have hspared {o : Option Cycle} {c : Cycle} (h : spared (· == k) o = some c) : c.kind ≠ k :=
    beq_eq_false_iff_ne.1 (spared_eq_some h).2
  rw [CycleEngine.mem_kinds, hq, hr, hs]
  rintro (⟨c, hc, hk⟩ | ⟨c, hc, hk⟩ | ⟨c, hc, hk⟩)
  · have hmem := (List.mem_filter.1 hc).2
    rw [hk, beq_self_eq_true] at hmem
    cases hmem
  · exact hspared hc hk
  · exact hspared hc hk

/-- R137: after the aborts of a kind no instance of it is present, and its record is that of its end. -/
theorem State.abortKinds_gone (u : State) (k : CycleKind) (a : AbortReason) :
    (u.abortKinds (· == k) a).Gone k ((u.aborted (· == k) a).cycles.record k) :=
  State.Gone.afterAborts u.cycles.suspended ⟨u.aborted_absent k a, rfl⟩

/-- R136.1, R137: the record of the instance of the kind. -/
theorem State.aborted_record (h : u.cycles.Lawful) (a : AbortReason) (hk : c.kind = k) :
    (u.cycles.running = some c ∨ u.cycles.suspended = some c →
      (u.aborted (· == k) a).cycles.record k = u.endRecord c (.aborted a)) ∧
    (c ∈ u.cycles.queue → (u.aborted (· == k) a).cycles.record k = u.endRecord c .cancelled) := by
  subst hk
  have hhit : (c.kind == c.kind) = true := beq_self_eq_true c.kind
  refine ⟨fun hc => ?_, fun hc => State.aborted_queued (· == c.kind) a h hc hhit⟩
  obtain hc | hc := hc
  · exact State.aborted_running (· == c.kind) a h hc hhit
  · exact State.aborted_suspended (· == c.kind) a h hc hhit

/-! ### The row -/

section row
variable (h : s.Serves 0x0C r rest) (hargs : r.args.length = 1) (hk : cycleKindOfCode (r.arg 0) = some k)
include h hargs hk

theorem exec_abortCycle {y : State} {result : Result}
    (hrun : ((s.took .abortCycle).reserve rest).abortCycle k = (y, result)) :
    exec .abortCycle s = .next (y.answerWith r (.plain result)) := by
  obtain ⟨hok, hkind⟩ := kindArg_of hargs hk
  refine requestRow_ran .abortCycle 0x0C kindArg runAbortCycle h rfl hok ?_
  rw [runAbortCycle, hkind, hrun]
  rfl

theorem exec_abortCycle_absent (hh : s.cycles.has k = false) :
    exec .abortCycle s = .next ((s.took .abortCycle).served r rest (.refused .notPresent) []) :=
  (exec_abortCycle h hargs hk (if_neg (show ¬ s.cycles.has k = true by rw [hh]; decide))).trans
    (congrArg _ (answerWith_read s .abortCycle r rest (.refused .notPresent) [] h.awake.2))

theorem exec_abortCycle_present (hh : s.cycles.has k = true) : exec .abortCycle s =
    .next ((((s.took .abortCycle).reserve rest).abortKinds (· == k) .host).answerWith r (.plain .ok)) :=
  exec_abortCycle h hargs hk (if_pos hh)

end row

end Sys2Proof.Machine
end

section
/-! What the requests for flags, latches, the regime, the run level and SOFT RESET leave (R21, R85, R119, R175, R178, R183). -/

namespace Sys2Proof.Machine
open State

/-- R173: the request left its queue, and the last frame of the Origin Queue is its answer. -/
def State.Answers (s : State) (r : Request) (rest : List Request) (t : State) (result : Result) (data : List Word) : Prop :=
  t.mu.queue = rest ∧ t.ring.reserved = false ∧ t.ring.origin.getLast? = some (s.answerFrame r result data)

variable {s x u : State} {r : Request} {rest : List Request} {a : Answer}

theorem State.Answerable.answered {result : Result} {data : List Word} (h : s.Answerable rest x) :
    s.Answers r rest (x.answerWith r { result := result, data := data }) result data := h.answers

/-! ### What an answer leaves -/

theorem State.answerWith_queues_frame {m : Management} {g : Ring} (h : (x.setMu m).setRing g = u) :
    ((x.answerWith r a).setMu m).setRing g = u := h

theorem State.reserve_queues_frame (u : State) (rest : List Request) (m : Management) (g : Ring) :
    ((((u.reserve rest).setMu m).setRing g).setMu u.mu).setRing u.ring = u := rfl

/-! ### The flag record (R175) -/

theorem ackFlags_answers (h : s.Serves 0x02 r rest) (hargs : r.args.length = 2) : ∃ t, exec .ackFlags s = .next t ∧
    t.mu.flags = s.mu.flags &&& ~~~(r.args.getD 0 0#16) ∧ t.mu.conditions = s.mu.conditions ∧
    s.Answers r rest t .ok [t.mu.flags, t.mu.conditions] ∧ (t.setMu s.mu).setRing s.ring = s.took .ackFlags := by
  obtain ⟨g, hown, hexec⟩ := exec_ackFlags h hargs
  obtain ⟨m, hm⟩ : ∃ m : Management, m =
    { s.mu with queue := rest, flags := s.mu.flags &&& ~~~(r.args.getD 0 0#16) } := ⟨_, rfl⟩
  have hans : s.Answerable rest ((((s.took .ackFlags).reserve rest).setMu m).setRing g) := by
    refine ⟨by rw [hm]; rfl, by rw [hm]; exact h.awake.2, ?_⟩
    show (if s.lines.setup then Config.setupAddress else g.own) = _
    rw [hown]
    rfl
  have hframe := (s.took .ackFlags).reserve_queues_frame rest m g
  have hmu : ((((s.took .ackFlags).reserve rest).setMu m).setRing g).mu = m := rfl
  obtain ⟨y, hy⟩ : ∃ y, y = (((s.took .ackFlags).reserve rest).setMu m).setRing g := ⟨_, rfl⟩
  rw [← hm, ← hy] at hexec
  rw [← hy] at hans hframe hmu
  have hflags : y.mu.flags = s.mu.flags &&& ~~~(r.args.getD 0 0#16) := by rw [hmu, hm]
  have hconditions : y.mu.conditions = s.mu.conditions := by rw [hmu, hm]
  rw [← hflags, ← hconditions] at hexec
  exact ⟨_, hexec, hflags, hconditions, hans.answered, State.answerWith_queues_frame hframe⟩

theorem setNoteMask_answers (h : s.Serves 0x03 r rest) (hargs : r.args.length = 2) : ∃ t, exec .setNoteMask s = .next t ∧
    t.mu.maskFlags = r.args.getD 0 0#16 &&& 0x807F#16 ∧ t.mu.maskConditions = r.args.getD 1 0#16 &&& 0x03FF#16 ∧
    t.mu.flags = s.mu.flags ∧ t.mu.conditions = s.mu.conditions ∧ s.Answers r rest t .ok [] ∧
    (t.setMu s.mu).setRing s.ring = s.took .setNoteMask := by
  obtain ⟨m, hm⟩ : ∃ m : Management, m = { s.mu with
    queue := rest
    maskFlags := r.args.getD 0 0#16 &&& 0x807F#16
    maskConditions := r.args.getD 1 0#16 &&& 0x03FF#16 } := ⟨_, rfl⟩
  have hrun : runSetNoteMask r ((s.took .setNoteMask).reserve rest) =
      (((s.took .setNoteMask).reserve rest).setMu m, .plain .ok) := by
    rw [hm]
    rfl
  have hans : s.Answerable rest (((s.took .setNoteMask).reserve rest).setMu m) := by
    refine ⟨by rw [hm]; rfl, by rw [hm]; exact h.awake.2, rfl⟩
  have hframe : ((((s.took .setNoteMask).reserve rest).setMu m).setMu s.mu).setRing s.ring = s.took .setNoteMask :=
    (s.took .setNoteMask).reserve_queues_frame rest m { s.ring with reserved := true }
  have hmu : (((s.took .setNoteMask).reserve rest).setMu m).mu = m := rfl
  obtain ⟨y, hy⟩ : ∃ y, y = ((s.took .setNoteMask).reserve rest).setMu m := ⟨_, rfl⟩
  rw [← hy] at hrun hans hframe hmu
  have hfields : y.mu.maskFlags = r.args.getD 0 0#16 &&& 0x807F#16 ∧
      y.mu.maskConditions = r.args.getD 1 0#16 &&& 0x03FF#16 ∧ y.mu.flags = s.mu.flags ∧
      y.mu.conditions = s.mu.conditions := by
    rw [hmu, hm]
    exact ⟨rfl, rfl, rfl, rfl⟩
  obtain ⟨hmask, hmask', hflags, hconditions⟩ := hfields
  exact ⟨_, requestRow_ran .setNoteMask 0x03 (·.hasArgs 2) runSetNoteMask h rfl (Request.hasArgs_of hargs) hrun, hmask,
    hmask', hflags, hconditions, hans.answered, State.answerWith_queues_frame hframe⟩

/-! ### SOFT RESET (R178) -/

/-- R178: SOFT RESET is answered with its frame marked, so that its transmission starts the reset. -/
theorem softReset_answers (h : s.Serves 0x17 r rest) (hargs : r.args.length = 0) : ∃ t, exec .softReset s = .next t ∧
    t.mu.softWait = true ∧ t.mu.queue = rest ∧ t.ring.origin.getLast? = some (.mrsp r.src s.answering
      [r.payload.headD 0#16, 0x0000#16] true) := by
  obtain ⟨y, hy⟩ : ∃ y, y = ((s.took .softReset).reserve rest).setMu { s.mu with queue := rest, softWait := true } := ⟨_, rfl⟩
  have hrun : (fun (_ : Request) (u : State) => (u.setMu { u.mu with softWait := true }, Answer.plain .ok)) r
      ((s.took .softReset).reserve rest) = (y, .plain .ok) := by
    rw [hy]
    rfl
  have hsoft : y.mu.softWait = true := by rw [hy]; rfl
  have hqueue : y.mu.queue = rest := by rw [hy]; rfl
  have hanswering : y.answering = s.answering := by rw [hy]; rfl
  refine ⟨_, requestRow_ran .softReset 0x17 (·.hasArgs 0) _ h rfl (Request.hasArgs_of hargs) hrun, hsoft, hqueue, ?_⟩
  rw [State.answerWith, State.response, hanswering, hsoft]
  exact List.getLast?_concat

/-! ### SET REGIME and SET RUN LEVEL (R21, R183) -/

theorem setRegime_answers (b : Bool) (h : s.Serves 0x0D r rest) (hargs : r.args.length = 1)
    (hb : r.arg 0 = if b then 1 else 0) : ∃ t, exec .setRegime s = .next t ∧ t.trans = { s.trans with night := b } ∧
      (s.trans.night ≠ b → .regimeChanged ∈ t.posts) ∧ s.Answers r rest t .ok [] := by
  have hexec := exec_setRegime b h hargs hb
  have hans : s.Answerable rest (((s.took .setRegime).reserve rest).setNight b) := by
    rw [State.setNight_eq]
    exact ⟨rfl, h.awake.2, rfl⟩
  have htrans : (((s.took .setRegime).reserve rest).setNight b).trans = { s.trans with night := b } := by
    rw [State.setNight_eq]
    rfl
  have hposts : (((s.took .setRegime).reserve rest).setNight b).posts =
      if s.trans.night = b then s.posts.erase .setRegime else .regimeChanged :: s.posts.erase .setRegime := by
    rw [State.setNight_eq]
    rfl
  obtain ⟨y, hy⟩ : ∃ y, y = ((s.took .setRegime).reserve rest).setNight b := ⟨_, rfl⟩
  rw [← hy] at hexec hans htrans hposts
  refine ⟨_, hexec, htrans, fun hne => ?_, hans.answered⟩
  show .regimeChanged ∈ y.posts
  rw [hposts, if_neg hne]
  exact List.mem_cons_self

theorem setRunLevel_answers (l : RunLevel) (w : Bool) (h : s.Serves 0x0E r rest) (hargs : r.args.length = 2)
    (hl : levelOfCode (r.arg 0) = some l) (hne : l ≠ .unconfigured) (hw : r.arg 1 = if w then 1 else 0)
    (hlevel : s.rc.level ≠ .unconfigured) : ∃ t, exec .setRunLevel s = .next t ∧
      t.rc = { s.rc with level := l, wake := w } ∧ s.Answers r rest t .ok [] ∧
      (s.rc.level ≠ l → .cycleRunLevelChange l ∈ t.posts ∧ .ringRunLevelChange l ∈ t.posts ∧
        .muRunLevelChange l ∈ t.posts ∧ (l = .watch → .inhibitClaim .run ∈ t.posts) ∧
        (l = .halt → .inhibitClaim .halt ∈ t.posts)) := by
  obtain ⟨hlo, hhi⟩ := levelOfCode_bounds hl hne
  have hwake : r.arg 1 ≤ 1 ∧ decide (r.arg 1 = 1) = w := by
    rw [hw]
    cases w <;> exact ⟨by decide, rfl⟩
  have hexec := exec_setRunLevel_taken h hargs hlo hhi hwake.1 w hlevel hl hwake.2
  obtain ⟨u, hu⟩ : ∃ u, u = ((s.took .setRunLevel).reserve rest).setRc { s.rc with wake := w } := ⟨_, rfl⟩
  have hwithin : ((s.took .setRunLevel).reserve rest).Within [.rc] (u.setLevel l) := by
    rw [hu]
    exact ((State.Within.refl _).setRc (by simp)).trans (State.setLevel_within _ l) (by simp)
  have hrc : u.rc = { s.rc with wake := w } := by rw [hu]; rfl
  rw [← hu] at hexec
  refine ⟨_, hexec, ?_, (hwithin.answerable_ring h.awake.2 (by simp) (by simp) (by simp)).answered, fun hchange =>
    State.setLevel_posts (u := u) (by rw [hrc]; exact hchange)⟩
  show (u.setLevel l).rc = _
  rw [State.setLevel_rc, hrc]

/-! ### CLEAR FAULT (R85, R119) -/

theorem clearBlowerFault_answers (h : s.Serves 0x04 r rest) (hargs : r.args.length = 1) (h0 : r.arg 0 = 0)
    (hfault : s.inter.fault = true) : ∃ t, exec .clearFault s = .next t ∧ t.inter.fault = false ∧
      t.inter.inhibits = { s.inter.inhibits with airflow := false } ∧ t.inter.mismatch = 0 ∧
      (s.inter.row .blower ≠ none → t.inter.settle = some (s.param 74 3)) ∧
      (s.inter.proof = false → t.inter.proof = false) ∧ .conditionPost .blowerFault false ∈ t.posts ∧
      s.Answers r rest t .ok [] ∧ t.water = s.water := by
  have hexec := exec_clearFault_blower h hargs h0 hfault
  obtain ⟨v, hv⟩ : ∃ v, v = ((s.took .clearFault).reserve rest).resolving (Interlock.unlatched s.plant) := ⟨_, rfl⟩
  have hwithin : ((s.took .clearFault).reserve rest).Within [.inter, .ring] v := by
    rw [hv]
    exact State.resolving_within _ _
  have hown : v.ring.own = s.ring.own := by
    have hring := (State.resolving_onlyInterlock ((s.took .clearFault).reserve rest) (Interlock.unlatched s.plant)).2
    rw [← hv] at hring
    exact (congrArg Ring.own hring :)
  have hinter : { v.inter with
      rows := ((s.inter.unlatched s.plant).resolve s.plant).rows
      leaving := ((s.inter.unlatched s.plant).resolve s.plant).leaving } = (s.inter.unlatched s.plant).resolve s.plant := by
    rw [hv]
    exact State.resolving_rest ((s.took .clearFault).reserve rest) (Interlock.unlatched s.plant)
  have hresolved := s.inter.resolve_unlatched s.plant
  rw [← hinter] at hresolved
  obtain ⟨hclear, hinhibits, hmismatch, hsettle, hproof⟩ := hresolved
  have hwater : v.water = s.water := hwithin.same .water (by simp)
  rw [← hv] at hexec
  exact ⟨_, hexec, hclear, hinhibits, hmismatch, hsettle, hproof, List.mem_append_right _ (List.mem_singleton_self _),
    (State.Within.answerable hwithin.post h.awake.2 (by simp) (by simp) hown).answered, hwater⟩

theorem clearPumpFault_answers (h : s.Serves 0x04 r rest) (hargs : r.args.length = 1) (h1 : r.arg 0 = 1)
    (hfault : s.water.pumpFault = true) : ∃ t, exec .clearFault s = .next t ∧
      t.water = { s.water with pumpFault := false } ∧ .inhibitRelease .pump ∈ t.posts ∧
      .conditionPost .pumpFault false ∈ t.posts ∧
      (s.water.state = .near ∨ s.water.state = .full → s.pumpFitted = true → .cycleRequest .pumpOut ∈ t.posts) ∧
      (∃ p, t.posts.getLast? = some (.tankReport p) ∧ p.state = s.water.state ∧ p.probe = none) ∧
      s.Answers r rest t .ok [] ∧ t.inter = s.inter := by
  obtain ⟨p, hstate, hprobe, hclear⟩ := State.clearPumpFault_latched (u := (s.took .clearFault).reserve rest) hfault
  have hexec := exec_clearFault_pump h hargs h1
  obtain ⟨es, hes⟩ : ∃ es, es = s.posts.erase .clearFault ++ [.inhibitRelease .pump, .conditionPost .pumpFault false] ++
      (if TankState.wantsPump s.water.state && s.pumpFitted then [.cycleRequest .pumpOut] else []) := ⟨_, rfl⟩
  obtain ⟨y, hy⟩ : ∃ y, y = (((s.took .clearFault).reserve rest).setWater { s.water with pumpFault := false }).setPosts
      (es ++ [.tankReport p]) := ⟨_, rfl⟩
  have hy' : ((s.took .clearFault).reserve rest).clearPumpFault = y := by
    rw [hclear, hy, hes]
    rfl
  have hans : s.Answerable rest y := by
    rw [hy]
    exact ⟨rfl, h.awake.2, rfl⟩
  have hwater : y.water = { s.water with pumpFault := false } := by rw [hy]; rfl
  have hinter : y.inter = s.inter := by rw [hy]; rfl
  have hposts : y.posts = es ++ [.tankReport p] := by rw [hy]; rfl
  have hmem {e : Instr} (he : e ∈ es) : e ∈ y.posts := by
    rw [hposts]
    exact List.mem_append_left _ he
  rw [hy'] at hexec
  refine ⟨_, hexec, hwater, hmem ?_, hmem ?_, fun hnear hfitted => hmem ?_,
    ⟨p, (congrArg List.getLast? hposts).trans List.getLast?_concat, hstate, hprobe⟩, hans.answered, hinter⟩
  · simp [hes]
  · simp [hes]
  · have hwants : (TankState.wantsPump s.water.state && s.pumpFitted) = true := by
      rw [hfitted]
      obtain hnear | hnear := hnear <;> rw [hnear] <;> rfl
    simp [hes, hwants]

/-- R117, log 36: with the latch clear CLEAR FAULT (PUMP) is reported, and no more. -/
theorem clearPumpFault_idle_answers (h : s.Serves 0x04 r rest) (hargs : r.args.length = 1) (h1 : r.arg 0 = 1)
    (hfault : s.water.pumpFault = false) : ∃ t p, exec .clearFault s = .next t ∧ s.Answers r rest t .ok [] ∧
      t.posts = s.posts.erase .clearFault ++ [.tankReport p] ∧ p.state = s.water.state ∧ p.probe = none ∧
      t.setPosts s.posts = s.served r rest .ok [] := by
  have hexec := exec_clearFault_pump h hargs h1
  obtain ⟨y, hy⟩ : ∃ y, y = ((s.took .clearFault).reserve rest).post [.tankReport (s.reportOf s.water none)] := ⟨_, rfl⟩
  have hy' : ((s.took .clearFault).reserve rest).clearPumpFault = y := by
    rw [State.clearPumpFault_clear (u := (s.took .clearFault).reserve rest) hfault, hy]
    rfl
  have hans : s.Answerable rest y := by
    rw [hy]
    exact ⟨rfl, h.awake.2, rfl⟩
  have hposts : y.posts = s.posts.erase .clearFault ++ [.tankReport (s.reportOf s.water none)] := by rw [hy]; rfl
  have hframe : (y.answerWith r (.plain .ok)).setPosts s.posts = s.served r rest .ok [] := by
    rw [hans.answer_eq (by rw [hy]; rfl), hy]
    rfl
  rw [hy'] at hexec
  exact ⟨_, _, hexec, hans.answered, hposts, rfl, rfl, hframe⟩

end Sys2Proof.Machine
end

section
/-! Requests of the host take effect (R85, R119, R125, R137, R142, R143, R149, R151, R152, R175, R178, R183). -/

namespace Sys2Proof.Machine
open State

variable {s : State} {r : Request} {rest : List Request} {st : Stage} {k : CycleKind}

/-! ### The stages (R151, R152) -/

theorem setFilterCharge_answers (h : s.Serves 0x07 r rest) (hargs : r.args.length = 3)
    (hst : stageOfCode (r.arg 0) = some st) (hhi : r.arg 1 ≤ 255) (hfit : (s.filters.stage st).fitted = true) :
    ∃ t news, exec .setFilterCharge s = .next t ∧
      (t.filters.stage st).charge = r.arg 1 * 65536 + r.arg 2 ∧ (t.filters.stage st).fitted = true ∧
      (t.filters.stage st).verdict = (s.filters.stage st).verdict ∧
      (t.filters.stage st).baseline = (s.filters.stage st).baseline ∧ (t.filters.stage st).last = (s.filters.stage st).last ∧
      (t.filters.stage st).runSweeps = (s.filters.stage st).runSweeps ∧ s.StageStands st (t.filters.stage st) ∧
      ((t.filters.stage st).state = .worn ∨ (t.filters.stage st).state = .spent →
        (t.filters.stage st).doorOpened = (s.filters.stage st).doorOpened) ∧
      (∀ g, g ≠ st → (t.filters.stage g).charge = (s.filters.stage g).charge) ∧ t.filters.derate = s.filters.derate ∧
      s.FilterNews t news ∧ t.posts = s.posts.erase .setFilterCharge ++ news ∧ s.Answers r rest t .ok [] := by
  obtain ⟨u, hu⟩ : ∃ u, u = (s.took .setFilterCharge).reserve rest := ⟨_, rfl⟩
  obtain ⟨y, hy⟩ : ∃ y, y = u.chargeSet st (r.arg 1 * 65536 + r.arg 2) := ⟨_, rfl⟩
  have hfilters : u.filters = s.filters := by rw [hu]; rfl
  have hstands (x : StageRecord) : u.StageStands st x ↔ s.StageStands st x := by rw [hu]; rfl
  have hexec : exec .setFilterCharge s = .next (y.answerWith r (.plain .ok)) := by
    rw [hy, hu]
    exact exec_setFilterCharge h hargs hst hhi (State.setCharge_fitted _ hfit)
  have hwithin : ((s.took .setFilterCharge).reserve rest).Within [.filters] y := by
    rw [hy, ← hu]
    exact u.filterChange_within _
  have hans := hwithin.answerable_ring h.awake.2 (by simp) (by simp) (by simp)
  have hown := State.chargeSet_own (u := u) (st := st) (r.arg 1 * 65536 + r.arg 2) (by rw [hfilters]; exact hfit) rfl
  have hother (g : Stage) (hg : g ≠ st) := State.chargeSet_other (u := u) (r.arg 1 * 65536 + r.arg 2) hg
  have hderate := State.chargeSet_derate (u := u) (st := st) (r.arg 1 * 65536 + r.arg 2)
  have hposts : y.posts = u.posts ++ filterPosts u.filters y.filters := by rw [hy]; exact State.filterChange_posts u _
  have hflight : u.posts = s.posts.erase .setFilterCharge := by rw [hu]; rfl
  rw [← hy, hfilters, hstands] at hown
  rw [hfilters, hflight] at hposts
  simp only [← hy, hfilters] at hother hderate
  obtain ⟨hcharge, hfitted, hverdict, hbaseline, hlast, hrun, hstand, hdoor⟩ := hown
  exact ⟨_, _, hexec, hcharge, hfitted, hverdict, hbaseline, hlast, hrun, hstand, hdoor, hother, hderate,
    filterPosts_news s y, hposts, hans.answered⟩

theorem filterReset_answers (h : s.Serves 0x08 r rest) (hargs : r.args.length = 1)
    (hst : stageOfCode (r.arg 0) = some st) (hmay : s.mayReset st = true) :
    ∃ t news, exec .filterReset s = .next t ∧
      (t.filters.stage st).charge = 0 ∧ (t.filters.stage st).verdict = .none ∧ (t.filters.stage st).baseline = none ∧
      (t.filters.stage st).last = none ∧ (t.filters.stage st).doorOpened = false ∧
      (t.filters.stage st).fitted = true ∧ s.StageStands st (t.filters.stage st) ∧ t.filters.DerateSet ∧
      (∀ g, (s.filters.stage g).fitted = true → (t.filters.stage g).runSweeps = 0) ∧
      (∀ g, g ≠ st → (t.filters.stage g).charge = (s.filters.stage g).charge ∧
        (t.filters.stage g).verdict = (s.filters.stage g).verdict ∧
        (t.filters.stage g).baseline = (s.filters.stage g).baseline ∧
        (t.filters.stage g).last = (s.filters.stage g).last) ∧ s.FilterNews t news ∧
      t.posts = s.posts.erase .filterReset ++ news ++ [.cycleRequest .profile] ∧ s.Answers r rest t .ok [] := by
  obtain ⟨u, hu⟩ : ∃ u, u = (s.took .filterReset).reserve rest := ⟨_, rfl⟩
  obtain ⟨y, hy⟩ : ∃ y, y = u.stageReset st := ⟨_, rfl⟩
  have hfilters : u.filters = s.filters := by rw [hu]; rfl
  have hstands (x : StageRecord) : u.StageStands st x ↔ s.StageStands st x := by rw [hu]; rfl
  have hmay' : u.mayReset st = true := by rw [hu]; exact hmay
  have hran : u.filterReset st = (y, .ok) := by rw [hy]; exact State.filterReset_accepted hmay'
  have hwithin : ((s.took .filterReset).reserve rest).Within [.filters] y := by
    have hfirst := u.filterReset_within st
    rwa [hran, hu] at hfirst
  have hans := hwithin.answerable_ring h.awake.2 (by simp) (by simp) (by simp)
  obtain ⟨hfit, -⟩ := State.mayReset_iff.1 hmay'
  have hown := State.stageReset_own (u := u) hfit rfl
  have hrun (g : Stage) (hg : (u.filters.stage g).fitted = true) := State.stageReset_runSweeps (u := u) (st := st) hg
  have hother (g : Stage) (hg : g ≠ st) := State.stageReset_other (u := u) hg
  have hderate := State.stageReset_derateSet (u := u) (st := st)
  have hnews := State.stageReset_news (u := u) (st := st)
  have hposts := State.stageReset_posts (u := u) (st := st)
  have hflight : u.posts = s.posts.erase .filterReset := by rw [hu]; rfl
  have hfilterNews (news : List Instr) : u.FilterNews y news ↔ s.FilterNews y news := by
    rw [State.FilterNews, State.FilterNews, hfilters]
  rw [hu] at hran
  rw [← hy, hfilters, hflight] at hposts
  rw [← hy, hstands] at hown
  rw [← hy, hfilterNews, hfilters] at hnews
  rw [← hy] at hderate
  simp only [← hy, hfilters] at hrun hother
  obtain ⟨hcharge, hverdict, hbaseline, hlast, hdoor, hfitted, hstand⟩ := hown
  exact ⟨_, _, exec_filterReset h hargs hst hran, hcharge, hverdict, hbaseline, hlast, hdoor, hfitted, hstand, hderate,
    hrun, hother, hnews, hposts, hans.answered⟩

/-! ### The cycles (R125, R137) -/

theorem requestCycle_answers (h : s.Serves 0x0B r rest) (hargs : r.args.length = 1)
    (hk : cycleKindOfCode (r.arg 0) = some k) (hr : s.cycleRefusal k = none) (hh : s.cycles.has k = false) :
    ∃ t u x made, exec .requestCycle s = .next t ∧
      exec (.cycleRequest k) s = .next u ∧ t.cycles = u.cycles ∧ t.posts = s.posts.erase .requestCycle ++ made ∧
      u.posts = s.posts.erase (.cycleRequest k) ++ made ∧ s.Answers r rest t x [] ∧
      ((∃ c ∈ t.cycles.queue, c.kind = k) → x = .ok) ∧ ((∀ c ∈ t.cycles.queue, c.kind ≠ k) → x = .started) ∧
      (s.cycles.running = none → s.cycles.queue = [] → s.cycles.suspended = none → x = .started) ∧
      (∀ c, s.cycles.running = some c → c.held = false →
        outranks k c.kind = false ∨ c.kind = .defrost ∨ c.kind = .pumpOut ∨ s.cycles.suspended ≠ none → x = .ok) := by
  obtain ⟨t, u, made, ht, hu, hsame, hposts, hposts', hcycles, hans⟩ := exec_requestCycle_taken h hargs hk hr hh
  have hok (hq : t.cycles.queuedKind k = true) : (if t.cycles.queuedKind k then Result.ok else .started) = .ok := if_pos hq
  have hstarted (hq : ∀ c ∈ t.cycles.queue, c.kind ≠ k) :
      (if t.cycles.queuedKind k then Result.ok else .started) = .started :=
    if_neg fun hin => by
      obtain ⟨c, hc, hck⟩ := (t.cycles.queuedKind_iff k).1 hin
      exact hq c hc hck
  refine ⟨t, u, _, made, ht, hu, hsame, hposts, hposts', hans, fun hin => hok ((t.cycles.queuedKind_iff k).2 hin), hstarted,
    fun hfree hq hs => hstarted ?_, fun c hc hrun hstays => hok ?_⟩
  · rw [hsame, hcycles, State.afterRequest_alone (u := s.quiet) hfree hq hs]
    exact fun c hc => absurd hc List.not_mem_nil
  · rw [hsame, hcycles, State.afterRequest_waits (u := s.quiet) hc hrun hstays]
    exact s.quiet.queuedWith_queued k

theorem abortCycle_answers (h : s.Serves 0x0C r rest) (hargs : r.args.length = 1)
    (hk : cycleKindOfCode (r.arg 0) = some k) (hlaw : s.CycleLaw) (hh : s.cycles.has k = true) :
    ∃ t, exec .abortCycle s = .next t ∧ t.cycles.has k = false ∧ s.Answers r rest t .ok [] ∧
      (∀ c, s.cycles.running = some c ∨ s.cycles.suspended = some c → c.kind = k → t.cycles.record k =
        { outcome := .aborted .host, endSweep := s.ring.lastBegin, completed := c.completed }) ∧
      (∀ c ∈ s.cycles.queue, c.kind = k → t.cycles.record k =
        { outcome := .cancelled, endSweep := s.ring.lastBegin, completed := c.completed }) := by
  have hexec := exec_abortCycle_present h hargs hk hh
  obtain ⟨u, hu⟩ : ∃ u, u = (s.took .abortCycle).reserve rest := ⟨_, rfl⟩
  have hcycles : u.cycles = s.cycles := by rw [hu]; rfl
  have hlawful : u.cycles.Lawful := by rw [hcycles]; exact s.cycleLaw_iff.1 hlaw
  have hrecord (c : Cycle) (hc : c.kind = k) := State.aborted_record hlawful .host hc
  have hend (c : Cycle) (o : CycleOutcome) : u.endRecord c o =
      { outcome := o, endSweep := s.ring.lastBegin, completed := c.completed } := by rw [hu]; rfl
  have hgone := u.abortKinds_gone k .host
  have hwithin := u.abortKinds_within (· == k) .host
  rw [← hu] at hexec
  obtain ⟨y, hy⟩ : ∃ y, y = u.abortKinds (· == k) .host := ⟨_, rfl⟩
  rw [← hy] at hexec hgone hwithin
  rw [hu] at hwithin
  simp only [hcycles, hend] at hrecord
  refine ⟨_, hexec, ?_, (hwithin.answerable_ring h.awake.2 (by simp) (by simp) (by simp)).answered,
    fun c hc hck => hgone.record.trans ((hrecord c hck).1 hc), fun c hc hck => hgone.record.trans ((hrecord c hck).2 hc)⟩
  exact Bool.eq_false_iff.2 fun hin => hgone.absent ((y.cycles.has_iff k).1 hin)

/-- Settles O51, a request at a time. -/
theorem hostRequestsTakeEffect : Obligations.HostRequestsTakeEffect := by
  intro s r rest Answers hAnswers
  obtain rfl : Answers = s.Answers r rest :=
    funext fun t => funext fun x => funext fun ds => propext (hAnswers t x ds)
  refine ⟨ackFlags_answers, setNoteMask_answers, clearBlowerFault_answers, clearPumpFault_answers,
    fun n h hargs hn => ⟨fun h0 => exec_clearFault_blower_idle h hargs (hn.trans h0),
      fun h1 => clearPumpFault_idle_answers h hargs (hn.trans h1)⟩,
    fun st h hargs hst hhi => ⟨fun hun => ?unfitted, setFilterCharge_answers h hargs hst hhi⟩,
    fun st Serviced h hargs hst hserviced => ?reset, fun k Fault Condition h hargs hk hF hC => ?request,
    fun k => exec_abortCycle_absent, fun k => abortCycle_answers, setRegime_answers, setRunLevel_answers,
    exec_setRunLevel_refused, softReset_answers⟩
  case unfitted =>
    exact (exec_setFilterCharge h hargs hst hhi (State.setCharge_unfitted _ hun)).trans
      (congrArg _ (answerWith_read s .setFilterCharge r rest (.refused .condition) [] h.awake.2))
  case reset =>
    have hmay : Serviced ↔ s.mayReset st = true := hserviced.trans State.mayReset_iff.symm
    refine ⟨fun hno => ?_, fun hyes => filterReset_answers h hargs hst (hmay.1 hyes)⟩
    have hrefused := State.filterReset_refused (u := (s.took .filterReset).reserve rest) (st := st)
      fun hyes => hno (hmay.2 hyes)
    exact (exec_filterReset h hargs hst hrefused).trans
      (congrArg _ (answerWith_read s .filterReset r rest (.refused .notServiced) [] h.awake.2))
  case request =>
    have hfault (hf : ¬ Fault) := State.cycleRefusal_other (hF.not.1 hf)
    have hcondition (hf : ¬ Fault) (hc : Condition) : s.cycleRefusal k = some .condition :=
      (hfault hf).trans (if_pos (hC.1 hc))
    have hnone (hf : ¬ Fault) (hc : ¬ Condition) : s.cycleRefusal k = none :=
      (hfault hf).trans (if_neg fun h => hc (hC.2 h))
    refine ⟨fun hf => exec_requestCycle_idle h hargs hk (State.requestCycle_refused (State.cycleRefusal_fault (hF.1 hf))),
      fun hf hc => exec_requestCycle_idle h hargs hk (State.requestCycle_refused (hcondition hf hc)),
      fun hf hc hh => exec_requestCycle_idle h hargs hk (State.requestCycle_merged (hnone hf hc) hh),
      fun hf hc hh => requestCycle_answers h hargs hk (hnone hf hc) hh⟩

end Sys2Proof.Machine
end
